-- ==== Sys2Proof/Word.lean ====
section
/-! DEFINITION. The plain word types of the ZV-9680 (R6, R7): bytes, 32-bit registers, 64-bit values. -/

namespace Sys2Proof

/-- A byte of a packet, a frame or the flash. -/
abbrev Byte := BitVec 8

/-- A 32-bit register or packet word (R7, R317). -/
abbrev Word := BitVec 32

/-- A 64-bit parameter value (R317) or wide register (R7). -/
abbrev Word64 := BitVec 64

end Sys2Proof
end

