-- ==== Sys2Proof/Config.lean ====
section
/-! DEFINITION. What the spec leaves open: opaque constants without a body, so that nothing can be proved of their
values.  Each is named in the assumption log. -/

namespace Sys2Proof

/-- Core cycles that pass during one time tick; the core clock is 800 ps nominal, may be spread down or run on the
harbour clock (R5, R22, R164), so the number is not fixed by the time tick.  The argument counts ticks. -/
opaque Config.coreCycles : Nat → Nat

/-- A fresh open value: the argument is the counter `State.free`, which every use advances. -/
opaque Config.freeNat : Nat → Nat

/-- A fresh open signed value: the argument is the counter `State.free`. -/
opaque Config.freeInt : Nat → Int

/-- The factory identity record and constants of the calibration store that are not carried by a command
(R34, R183, R368), by an index of the quantity. -/
opaque Config.factory : Nat → Nat

/-- Nominal constants used without a valid calibration store (R37), by an index of the quantity. -/
opaque Config.nominal : Nat → Nat

/-- The factory code-density table of interpolator unit `i`: the position of tap code `c` in 2^-16 nominal bins (R183). -/
opaque Config.codeTable : Nat → Nat → Nat

/-- The FOM ratio v of an eye whose main cursor has no amplitude, times 255 (R33 divides by it), by its vin. -/
opaque Config.noCursor : Nat → Nat

/-- The delay of PCS and FEC that an edge stamp is corrected for (chapter 04, PTP), in 2^-16 ns, by lane mode, FEC in
effect and direction; the spec gives it as about some figure only. -/
opaque Config.pcsDelay : Nat → Nat → Bool → Nat

end Sys2Proof
end

