-- ==== Sys2Proof/Machine/Bits.lean ====
section
/-! DEFINITION. Fields, signed values, byte orders and check codes: the helpers every other file reads words with.
R6 (bit numbering), R7 (most significant byte first on networks), R317 (values in 32-bit words), R318 (CRC-32C). -/

namespace Sys2Proof.Machine

/-- Bits hi..lo of `v` (R6). -/
def fld (v hi lo : Nat) : Nat := (v >>> lo) % 2 ^ (hi + 1 - lo)

/-- Bit `n` of `v` (R6). -/
def bitOf (v n : Nat) : Bool := v.testBit n

/-- A flag as a number. -/
def b2n (b : Bool) : Nat := if b then 1 else 0

/-- The mask with bit `n` alone. -/
def bitMask (n : Nat) : Nat := 2 ^ n

/-- `v` with bit `n` set. -/
def setBit (v n : Nat) : Nat := v ||| 2 ^ n

/-- `v` with bit `n` clear. -/
def clrBit (v n : Nat) : Nat := if v.testBit n then v - 2 ^ n else v

/-- The bits of `v` that are not in `m`, for a `w`-bit word. -/
def clrMask (w v m : Nat) : Nat := v &&& ((2 ^ w - 1) ^^^ (m % 2 ^ w))

/-- The number of set bits among the low `w`. -/
def popCount (w v : Nat) : Nat := ((List.range w).filter (fun i => v.testBit i)).length

/-- A `w`-bit word read as two's complement (R6). -/
def sext (w v : Nat) : Int :=
  let u := v % 2 ^ w
  if u < 2 ^ (w - 1) then (u : Int) else (u : Int) - (2 ^ w : Nat)

/-- A value as a `w`-bit two's complement word (R6). -/
def wrapN (w : Nat) (v : Int) : Nat := (v % ((2 ^ w : Nat) : Int)).toNat

/-- A value narrowed to a signed `w`-bit range by wrapping. -/
def wrapI (w : Nat) (v : Int) : Int := sext w (wrapN w v)

/-- Saturating addition below 2^w. -/
def satAdd (w a b : Nat) : Nat := min (a + b) (2 ^ w - 1)

/-- `n` bytes of `v`, most significant first (R7). -/
def bytesBE : Nat → Nat → List Byte
  | 0, _ => []
  | n + 1, v => BitVec.ofNat 8 (v >>> (8 * n)) :: bytesBE n v

/-- `n` bytes of `v`, least significant first (R7: PCIe structures). -/
def bytesLE (n v : Nat) : List Byte := (bytesBE n v).reverse

/-- The number that bytes spell, most significant first (R7). -/
def natBE (l : List Byte) : Nat := l.foldl (fun a b => a * 256 + b.toNat) 0

/-- The number that bytes spell, least significant first. -/
def natLE (l : List Byte) : Nat := natBE l.reverse

/-- Bytes `i .. i+n-1` of a byte string, read most significant first. -/
def beAt (l : List Byte) (i n : Nat) : Nat := natBE ((l.drop i).take n)

/-- The bytes of 32-bit words in transmission order. -/
def wordsBytes (l : List Word) : List Byte := l.flatMap (fun w => bytesBE 4 w.toNat)

/-- 32-bit words from bytes, the last one zero-padded (R346). -/
def bytesWordsAux : Nat → List Byte → List Word
  | 0, _ => []
  | n + 1, l =>
    BitVec.ofNat 32 (natBE ((l.take 4) ++ List.replicate (4 - l.length) 0)) :: bytesWordsAux n (l.drop 4)

/-- 32-bit words from bytes, the last one zero-padded (R346). -/
def bytesWords (l : List Byte) : List Word := bytesWordsAux ((l.length + 3) / 4) l

/-- One 32-bit word. -/
def w32 (v : Nat) : Word := BitVec.ofNat 32 v

/-- A value of up to 64 bits in two words, most significant first (R317). -/
def w64 (v : Nat) : List Word := [w32 (v >>> 32), w32 v]

/-- A signed value sign-extended to two words (R317). -/
def w64i (v : Int) : List Word := w64 (wrapN 64 v)

/-- The number that words spell, most significant first (R317). -/
def natWords (l : List Word) : Nat := l.foldl (fun a w => a * 2 ^ 32 + w.toNat) 0

/-- One bit of a reflected CRC with polynomial `p` (R318). -/
def crcBit (p c : Nat) : Nat := if c % 2 = 1 then (c / 2) ^^^ p else c / 2

/-- One byte of a reflected CRC. -/
def crcByte (p c : Nat) (b : Byte) : Nat :=
  crcBit p (crcBit p (crcBit p (crcBit p (crcBit p (crcBit p (crcBit p (crcBit p (c ^^^ b.toNat))))))))

/-- CRC-32C, Castagnoli, as R318 gives it. -/
def crc32c (l : List Byte) : Nat := (l.foldl (crcByte 0x82F63B78) 0xFFFFFFFF) ^^^ 0xFFFFFFFF

/-- The IEEE 802.3 frame check sequence value, whose bytes are sent least significant first. -/
def crc32fcs (l : List Byte) : Nat := (l.foldl (crcByte 0xEDB88320) 0xFFFFFFFF) ^^^ 0xFFFFFFFF

/-- One bit of a CRC sent most significant bit first, of width `w` and polynomial `p`. -/
def crcMsbBit (w p c : Nat) (b : Bool) : Nat :=
  let top := (c >>> (w - 1)) % 2 = 1
  let sh := (c * 2) % 2 ^ w
  if top != b then sh ^^^ p else sh

/-- A CRC over bits, most significant bit first, from `i0`. -/
def crcMsb (w p i0 : Nat) (l : List Bool) : Nat := l.foldl (crcMsbBit w p) i0

/-- The `n` low bits of `v`, most significant first. -/
def bitsMsb : Nat → Nat → List Bool
  | 0, _ => []
  | n + 1, v => v.testBit n :: bitsMsb n v

/-- The number that bits spell, most significant first. -/
def natMsb (l : List Bool) : Nat := l.foldl (fun a b => a * 2 + b2n b) 0

/-- The bits of bytes, most significant bit of each first. -/
def byteBitsMsb (l : List Byte) : List Bool := l.flatMap (fun b => bitsMsb 8 b.toNat)

/-- Floor division of integers by a positive number. -/
def idiv (a b : Int) : Int := a / b

/-- The nearest integer to a/b, halves rounding up, for positive b. -/
def roundDiv (a : Int) (b : Nat) : Int := if b = 0 then 0 else (2 * a + b) / (2 * (b : Int))

/-- The slope of the least-squares line through points (x, y), as numerator and positive denominator; none through fewer
than two different x. -/
def lsSlope (pts : List (Int × Int)) : Option (Int × Nat) :=
  let n : Int := pts.length
  let sx := pts.foldl (fun a q => a + q.1) 0
  let sy := pts.foldl (fun a q => a + q.2) 0
  let den := n * pts.foldl (fun a q => a + q.1 * q.1) 0 - sx * sx
  if den ≤ 0 then none else some (n * pts.foldl (fun a q => a + q.1 * q.2) 0 - sx * sy, den.toNat)

/-- Signed difference of two 32-bit counts (R109: signed32). -/
def signed32 (a b : Nat) : Int := sext 32 ((a + 2 ^ 32 - b % 2 ^ 32) % 2 ^ 32)

/-- The duration from rolling time `b` to rolling time `a` (R108): signed32 of the nanosecond fields, and the difference
of the fractions. -/
def signed48 (a b : Nat) : Int :=
  signed32 (a / 65536 % 2 ^ 32) (b / 65536 % 2 ^ 32) * 65536 + ((a % 65536 : Nat) : Int) - ((b % 65536 : Nat) : Int)

/-- The signed 32-bit difference of the nanosecond fields of two rolling times, by which they are compared (R109). -/
def nsDiff (a b : Nat) : Int := signed32 (a / 65536 % 2 ^ 32) (b / 65536 % 2 ^ 32)

end Sys2Proof.Machine
end

