-- ==== Sys2Proof/Syntax.lean ====
section
/-! DEFINITION. The commands of the ZV-9680: one constructor of `Instr` per row of spec/opcode_table.json, with the
operands the row's rule names.  Rows that are Efram commands (Table EF-9) carry their header `h` and the body
fields of Table EF-16; the other rows are accesses, pin events, line events or happenings inside the device, whose
operands are what arrives from outside. -/

namespace Sys2Proof

/-- Where a command came from, with what its answer needs (R323, R326, R327, R328, R345). -/
inductive Origin where
  | pcie (tag rplAddr rplSize : Nat)
  | spi
  | inband (port srcMac vlan : Nat)
  | tunnel (port : Nat) (envelope : List Byte)
  | script
  deriving DecidableEq, Repr

/-- The header fields of one accepted command (Table EF-1) and its origin; `key` holds KEY_ID and REPLAY of a
command that carried a trailer (Table EF-8). -/
structure CmdHdr where
  origin  : Origin
  seq     : Nat
  noReply : Bool
  trole   : Nat
  epoch   : Nat
  cls     : Nat
  key     : Option (Nat × Nat)
  deriving DecidableEq, Repr

/-- One entry of PARAM_SET and PARAM_STAGE: identifier and 64-bit value (R337). -/
abbrev ParamEntry := Nat × Word64

/-- The body of COMMIT (R339). -/
structure CommitArgs where
  when_  : Nat
  dir    : Nat
  shaft  : Nat
  mask   : Nat
  target : Nat
  deriving DecidableEq, Repr

/-- The body of EVENT_SUBSCRIBE (R332, Table EF-16). -/
structure SubArgs where
  keyId : Nat
  dest  : Nat
  mask  : Nat
  port  : Nat
  mac   : Nat
  vlan  : Nat
  deriving DecidableEq, Repr

/-- The tunnel envelope of Table DF-18. -/
structure Envelope where
  ver      : Nat
  back     : Bool
  pathLen  : Nat
  hopIndex : Nat
  ports    : List Nat
  deriving DecidableEq, Repr

/-- The body of GCL_LOAD (Table SD-2): entries are 64-bit words of Table SD-3. -/
structure GclArgs where
  port    : Nat
  ref     : Nat
  shaft   : Nat
  base    : Int
  cycle   : Nat
  count   : Nat
  first   : Nat
  entries : List Word64
  deriving DecidableEq, Repr

/-- The fields of SLOT_CONFIG (Table SD-5); times in 2^-16 ns. -/
structure SlotArgs where
  slot      : Nat
  mode      : Nat
  feed      : Nat
  port      : Nat
  cls       : Nat
  chanValid : Bool
  channel   : Nat
  time      : Nat
  period    : Nat
  lateLimit : Nat
  hrGrace   : Nat
  deriving DecidableEq, Repr

/-- The fields of TIC_ARM (Table TC-2); TIMEOUT and GATE in 2^-16 ns, FREQ_NOMINAL in 2^-32 Hz. -/
structure TicArgs where
  mode     : Nat
  channels : Nat
  count    : Nat
  stopsMax : Nat
  timeout  : Nat
  again    : Bool
  gate     : Nat
  freqNom  : Nat
  stop     : Bool
  deriving DecidableEq, Repr

/-- The body of GEAR_SET (R211). -/
structure GearArgs where
  shaft  : Nat
  src    : Nat
  num    : Int
  den    : Nat
  offset : Int
  cont   : Bool
  when_  : Nat
  dir    : Nat
  target : Nat
  deriving DecidableEq, Repr

/-- The fields of SECTOR_ADD (Table SH-5); TIME_OFFSET in 2^-16 ns. -/
structure SectorArgs where
  shaft      : Nat
  kind       : Nat
  angle      : Nat
  turnRule   : Nat
  n          : Nat
  phase      : Nat
  turn       : Int
  dir        : Nat
  timeOffset : Int
  target     : Nat
  record     : Nat
  irq        : Bool
  missPolicy : Nat
  deriving DecidableEq, Repr

/-- What START of a trunk frame carries (Table DF-5). -/
structure StartInfo where
  tag     : Nat
  cls     : Nat
  express : Bool
  tagv    : Bool
  seqv    : Bool
  colour  : Nat
  rseq    : Nat
  deriving DecidableEq, Repr

/-- A frame head at intake: the bytes received so far (at least the 64-byte parse window, R229), whether the end has
been received and the length then, the START fields on a trunk, and the ingress stamp in 2^-16 ns at the lane's internal stamping point (R111). -/
structure FrameHead where
  bytes : List Byte
  ended : Bool
  len   : Nat
  start : Option StartInfo
  stamp : Nat
  deriving DecidableEq, Repr

/-- How a frame's end is received (R246, Table DF-7): good, failed FCS (`stomped` where the FCS is the stomped value),
or ended bad by the port with an ABORT cause of Table DF-6. -/
inductive FrameEnd where
  | good
  | fcsBad (stomped : Bool)
  | endedBad (cause : Nat)
  deriving DecidableEq, Repr

/-- A PTP message as the port sees it: the messageType of IEEE 1588, the domain, its transport, the sequenceId, the
parent's clockClass (Announce), the ingress stamp before its latency is corrected for, the correctionField and the
timestamp of its body in 2^-16 ns, twoStepFlag, and for a transparent clock the port it leaves by with the egress
stamp; `state` is the 1588 port state that the state decision of the engine's port comes to with it, 0 for no change. -/
structure PtpMsg where
  msgType    : Nat
  domain     : Nat
  transport  : Nat
  seqId      : Nat
  clockClass : Nat
  stamp      : Nat
  correction : Int
  origin     : Int
  twoStep    : Bool
  outPort    : Nat
  outStamp   : Nat
  state      : Nat
  deriving DecidableEq, Repr

/-- What one FOM window of 2^20 UI sees (R33): in one unit, the distance `vin` between the lowest "1" and the highest
"0" level and the main-cursor amplitude `h0`; and the width `w` of the interval without an error in 2^-16 UI. -/
structure Eye where
  vin : Nat
  h0  : Nat
  w   : Nat
  deriving DecidableEq, Repr

/-- One LMS run and the FOM window after it (R32): for each word the error and the 12 data values before it, of which
only the signs count. -/
structure LmsPass where
  words : List (Int × List Int)
  eye   : Eye
  deriving DecidableEq, Repr

/-- What the initial adaptation of one slice sees (R32): a pass for each peak tried, in order, and the final one. -/
structure AdaptRun where
  sweep : List LmsPass
  last  : LmsPass
  deriving DecidableEq, Repr

/-- The conditions of R86 that a port itself finds. -/
inductive LinkCond where
  | wordLock
  | hiBer
  | localFault
  | remoteFault
  | anRestart
  deriving DecidableEq, Repr

/-- A condition of R86 that begins at an edge port. -/
structure LinkLoss where
  port : Nat
  cond : LinkCond
  deriving DecidableEq, Repr

/-- What an interpolator latches of an edge (R182, R183): the rolling time of the tick boundary at which its line was
latched, and the tap code; where a swap runs, also the code of the unit that comes in, which stamps the same edge (R199). -/
structure Latch where
  tick  : Nat
  code  : Nat
  other : Option Nat
  deriving DecidableEq, Repr

/-- What one slice of a self-test leaves (R396, R397): the detail word of a failure, and the edges that a code-density
test latched, by tap code (R200). -/
structure SliceResult where
  detail : Nat
  hits   : List (Nat × Nat)
  deriving DecidableEq, Repr

/-- The level of an encoder pin at a tick, and the ticks for which it has held (R195). -/
structure PinLevel where
  level : Bool
  held  : Nat
  deriving DecidableEq, Repr

/-- The barrel shifter position and elastic FIFO phase of one direction (R34). -/
structure LatMeas where
  barrel : Nat
  fifo   : Nat
  deriving DecidableEq, Repr

/-- The straps as the pins read at reset release (Table PK-7). -/
structure Straps where
  bootSrc  : Nat
  testMode : Bool
  spiMode  : Bool
  oscSel   : Nat
  deriving DecidableEq, Repr

/-- The two requesters of R349. -/
inductive Requester where
  | pcie
  | keeper
  deriving DecidableEq, Repr

/-- The commands: one constructor per row of spec/opcode_table.json, in the table's order. -/
inductive Instr where
  -- Efram commands (Table EF-9)
  | ident (h : CmdHdr)
  | nop (h : CmdHdr)
  | paramGet (h : CmdHdr) (shadow : Bool) (ids : List Nat)
  | paramSet (h : CmdHdr) (es : List ParamEntry)
  | paramStage (h : CmdHdr) (es : List ParamEntry)
  | commit (h : CmdHdr) (a : CommitArgs)
  | commitCancel (h : CmdHdr) (discard : Bool) (mask : Nat)
  | blockStop (h : CmdHdr) (b : Nat)
  | blockStart (h : CmdHdr) (b : Nat)
  | blockReset (h : CmdHdr) (b : Nat)
  | powerBudget (h : CmdHdr)
  | regRead (h : CmdHdr) (offs : List Nat)
  | regWrite (h : CmdHdr) (ps : List (Nat × Word))
  | eventSubscribe (h : CmdHdr) (a : SubArgs)
  | keySet (h : CmdHdr) (keyId perm key : Nat)
  | scriptWait (h : CmdHdr) (r0 r1 r2 r3 timeout : Nat)
  | bootStatus (h : CmdHdr)
  | imageWrite (h : CmdHdr) (slot offset : Nat) (data : List Byte)
  | imageSelect (h : CmdHdr) (slot : Nat)
  | scriptWrite (h : CmdHdr) (offset : Nat) (data : List Byte)
  | restart (h : CmdHdr)
  | laneAdapt (h : CmdHdr) (q n : Nat)
  | laneRead (h : CmdHdr) (q n : Nat)
  | ptpPortRead (h : CmdHdr) (p : Nat)
  | tunnelSend (h : CmdHdr) (env : Envelope) (pkt : List Byte)
  | tunnelRead (h : CmdHdr) (handle : Nat) (close : Bool)
  | tableWrite (h : CmdHdr) (table : Nat) (entries : List (List Nat))
  | tableRead (h : CmdHdr) (table : Nat) (key : List Nat) (count : Nat)
  | tableLoad (h : CmdHdr) (table first : Nat) (entries : List (List Nat))
  | channelAdd (h : CmdHdr) (ch : Nat) (desc : List Word)
  | channelModify (h : CmdHdr) (ch : Nat) (stage : Bool) (resetMask : Nat) (desc : List Word)
  | channelRemove (h : CmdHdr) (ch : Nat)
  | channelPin (h : CmdHdr) (ch : Nat) (pinReq : Bool)
  | channelRead (h : CmdHdr) (ch : Nat)
  | crossingBook (h : CmdHdr) (ch inPort outPort entry maxlen : Nat)
  | crossingRelease (h : CmdHdr) (booking : Nat)
  | flushRead (h : CmdHdr) (first count : Nat)
  | gclLoad (h : CmdHdr) (a : GclArgs)
  | slotWrite (h : CmdHdr) (slot : Nat) (data : List Byte)
  | slotConfig (h : CmdHdr) (a : SlotArgs)
  | slotRead (h : CmdHdr) (slot : Nat)
  | policerSet (h : CmdHdr) (pol cir pir cbs pbs : Nat) (aware : Bool)
  | policerRead (h : CmdHdr) (pol : Nat)
  | timeSet (h : CmdHdr) (sec ns frac : Nat)
  | timeAdjust (h : CmdHdr) (when_ : Nat) (d : Int) (target : Nat)
  | timeAcceptJump (h : CmdHdr)
  | asymSet (h : CmdHdr) (p : Nat) (vals : List Word64)
  | timeRead (h : CmdHdr)
  | refConfig (h : CmdHdr) (cand mask : Nat) (vals : List Word64)
  | refForce (h : CmdHdr) (sel cand : Nat)
  | outConfig (h : CmdHdr) (out mask : Nat) (vals : List Word64)
  | outPhaseStep (h : CmdHdr) (out : Nat) (d : Int)
  | ticArm (h : CmdHdr) (a : TicArgs)
  | ticRead (h : CmdHdr) (ch count : Nat)
  | shaftDefine (h : CmdHdr) (sh mask : Nat) (vals : List Word64)
  | segmentPush (h : CmdHdr) (sh : Nat) (rec : BitVec 288)
  | gearSet (h : CmdHdr) (a : GearArgs)
  | sectorAdd (h : CmdHdr) (a : SectorArgs)
  | sectorRemove (h : CmdHdr) (slot : Nat)
  | sectorRead (h : CmdHdr) (count : Nat)
  | roleSet (h : CmdHdr) (mode pairId prio trunk : Nat)
  | switchover (h : CmdHdr) (force : Bool)
  | faultRead (h : CmdHdr) (b : Nat)
  | faultClear (h : CmdHdr) (b flt int : Nat) (ovf : Bool)
  | faultReactSet (h : CmdHdr) (b idx react : Nat)
  | aliveResume (h : CmdHdr)
  | faultInject (h : CmdHdr) (b idx : Nat)
  | bistRun (h : CmdHdr) (b unit : Nat)
  | spareSwap (h : CmdHdr) (b unit : Nat)
  | serviceRecordRead (h : CmdHdr) (region start count : Nat)
  | testUnlock (h : CmdHdr)
  | counterConfig (h : CmdHdr) (b ctr : Nat) (filt : Word64) (sel : Word)
  | counterRead (h : CmdHdr) (pairs : List (Nat × Nat))
  | traceConfig (h : CmdHdr) (mask : Nat) (vals : List Word64)
  | traceRead (h : CmdHdr) (count : Nat)
  | captureRead (h : CmdHdr) (count : Nat)
  -- the Keeper and its transports
  | commandExecutionStart
  | bulkStepDone (last : Bool)
  | commandProgress (percent : Nat)
  | cmdDoorbell (idx : Nat)
  | descriptorFetch (desc pkt : List Byte)
  | cplHead (idx : Nat)
  | evtHead (idx : Nat)
  | ringEnable (v : Word)
  | ringDisable (v : Word)
  | writePkt (pkt : List Byte)
  | readPkt (whole : Bool)
  | spiStatus
  | inbandCommandFrame (p dstMac srcMac vlan : Nat) (payload : List Byte)
  | tunnelPacketReceived (p : Nat) (env : Envelope) (pkt : List Byte)
  | tunnelTimeout (handle : Nat)
  | tunnelHandleExpiry (handle : Nat)
  | subLeaseExpiry (idx : Nat)
  | remoteRateSecond
  -- register accesses
  | timeSnapCtrl (v : Word)
  | shaftSnapCtrl (v : Word)
  | lowWordRead (r : Requester) (off : Nat)
  | ticFifoData0
  | nmiStatusClear
  | fltStatusClear (b : Nat) (mask : Word)
  | intStatusClear (b : Nat) (mask : Word)
  | fltOvfClear (b : Nat)
  | intEnableWrite (b : Nat) (v : Word)
  | pcntSelWrite (b n : Nat) (v : Word)
  | pcntFiltWrite (b n : Nat) (v : Word64)
  | pcntOvfClear (b : Nat) (mask : Word)
  | guhCmpSteppedClear (mask : Word64)
  | isoCtrlWrite (v : Word)
  | registerWrite (off width : Nat) (v : Word64)
  -- resets and start-up
  | resetNLow
  | resetRelease (straps : Straps) (aonValid flashOk : Bool) (pairs : Nat)
  | pllsLockedAtStart
  | calibrationLoad (copy0 copy1 : Bool) (ids : List (Option (Nat × Nat))) (overlayBad : List Nat)
  | imageLoaded
  | scriptPacket
  | scriptDone
  | bootOk
  | bootIncomplete
  | supplyFalling
  | supplyReset (aonLost : Bool)
  | perstNLow
  | perstNRise
  | pcieLinkDown
  | pcieLinkUp (gen width : Nat)
  | jtagInstruction (holds : Bool)
  -- clocks
  | oscLost
  | oscReturn (osc : Nat)
  | timePllUnlock (pll : Nat)
  | timePllRelockFail
  | timePllBoth
  | corePllUnlock
  | coreReturn
  | storePllUnlock
  | pciePllUnlock
  | storeTrained (ok : Bool) (size : Nat)
  | storeRetrain (ok : Bool)
  | auxDpllLost (k : Nat)
  -- quads and lanes
  | quadPllUnlock (q pll : Nat)
  | failoverDone (q : Nat) (meas : List (LatMeas × LatMeas))
  | failoverFilterEnd (q : Nat)
  | pllRelockFail (q : Nat)
  | noServingPll (q n : Nat)
  | quadReady (q : Nat)
  | cdrLock (l : Nat) (tx rx : LatMeas)
  | adaptTimeout (l : Nat)
  | adaptDone (l : Nat) (sweep : List LmsPass) (last : LmsPass)
  | fomRefresh (l : Nat) (e : Eye)
  | latencyChanged (l : Nat) (rx : Bool) (m : LatMeas)
  | latencyTempUpdate (q : Nat) (temp : Int)
  | cdrLos (l : Nat)
  | spareTrainingDone (l : Nat) (r : AdaptRun)
  | spareComparePass (l : Nat) (pass : Bool)
  | sliceSwapped (l : Nat) (m : LatMeas)
  | sliceAbort (l cause : Nat)
  | txSegmentSwapped (l : Nat)
  -- trunks
  | difiviBlockReceived (p : Nat) (comma : Bool) (region : List Bool) (stamp : Nat)
  | difiviBlockTransmit (p stamp : Nat)
  | trunkLinkDownFilter (p : Nat)
  | signalDetected (p : Nat)
  | lockTimeout (p : Nat)
  | trainingDone (p fom : Nat)
  | trainingRequestTimeout (p : Nat)
  | trunkTrained (p : Nat)
  | timeCheckPassed (p : Nat)
  | exchangeLoss (p : Nat)
  | trunkHoldoffExpired (p : Nat)
  | exchangeWindowEnd (p : Nat)
  | linkAdminDown (p : Nat)
  -- edge ports
  | edgeLocked (p abilities : Nat)
  | edgeHoldoffExpired (p : Nat)
  | edgeLinkDownFilter (p : Nat)
  | anFail (p : Nat)
  | pfcFrameReceived (p : Nat) (pfc : Bool) (enable : Nat) (quanta : List Nat)
  | pauseExpired (p c : Nat)
  | pfcSend (p : Nat)
  | pfcRefresh (p : Nat)
  | pfcStorm (p c : Nat)
  | ptpMessageReceived (p : Nat) (m : PtpMsg)
  | ptpEgressStamp (p seqId stamp : Nat)
  | ptpSyncSend (p kind : Nat)
  | esmcPduSend (p : Nat)
  | esmcEventPdu (p : Nat)
  | esmcPduReceived (p ssm : Nat)
  | esmcTimeout (p : Nat)
  -- the frame path
  | frameHeadIntake (p : Nat) (f : FrameHead)
  | descriptorFetched (ch : Nat)
  | admissionWaitTimeout (k : Nat)
  | admissionCellFree (k : Nat)
  | frameEndReceived (p : Nat) (bytes : List Byte) (how : FrameEnd)
  | reservedCrossing (p : Nat) (f : FrameHead)
  | egressSelect (p : Nat)
  | frameTransmitEnd (p stamp : Nat)
  | recoveryReset (ch : Nat)
  | fdbAge (fid mac : Nat)
  | policerSweep
  -- Guhild
  | comparatorFire (k : Nat)
  | guhSample (ref : Nat) (e : Int)
  | lockTimeElapsed
  | unlockTimeElapsed
  | switchSampleTimeout
  | holdoverHour
  | leapDone
  | counterCheck (agree : Bool)
  -- references
  | monitorRefit (cand ns frac : Nat)
  | refEdge (k stamp : Nat)
  | refLost (k : Nat)
  | candidatePresenceChange (cand : Nat) (present : Bool)
  | monitorFail (cand : Nat)
  | mooringSecond (freq : Int)
  | mainLost
  | acquisitionEnd (sel : Nat)
  -- outputs
  | outStep (o : Nat)
  | outRestarted (o : Nat)
  | outAlignEdge (o : Nat) (dist : Int)
  | pulseEdge (n : Nat)
  | frameOutputEdge (g : Nat)
  | dllSwapped (o : Nat)
  | timePllSwapped
  -- TIC
  | ticEdge (ch : Nat) (falling : Bool) (l : Latch)
  | calPair (i : Nat) (c1 c2 : Latch)
  | calStale (ch : Nat)
  | intervalTimeout
  | freqDone (ch : Nat)
  | encoderEdge (e : Nat) (a b : PinLevel) (l : Latch)
  | encZ (e : Nat) (falling : Bool) (l : Latch)
  | monitorMark (src edges : Nat) (l : Latch)
  | interpSwapped
  | interpMismatch
  -- shafts
  | segmentInForce (sh : Nat)
  | segLate (sh : Nat)
  | coasting (sh : Nat)
  | claimTimeout (sh : Nat)
  | captureFit (sh : Nat)
  | planConversion (slot : Nat)
  | replanDone (sh : Nat)
  | sectorFired (i : Nat)
  | eventMissed (slot : Nat)
  | gearChanged (sh : Nat)
  | planOverload (on : Bool)
  | captureRecordWrite (i : Nat)
  -- scheduling
  | gateBoundary (p : Nat)
  | angleBoundaryConverted (p : Nat)
  | launch (slot stamp : Nat)
  | launchMissed (slot : Nat)
  | hrCommit (slot : Nat)
  | hrRepeat (slot stamp : Nat)
  | escalation (p q : Nat)
  -- buffers
  | wdDemote (p q : Nat)
  | classRestored (c : Nat)
  | portFlush (p : Nat)
  | flushDone (p : Nat)
  | bankDrained
  | bankDrainAbort
  | bankScrub (bank corrected : Nat)
  | headerCapture (k : Nat)
  -- pairing
  | pairHbSend
  | pairHbReceived (msg : List Byte)
  | pathSilent (trunk : Bool)
  | listeningTimeout
  | interlockTest (actIn : Bool)
  | interlockRetry
  | switchoverRelease (n : Nat)
  | switchTimeout
  | switchoverDone
  | takeoverDone
  -- faults
  | chipReset
  | isophaseToggle
  | keeperWatchdogExpiry
  | lockstepMismatch
  -- health
  | governorGrant
  | governorRelease (id : Nat)
  | grantStarved
  | adaptRequestRetry (l : Nat)
  | bistSlice (b : Nat) (pass : Bool) (r : SliceResult)
  | bistDone (b : Nat)
  | rotationStep
  | wearMeasurement (site ppm : Nat)
  | tjSample (temp : Int)
  | fomDailyFit (l slice mean low : Nat)
  | summaryWrite (ok : Bool)
  | logAppend (ok : Bool)
  | traceRecord (k : Nat)
  -- rows the table lists last
  | timePllRelocked (pll : Nat)
  | quadPllRelocked (q pll : Nat)
  | wordLockLost (x : LinkLoss)
  | blockReachesRun (b : Nat)
  | evtModExpiry (b : Nat)
  | auxUnlock (k : Nat)
  | dllFail (o : Nat)
  | trendRecordWrite
  deriving DecidableEq, Repr

end Sys2Proof
end

