-- ==== Sys2Proof/Decode.lean ====
section
/-! DEFINITION. What bits spell which command.  The rows of the opcode table carry no bits, so no word of it spells a
command; what the device itself reads are the bodies of Efram packets, laid out in Table EF-16 under R346. -/

namespace Sys2Proof

/-- The command that a word spells by the opcode table's bits: the table gives no row any bits. -/
def decodeTableWord (_nbits _w : Nat) : Option Instr := none

end Sys2Proof

namespace Sys2Proof.Machine

/-! ## Opcodes (Table EF-9) -/

/-- An opcode with its class (0 immediate, 1 urgent, 2 bulk) and its marks L and S. -/
abbrev OpRow := Nat × Nat × Bool × Bool

/-- Table EF-9. -/
def opRows : List OpRow :=
  [(0x0001, 0, false, true), (0x0002, 0, false, false), (0x0003, 0, false, false), (0x0004, 0, false, false),
   (0x0005, 0, false, false), (0x0006, 1, false, false), (0x0007, 1, false, false), (0x0008, 1, false, false),
   (0x0009, 2, false, false), (0x000A, 2, false, false), (0x000B, 0, false, false), (0x000C, 0, false, false),
   (0x000D, 0, false, false), (0x000E, 0, false, false), (0x000F, 0, true, false), (0x0010, 0, false, false),
   (0x0101, 0, false, true), (0x0102, 2, false, true), (0x0103, 0, false, true), (0x0104, 2, false, false),
   (0x0105, 1, false, true), (0x0201, 2, false, false), (0x0202, 0, false, false), (0x0301, 0, false, false),
   (0x0401, 2, false, false), (0x0402, 0, false, false)]
  ++ [(0x0501, 0, false, false), (0x0502, 0, false, false), (0x0503, 2, false, false), (0x0601, 0, false, false),
   (0x0602, 0, false, false), (0x0603, 0, false, false), (0x0604, 0, false, false), (0x0605, 0, false, false),
   (0x0606, 0, false, false), (0x0607, 0, false, false), (0x0608, 0, false, false), (0x0701, 0, false, false),
   (0x0702, 0, false, false), (0x0703, 0, false, false), (0x0704, 0, false, false), (0x0705, 0, false, false),
   (0x0706, 0, false, false), (0x0801, 1, false, false), (0x0802, 1, false, false), (0x0803, 1, false, false),
   (0x0804, 0, false, false), (0x0805, 0, false, false), (0x0901, 0, false, false), (0x0902, 1, false, false)]
  ++ [(0x0A01, 0, false, false), (0x0A02, 1, false, false), (0x0B01, 0, false, false), (0x0B02, 0, false, false),
   (0x0C01, 0, false, false), (0x0C02, 0, false, false), (0x0C03, 0, false, false), (0x0C04, 0, false, false),
   (0x0C05, 0, false, false), (0x0C06, 0, false, false), (0x0D01, 0, false, false), (0x0D02, 1, false, false),
   (0x0E01, 0, false, false), (0x0E02, 0, false, false), (0x0E03, 0, false, false), (0x0E04, 1, false, false),
   (0x0E05, 0, false, false), (0x0F01, 2, false, true), (0x0F02, 2, false, false), (0x0F03, 2, false, true),
   (0x0F04, 0, true, false), (0x1001, 0, false, false), (0x1002, 0, false, false), (0x1003, 0, false, false),
   (0x1004, 0, false, false), (0x1005, 0, false, false)]

/-- The row of an opcode. -/
def opRow (op : Nat) : Option OpRow := opRows.find? (fun r => r.1 == op)

/-- The opcodes that a read-only key admits (R329): IDENT, NOP, PARAM_GET, REG_READ, BOOT_STATUS, EVENT_SUBSCRIBE and
those whose mnemonic ends in _READ. -/
def readOnlyOps : List Nat :=
  [0x0001, 0x0002, 0x0003, 0x000C, 0x000E, 0x0101, 0x0202, 0x0301, 0x0402, 0x0502, 0x0605, 0x0608, 0x0704, 0x0706,
   0x0805, 0x0B02, 0x0C06, 0x0E01, 0x0F03, 0x1002, 0x1004, 0x1005]

/-! ## Bodies (R346, Table EF-16) -/

/-- Why a body spells no command. -/
inductive BodyError where
  | length
  | range
  deriving DecidableEq, Repr

/-- A body's words. -/
abbrev Body := List Word

/-- The word at `i`. -/
def Body.w (b : Body) (i : Nat) : Nat := ((b[i]?).map (·.toNat)).getD 0
/-- A field of two words at word `i`. -/
def Body.f (b : Body) (i : Nat) : Nat := b.w i * 2 ^ 32 + b.w (i + 1)
/-- A signed field of two words at word `i`. -/
def Body.z (b : Body) (i : Nat) : Int := sext 64 (b.f i)
/-- Three words at word `i`. -/
def Body.f3 (b : Body) (i : Nat) : Nat := b.w i * 2 ^ 64 + b.f (i + 1)
/-- `n` fields of two words from word `i` on. -/
def Body.fields (b : Body) (i n : Nat) : List Nat := (List.range n).map (fun k => b.f (i + 2 * k))

/-- What a body spells. -/
abbrev Parsed1 := Except BodyError Instr

/-- A body of exactly `n` words. -/
def exactly (n : Nat) (b : Body) (i : Instr) : Parsed1 := if b.length = n then .ok i else .error .length

/-- A flag of one field: 0 or 1. -/
def flag (v : Nat) (k : Bool → Parsed1) : Parsed1 := if v ≤ 1 then k (v == 1) else .error .range

/-- `n` bytes that start at word `i`, zero-padded to a word. -/
def Body.bytes (b : Body) (i n : Nat) : List Byte := (wordsBytes (b.drop i)).take n

/-- The words that `n` bytes take. -/
def wordsFor (n : Nat) : Nat := (n + 3) / 4

/-- The `i`-th of bytes read from host memory, which the packet does not hold: an open value. -/
def hostByte (free i : Nat) : Byte := BitVec.ofNat 8 (Config.freeNat free >>> (8 * i))

/-- A Guhild time in three words, as a number of 2^-16 ns, if its nanoseconds are in range (R107). -/
def guhUnits (v : Nat) : Option Nat :=
  let ns := v / 2 ^ 16 % 2 ^ 32
  if ns ≤ 999999999 then some ((v / 2 ^ 48 * 1000000000 + ns) * 65536 + v % 65536) else none

/-- The fields of an entry of a lookup table in order (Tables SW-2 and SW-3); true marks one of four words. -/
def entryShape (table method : Nat) : List Bool :=
  match table with
  | 0 => [false, false, false, false, false, false]
  | 1 => [false, false, false, false, false]
  | 2 =>
    if method ≤ 1 then [false, false, false, false, false]
    else [false, false, false, false, false, method == 3, method == 3, false, false, false, false, false]
  | 3 => [false, false]
  | _ => []

/-- Reads fields of a shape from words: the values and the words left. -/
def readShape : List Bool → Body → Option (List Nat × Body)
  | [], b => some ([], b)
  | wide :: r, b =>
    let n := if wide then 4 else 2
    if b.length < n then none
    else match readShape r (b.drop n) with
    | none => none
    | some (l, rest) => some (natWords (b.take n) :: l, rest)

/-- Reads `n` entries of a lookup table. -/
def readEntries (table : Nat) : Nat → Body → Option (List (List Nat))
  | 0, b => if b.isEmpty then some [] else none
  | n + 1, b =>
    match readShape (entryShape table (b.f 0)) b with
    | none => none
    | some (e, rest) => (readEntries table n rest).map (e :: ·)

/-- `n` entries read from host memory: open values. -/
def hostEntries (free table n : Nat) : List (List Nat) :=
  (List.range n).map (fun k => (List.range 12).map (fun j => Config.freeNat free >>> (64 * (12 * k + j)) % 2 ^ (8 + table)))

/-- Pairs of words. -/
def readPairs : Body → List (Nat × Word)
  | a :: v :: r => (a.toNat, v) :: readPairs r
  | _ => []

/-- PARAM_SET and PARAM_STAGE entries: identifier, value high, value low. -/
def readParams : Body → List ParamEntry
  | i :: hi :: lo :: r => (i.toNat, BitVec.ofNat 64 (hi.toNat * 2 ^ 32 + lo.toNat)) :: readParams r
  | _ => []

/-- Values of two words. -/
def readVals : Body → List Word64
  | hi :: lo :: r => BitVec.ofNat 64 (hi.toNat * 2 ^ 32 + lo.toNat) :: readVals r
  | _ => []

/-- Pairs of a block and a counter, two words each. -/
def readCtrs : Body → List (Nat × Nat)
  | a :: b :: c :: d :: r => (a.toNat * 2 ^ 32 + b.toNat, c.toNat * 2 ^ 32 + d.toNat) :: readCtrs r
  | _ => []

/-- A mask and its values from word `i` on. -/
def maskVals (b : Body) (i : Nat) (k : Nat → List Word64 → Instr) : Parsed1 :=
  if b.length = i + 1 + 2 * popCount 32 (b.w i) then .ok (k (b.w i) (readVals (b.drop (i + 1)))) else .error .length

/-- The envelope of Table DF-18 in three words, and the same as bytes. -/
def readEnvelope (l : List Byte) : Envelope :=
  { ver := beAt l 0 1 / 16, back := (beAt l 0 1).testBit 3, pathLen := beAt l 1 1, hopIndex := beAt l 2 1,
    ports := ((l.drop 4).take 8).map (·.toNat) }

/-- Words of an envelope in transmission order (Table DF-18). -/
def envBytes (e : Envelope) : List Byte :=
  [BitVec.ofNat 8 (e.ver % 16 * 16 + b2n e.back * 8), BitVec.ofNat 8 e.pathLen, BitVec.ofNat 8 e.hopIndex, 0]
    ++ (List.range 8).map (fun k => BitVec.ofNat 8 (e.ports.getD k 0))

/-- Bodies of groups 0x00 and 0x01. -/
def parseCommon (op : Nat) (h : CmdHdr) (free : Nat) (b : Body) : Parsed1 :=
  match op with
  | 0x0001 => exactly 0 b (.ident h)
  | 0x0002 => exactly 0 b (.nop h)
  | 0x0003 =>
    if b.length = 1 + b.w 0 % 2 ^ 31 then .ok (.paramGet h ((b.w 0).testBit 31) ((b.drop 1).map (·.toNat))) else .error .length
  | 0x0004 => if b.length = 1 + 3 * b.w 0 then .ok (.paramSet h (readParams (b.drop 1))) else .error .length
  | 0x0005 => if b.length = 1 + 3 * b.w 0 then .ok (.paramStage h (readParams (b.drop 1))) else .error .length
  | 0x0006 =>
    exactly 6 b (.commit h {
      when_ := fld (b.w 0) 31 30, dir := fld (b.w 0) 29 28, shaft := fld (b.w 0) 5 0,
      mask := b.w 1 + b.w 2 * 2 ^ 32 + b.w 3 * 2 ^ 64, target := b.f 4 })
  | 0x0007 => exactly 4 b (.commitCancel h ((b.w 0).testBit 0) (b.w 1 + b.w 2 * 2 ^ 32 + b.w 3 * 2 ^ 64))
  | 0x0008 => exactly 2 b (.blockStop h (b.f 0))
  | 0x0009 => exactly 2 b (.blockStart h (b.f 0))
  | 0x000A => exactly 2 b (.blockReset h (b.f 0))
  | 0x000B => exactly 0 b (.powerBudget h)
  | 0x000C => if b.length = 1 + b.w 0 then .ok (.regRead h ((b.drop 1).map (·.toNat))) else .error .length
  | 0x000D => if b.length = 1 + 2 * b.w 0 then .ok (.regWrite h (readPairs (b.drop 1))) else .error .length
  | 0x000E =>
    exactly 13 b (.eventSubscribe h {
      keyId := b.f 0, dest := b.f 2, mask := b.w 4 + b.w 5 * 2 ^ 32 + b.w 6 * 2 ^ 64, port := b.f 7, mac := b.f 9,
      vlan := b.f 11 })
  | 0x000F => exactly 12 b (.keySet h (b.f 0) (b.f 2) (natWords (b.drop 4)))
  | 0x0010 => exactly 5 b (.scriptWait h (b.w 0) (b.w 1) (b.w 2) (b.w 3) (b.w 4))
  | 0x0101 => exactly 0 b (.bootStatus h)
  | 0x0102 =>
    if (b.f 4).testBit 63 then
      exactly 8 b (.imageWrite h (b.f 0) (b.f 2) ((List.range (min (b.f 4 % 2 ^ 63) (2 ^ 21 + 1))).map (hostByte free)))
    else exactly (6 + wordsFor (b.f 4)) b (.imageWrite h (b.f 0) (b.f 2) (b.bytes 6 (b.f 4)))
  | 0x0103 => exactly 2 b (.imageSelect h (b.f 0))
  | 0x0104 => exactly (4 + wordsFor (b.f 2)) b (.scriptWrite h (b.f 0) (b.bytes 4 (b.f 2)))
  | 0x0105 => exactly 0 b (.restart h)
  | _ => .error .length

/-- Bodies of groups 0x02 to 0x06. -/
def parseSwitch (op : Nat) (h : CmdHdr) (free : Nat) (b : Body) : Parsed1 :=
  match op with
  | 0x0201 => exactly 4 b (.laneAdapt h (b.f 0) (b.f 2))
  | 0x0202 => exactly 4 b (.laneRead h (b.f 0) (b.f 2))
  | 0x0301 => exactly 2 b (.ptpPortRead h (b.f 0))
  | 0x0401 =>
    if b.length < 3 then .error .length
    else .ok (.tunnelSend h (readEnvelope (wordsBytes (b.take 3))) (wordsBytes (b.drop 3)))
  | 0x0402 => if b.length = 4 then flag (b.f 2) (fun c => .ok (.tunnelRead h (b.f 0) c)) else .error .length
  | 0x0501 =>
    (match readEntries (b.f 0) (min (b.f 2) b.length) (b.drop 4) with
     | some es => .ok (.tableWrite h (b.f 0) es)
     | none => .error .length)
  | 0x0502 =>
    let k := (entryShape (b.f 0) (b.f 2)).take
      (match b.f 0 with | 0 => 1 | 1 => 2 | 2 => (entryShape 2 (b.f 2)).length - 1 | _ => 1)
    (match readShape k (b.drop 2) with
     | some (key, rest) => if rest.length = 2 then .ok (.tableRead h (b.f 0) key (rest.f 0)) else .error .length
     | none => .error .length)
  | 0x0503 =>
    if (b.f 2).testBit 63 then
      exactly 8 b (.tableLoad h (b.f 0) (b.f 4) (hostEntries free (b.f 0) (min (b.f 2 % 2 ^ 63) 131072)))
    else
      (match readEntries (b.f 0) (min (b.f 2) b.length) (b.drop 6) with
       | some es => .ok (.tableLoad h (b.f 0) (b.f 4) es)
       | none => .error .length)
  | 0x0601 => exactly 34 b (.channelAdd h (b.f 0) (b.drop 2))
  | 0x0602 => exactly 35 b (.channelModify h (b.f 0) ((b.w 2).testBit 31) (b.w 2 % 16) (b.drop 3))
  | 0x0603 => exactly 2 b (.channelRemove h (b.f 0))
  | 0x0604 => if b.length = 4 then flag (b.f 2) (fun c => .ok (.channelPin h (b.f 0) c)) else .error .length
  | 0x0605 => exactly 2 b (.channelRead h (b.f 0))
  | 0x0606 => exactly 10 b (.crossingBook h (b.f 0) (b.f 2) (b.f 4) (b.f 6) (b.f 8))
  | 0x0607 => exactly 2 b (.crossingRelease h (b.f 0))
  | 0x0608 => exactly 4 b (.flushRead h (b.f 0) (b.f 2))
  | _ => .error .length

/-- Bodies of groups 0x07 to 0x0A. -/
def parseTime (op : Nat) (h : CmdHdr) (b : Body) : Parsed1 :=
  match op with
  | 0x0701 =>
    if b.length < 15 ∨ b.length % 2 = 0 then .error .length
    else
      let args := fun (base : Int) => (.ok (.gclLoad h {
        port := b.f 0, ref := b.f 2, shaft := b.f 4, base := base, cycle := b.f 9, count := b.f 11, first := b.f 13,
        entries := readVals (b.drop 15) }) : Parsed1)
      if b.f 2 = 0 then
        (match guhUnits (b.f3 6) with
         | some t => args t
         | none => .error .range)
      else args (b.z 7)
  | 0x0702 => exactly (2 + wordsFor (b.w 1)) b (.slotWrite h (b.w 0) (b.bytes 2 (b.w 1)))
  | 0x0703 =>
    if b.length ≠ 23 then .error .length
    else flag (b.f 10) (fun v =>
      let args := fun (t : Nat) => (.ok (.slotConfig h {
        slot := b.f 0, mode := b.f 2, feed := b.f 4, port := b.f 6, cls := b.f 8, chanValid := v, channel := b.f 12,
        time := t, period := b.f 17, lateLimit := b.f 19, hrGrace := b.f 21 }) : Parsed1)
      if b.f 2 = 2 then
        (match guhUnits (b.f3 14) with
         | some t => args t
         | none => .error .range)
      else args (b.f 15 % 2 ^ 48))
  | 0x0704 => exactly 2 b (.slotRead h (b.f 0))
  | 0x0705 =>
    if b.length = 12 then flag (b.f 10) (fun c => .ok (.policerSet h (b.f 0) (b.f 2) (b.f 4) (b.f 6) (b.f 8) c))
    else .error .length
  | 0x0706 => exactly 2 b (.policerRead h (b.f 0))
  | 0x0801 => exactly 3 b (.timeSet h (b.f3 0 / 2 ^ 48) (b.f3 0 / 2 ^ 16 % 2 ^ 32) (b.f3 0 % 2 ^ 16))
  | 0x0802 => exactly 6 b (.timeAdjust h (b.f 0) (b.z 2) (b.f 4 % 2 ^ 48))
  | 0x0803 => exactly 0 b (.timeAcceptJump h)
  | 0x0804 => if b.length = 4 ∨ b.length = 8 then .ok (.asymSet h (b.f 0) (readVals (b.drop 2))) else .error .length
  | 0x0805 => exactly 0 b (.timeRead h)
  | 0x0901 => maskVals b 2 (.refConfig h (b.f 0))
  | 0x0902 => exactly 4 b (.refForce h (b.f 0) (b.f 2))
  | 0x0A01 => maskVals b 2 (.outConfig h (b.f 0))
  | 0x0A02 => exactly 4 b (.outPhaseStep h (b.f 0) (b.z 2))
  | _ => .error .length

/-- Bodies of groups 0x0B to 0x0D. -/
def parseShaft (op : Nat) (h : CmdHdr) (b : Body) : Parsed1 :=
  match op with
  | 0x0B01 =>
    if b.length ≠ 18 then .error .length
    else flag (b.f 10) (fun again => flag (b.f 16) (fun stop =>
      .ok (.ticArm h {
        mode := b.f 0, channels := b.f 2, count := b.f 4, stopsMax := b.f 6, timeout := b.f 8,
        again := again, gate := b.f 12, freqNom := b.f 14, stop := stop })))
  | 0x0B02 => exactly 4 b (.ticRead h (b.f 0) (b.f 2))
  | 0x0C01 => maskVals b 2 (.shaftDefine h (b.f 0))
  | 0x0C02 => exactly 11 b (.segmentPush h (b.f 0) (BitVec.ofNat 288 (natWords (b.drop 2))))
  | 0x0C03 =>
    if b.length ≠ 18 then .error .length
    else flag (b.f 10) (fun c =>
      .ok (.gearSet h {
        shaft := b.f 0, src := b.f 2, num := b.z 4, den := b.f 6, offset := b.z 8, cont := c,
        when_ := b.f 12, dir := b.f 14, target := b.f 16 }))
  | 0x0C04 =>
    if b.length ≠ 26 then .error .length
    else flag (b.f 22) (fun irq =>
      .ok (.sectorAdd h {
        shaft := b.f 0, kind := b.f 2, angle := b.f 4, turnRule := b.f 6, n := b.f 8, phase := b.f 10,
        turn := b.z 12, dir := b.f 14, timeOffset := b.z 16, target := b.f 18, record := b.f 20, irq := irq,
        missPolicy := b.f 24 }))
  | 0x0C05 => exactly 2 b (.sectorRemove h (b.f 0))
  | 0x0C06 => exactly 2 b (.sectorRead h (b.f 0))
  | 0x0D01 => exactly 8 b (.roleSet h (b.f 0) (b.f 2) (b.f 4) (b.f 6))
  | 0x0D02 => if b.length = 2 then flag (b.f 0) (fun c => .ok (.switchover h c)) else .error .length
  | _ => .error .length

/-- Bodies of groups 0x0E to 0x10. -/
def parseHealth (op : Nat) (h : CmdHdr) (b : Body) : Parsed1 :=
  match op with
  | 0x0E01 => exactly 2 b (.faultRead h (b.f 0))
  | 0x0E02 => if b.length = 8 then flag (b.f 6) (fun c => .ok (.faultClear h (b.f 0) (b.f 2) (b.f 4) c)) else .error .length
  | 0x0E03 => exactly 6 b (.faultReactSet h (b.f 0) (b.f 2) (b.f 4))
  | 0x0E04 => exactly 0 b (.aliveResume h)
  | 0x0E05 => exactly 4 b (.faultInject h (b.f 0) (b.f 2))
  | 0x0F01 => exactly 4 b (.bistRun h (b.f 0) (b.f 2))
  | 0x0F02 => exactly 4 b (.spareSwap h (b.f 0) (b.f 2))
  | 0x0F03 => exactly 6 b (.serviceRecordRead h (b.f 0) (b.f 2) (b.f 4))
  | 0x0F04 => exactly 0 b (.testUnlock h)
  | 0x1001 => exactly 8 b (.counterConfig h (b.f 0) (b.f 2) (BitVec.ofNat 64 (b.f 4)) (BitVec.ofNat 32 (b.f 6)))
  | 0x1002 =>
    if 2 ≤ b.length ∧ b.length = 2 + 4 * b.f 0 then .ok (.counterRead h (readCtrs (b.drop 2))) else .error .length
  | 0x1003 => maskVals b 0 (.traceConfig h)
  | 0x1004 => exactly 2 b (.traceRead h (b.f 0))
  | 0x1005 => exactly 2 b (.captureRead h (b.f 0))
  | _ => .error .length

/-- The command that an opcode and a body spell; `free` numbers the open value that stands for host memory. -/
def parseBody (op : Nat) (h : CmdHdr) (free : Nat) (b : Body) : Parsed1 :=
  if op < 0x0200 then parseCommon op h free b
  else if op < 0x0700 then parseSwitch op h free b
  else if op < 0x0B00 then parseTime op h b
  else if op < 0x0E00 then parseShaft op h b
  else parseHealth op h b

end Sys2Proof.Machine
end

