-- ==== Sys2Proof/Machine/FaultTable.lean ====
section
/-! DEFINITION. The fault sources of every block with their default reactions and minimums (R389, Table FT-4 and the
tables it names), and the reaction codes of Table FT-1. -/

namespace Sys2Proof.Machine

/-! Reaction codes (Table FT-1). -/
abbrev rRecord : Nat := 0
abbrev rInterrupt : Nat := 1
abbrev rAliveStop : Nat := 2
abbrev rNmi : Nat := 3
abbrev rBlockReset : Nat := 4
abbrev rChipReset : Nat := 5

/-! Block identifiers (Table AR-2). -/
abbrev bKEEP : Nat := 0x00
abbrev bBOOT : Nat := 0x01
abbrev bHOST : Nat := 0x02
abbrev bSTORE : Nat := 0x03
abbrev bCSYN : Nat := 0x04
abbrev bREFS : Nat := 0x05
abbrev bGUH : Nat := 0x06
abbrev bSHAFT : Nat := 0x07
abbrev bTIC : Nat := 0x08
abbrev bPAIR : Nat := 0x09
abbrev bCORE : Nat := 0x0A
abbrev bLKP : Nat := 0x0B
abbrev bBUF : Nat := 0x0C
abbrev bSCHED : Nat := 0x0D
abbrev bTRACE : Nat := 0x0E
abbrev bHLTH : Nat := 0x0F
/-- The block of quad `q`. -/
def bQ (q : Nat) : Nat := 0x10 + q
/-- The block of port `p`. -/
def bP (p : Nat) : Nat := 0x20 + p
/-- The 96 blocks (R14). -/
abbrev nBlocks : Nat := 96
/-- A quad block. -/
def isQuadB (b : Nat) : Bool := 0x10 ≤ b && b ≤ 0x1F
/-- A port block. -/
def isPortB (b : Nat) : Bool := 0x20 ≤ b && b ≤ 0x5F

/-- A source: its index, default reaction and minimum reaction. -/
abbrev FaultRow := Nat × Nat × Nat

/-- The sources of a lane: 8 + 6n onward (Table LN-11). -/
def laneFaults (n : Nat) : List FaultRow :=
  [(8 + 6 * n, 0, 0), (9 + 6 * n, 1, 0), (10 + 6 * n, 1, 0), (11 + 6 * n, 1, 0), (12 + 6 * n, 1, 0), (13 + 6 * n, 1, 0)]

/-- The sources of block `b`; `lm` is the lane mode of a port block (Table FT-4, R386). -/
def faultRows (b lm : Nat) : List FaultRow :=
  if isQuadB b then
    [(0, 1, 0), (1, 1, 0), (2, 1, 0), (3, 1, 0)] ++ laneFaults 0 ++ laneFaults 1 ++ laneFaults 2 ++ laneFaults 3
  else if isPortB b then
    if 1 ≤ lm ∧ lm ≤ 5 then
      [(0, 1, 0), (1, 0, 0), (2, 0, 0), (3, 0, 0), (4, 0, 0), (5, 1, 0), (6, 0, 0), (7, 1, 0)]
    else if 6 ≤ lm ∧ lm ≤ 7 then
      [(0, 1, 0), (1, 1, 0), (2, 0, 0), (3, 0, 0), (4, 1, 0), (5, 0, 0), (6, 1, 0), (7, 1, 0), (8, 0, 0)]
    else []
  else match b with
  | 0x00 => [(0, 1, 1), (1, 5, 5), (2, 0, 0), (3, 5, 5), (4, 1, 0), (5, 0, 0)]
  | 0x01 => [(0, 0, 0), (1, 1, 0), (2, 1, 0), (3, 1, 0), (4, 1, 0), (5, 1, 0), (6, 1, 0)]
  | 0x02 => [(0, 1, 0), (1, 1, 0), (2, 0, 0), (3, 0, 0)]
  | 0x03 => [(0, 0, 0), (1, 1, 0), (2, 1, 0)]
  | 0x04 => [(0, 1, 0), (1, 1, 0), (2, 1, 0), (3, 1, 0), (4, 2, 2), (5, 1, 0), (6, 1, 0), (7, 0, 0), (8, 1, 0), (9, 1, 0), (10, 1, 0), (11, 1, 0)]
  | 0x05 => [(0, 1, 0), (1, 0, 0), (2, 0, 0), (3, 1, 0), (4, 1, 0), (5, 1, 0), (6, 1, 0), (7, 1, 0)]
  | 0x06 => [(0, 1, 0), (1, 1, 0), (2, 1, 0), (3, 1, 0), (4, 0, 0), (5, 2, 2)]
  | 0x07 => [(0, 1, 0), (1, 1, 0), (2, 1, 0), (3, 0, 0), (4, 1, 0), (5, 1, 0), (6, 0, 0), (7, 0, 0), (8, 1, 0), (9, 1, 0), (10, 2, 2)]
  | 0x08 => [(0, 0, 0), (1, 1, 0), (2, 1, 0), (3, 0, 0), (4, 1, 0), (5, 1, 0), (6, 1, 0)]
  | 0x09 => [(0, 1, 0), (1, 1, 0), (2, 1, 0), (3, 1, 0), (4, 1, 0), (5, 1, 0), (6, 1, 0), (7, 0, 0), (8, 2, 2)]
  | 0x0A => [(0, 1, 0), (1, 1, 0), (2, 1, 0), (3, 0, 0)]
  | 0x0B => [(0, 0, 0), (1, 1, 0), (2, 1, 0), (3, 0, 0), (4, 0, 0), (5, 0, 0)]
  | 0x0C => [(0, 1, 0), (1, 1, 0), (2, 0, 0), (3, 0, 0), (4, 1, 0), (5, 1, 0), (6, 0, 0), (7, 0, 0), (8, 1, 0), (9, 0, 0), (10, 0, 0), (11, 2, 2)]
  | 0x0D => [(0, 1, 0), (1, 1, 0), (2, 0, 0), (3, 1, 0), (4, 1, 0), (5, 0, 0), (6, 1, 0), (7, 2, 2)]
  | 0x0E => [(0, 0, 0), (1, 0, 0)]
  | 0x0F => [(0, 1, 0), (1, 1, 0), (2, 1, 0), (3, 1, 0), (4, 0, 0), (5, 1, 0)]
  | _ => []

/-- The row of one source, if the block has it. -/
def faultRow (b lm i : Nat) : Option FaultRow := (faultRows b lm).find? (fun r => r.1 == i)

/-- Blocks for which a BLOCK_RESET reaction is not accepted (R378). -/
def noBlockReset (b : Nat) : Bool := b == bKEEP || b == bBOOT || b == bHOST || b == bCSYN || b == bHLTH

end Sys2Proof.Machine
end

