-- ==== Sys2Proof/Machine/ParamTable.lean ====
section
/-! DEFINITION. The parameters of the device: one row per line of the spec's parameter tables, with its identifier
parts, class, range and reset value (R11, R12, R338).  Durations are in 2^-16 ns. -/

namespace Sys2Proof.Machine

/-- The class of a parameter (R338); `ro` is a parameter whose Range is a dash (R12). -/
inductive PClass where
  | live
  | staged
  | halted
  | ro
  deriving DecidableEq, Repr

/-- The values a parameter accepts (R11).  `below n` is 0 up to one less than parameter `n` of the same block. -/
inductive PRange where
  | span (lo hi : Int)
  | spanOr (x lo hi : Int)
  | steps (lo hi step : Int)
  | oneOf (l : List Int)
  | mac
  | below (n : Nat)
  | ro
  deriving DecidableEq, Repr

/-- One parameter of a block: the numbers of the units that have it (`iLo..iHi`), its Number, class, range, reset. -/
structure PRow where
  iLo   : Nat
  iHi   : Nat
  num   : Nat
  cls   : PClass
  range : PRange
  reset : Int
  deriving DecidableEq, Repr

/-! Numbers by name: the chapter tag of the table, then the name the table gives. -/

abbrev Par.lnPllAPlan : Nat := 0x0001
abbrev Par.lnPllBPlan : Nat := 0x0002
abbrev Par.lnPllMode : Nat := 0x0003
abbrev Par.lnTemp : Nat := 0x0004
abbrev Par.lnLaneMode : Nat := 0x0100
abbrev Par.lnPllSel : Nat := 0x0101
abbrev Par.lnTxPre : Nat := 0x0102
abbrev Par.lnTxPost : Nat := 0x0103
abbrev Par.lnTxSwing : Nat := 0x0104
abbrev Par.lnCtleMode : Nat := 0x0105
abbrev Par.lnCtlePeak : Nat := 0x0106
abbrev Par.lnAdaptMode : Nat := 0x0107
abbrev Par.lnCdrBw : Nat := 0x0108
abbrev Par.lnFomWarn : Nat := 0x0109
abbrev Par.lnFomFail : Nat := 0x010A
abbrev Par.lnSpareFomMin : Nat := 0x010B
abbrev Par.lnPolarity : Nat := 0x010C
abbrev Par.lnFom : Nat := 0x0110
abbrev Par.lnTxLatency : Nat := 0x0111
abbrev Par.lnRxLatency : Nat := 0x0112
abbrev Par.lnActiveSlice : Nat := 0x0113
abbrev Par.dfLinkAdmin : Nat := 0x0400
abbrev Par.dfLockTimeout : Nat := 0x0401
abbrev Par.dfTxTrain : Nat := 0x0402
abbrev Par.dfTxRemote : Nat := 0x0403
abbrev Par.dfTimedExchanges : Nat := 0x0404
abbrev Par.dfRoundTripMax : Nat := 0x0405
abbrev Par.dfTimedSpreadMax : Nat := 0x0406
abbrev Par.dfDelayStepMax : Nat := 0x0407
abbrev Par.dfHoldoff : Nat := 0x0408
abbrev Par.dfTrunkMtu : Nat := 0x0409
abbrev Par.dfCreditEn : Nat := 0x040A
abbrev Par.dfTunnelEn : Nat := 0x040B
abbrev Par.dfLinkState : Nat := 0x0410
abbrev Par.epLinkAdmin : Nat := 0x0300
abbrev Par.epFecMode : Nat := 0x0301
abbrev Par.epSgmii : Nat := 0x0302
abbrev Par.epAnEn : Nat := 0x0303
abbrev Par.epLinkDownFilter : Nat := 0x0304
abbrev Par.epHoldoff : Nat := 0x0305
abbrev Par.epMaxFrame : Nat := 0x0306
abbrev Par.epFlowMode : Nat := 0x0307
abbrev Par.epPfcEn : Nat := 0x0308
abbrev Par.epPfcQuanta : Nat := 0x0309
abbrev Par.epPfcRefresh : Nat := 0x030A
abbrev Par.epPfcStormTime : Nat := 0x030B
abbrev Par.epPtpRole : Nat := 0x0310
abbrev Par.epPtpProfile : Nat := 0x0311
abbrev Par.epPtpTransport : Nat := 0x0312
abbrev Par.epPtpStep : Nat := 0x0313
abbrev Par.epPtpDomain : Nat := 0x0314
abbrev Par.epPtpAsym : Nat := 0x0315
abbrev Par.epPtpLogSync : Nat := 0x0316
abbrev Par.epPtpLogMindelay : Nat := 0x0317
abbrev Par.epSynceRx : Nat := 0x0320
abbrev Par.epEsmcEn : Nat := 0x0321
abbrev Par.epEsmcExtended : Nat := 0x0322
abbrev Par.epQlRx : Nat := 0x0323
abbrev Par.epLinkState : Nat := 0x0330
abbrev Par.gtJumpThreshold : Nat := 0x0001
abbrev Par.gtStepDetect : Nat := 0x0002
abbrev Par.gtLockThreshold : Nat := 0x0003
abbrev Par.gtLockTime : Nat := 0x0004
abbrev Par.gtUnlockTime : Nat := 0x0005
abbrev Par.gtTimescale : Nat := 0x0006
abbrev Par.gtUtcOffset : Nat := 0x0007
abbrev Par.gtLeap : Nat := 0x0008
abbrev Par.gtUtcValid : Nat := 0x0009
abbrev Par.gtState : Nat := 0x0010
abbrev Par.gtPhaseError : Nat := 0x0011
abbrev Par.gtFreqOffset : Nat := 0x0012
abbrev Par.gtRefusedDiff : Nat := 0x0013
abbrev Par.gtHoldoverTime : Nat := 0x0014
abbrev Par.gxAsymFixed : Nat := 0x0420
abbrev Par.gxAsymEps : Nat := 0x0421
abbrev Par.gxExtDelay : Nat := 0x0422
abbrev Par.gxExchAvgLog2 : Nat := 0x0423
abbrev Par.gxOutlierLimit : Nat := 0x0424
abbrev Par.gxMeanDelay : Nat := 0x0428
abbrev Par.gxAsymmetry : Nat := 0x0429
abbrev Par.gxOffset : Nat := 0x042A
abbrev Par.rfBwAcqTrunk : Nat := 0x0020
abbrev Par.rfBwTrkTrunk : Nat := 0x0021
abbrev Par.rfBwAcqPtp : Nat := 0x0022
abbrev Par.rfBwTrkPtp : Nat := 0x0023
abbrev Par.rfBwAcqPps : Nat := 0x0024
abbrev Par.rfBwTrkPps : Nat := 0x0025
abbrev Par.rfBwAcqFreq : Nat := 0x0026
abbrev Par.rfBwTrkFreq : Nat := 0x0027
abbrev Par.rfBwAcqSynce : Nat := 0x0028
abbrev Par.rfBwTrkSynce : Nat := 0x0029
abbrev Par.rfSelMask : Nat := 0x0001
abbrev Par.rfPriority : Nat := 0x0002
abbrev Par.rfRefQl : Nat := 0x0003
abbrev Par.rfRefType : Nat := 0x0004
abbrev Par.rfRefFreq : Nat := 0x0005
abbrev Par.rfCableDelay : Nat := 0x0006
abbrev Par.rfFreqTol : Nat := 0x0007
abbrev Par.rfPhaseTol : Nat := 0x0008
abbrev Par.rfMonWindow : Nat := 0x0009
abbrev Par.rfWtr : Nat := 0x000A
abbrev Par.rfCandState : Nat := 0x0010
abbrev Par.rfQlEffective : Nat := 0x0011
abbrev Par.rfFreqMeas : Nat := 0x0012
abbrev Par.rfPhaseMeas : Nat := 0x0013
abbrev Par.rfLoMaster : Nat := 0x0030
abbrev Par.rfLoPriority : Nat := 0x0031
abbrev Par.rfLoReferee : Nat := 0x0032
abbrev Par.rfDisputeThreshold : Nat := 0x0033
abbrev Par.rfDisputeTime : Nat := 0x0034
abbrev Par.rfHopsMax : Nat := 0x0035
abbrev Par.rfEecOption : Nat := 0x0036
abbrev Par.rfMoorAvg : Nat := 0x0037
abbrev Par.rfMoorGuard : Nat := 0x0038
abbrev Par.rfMoorMin : Nat := 0x0039
abbrev Par.rfDriftComp : Nat := 0x003A
abbrev Par.rfMooringFreq : Nat := 0x003B
abbrev Par.rfSelMode : Nat := 0x0040
abbrev Par.rfAuxEn : Nat := 0x0041
abbrev Par.rfSelected : Nat := 0x0048
abbrev Par.rfDisputeState : Nat := 0x0049
abbrev Par.ckOscPref : Nat := 0x0001
abbrev Par.ckOscAFreq : Nat := 0x0002
abbrev Par.ckOscBFreq : Nat := 0x0003
abbrev Par.ckSscMode : Nat := 0x0004
abbrev Par.ckStoreSsc : Nat := 0x0005
abbrev Par.ckCoreReturn : Nat := 0x0006
abbrev Par.ckSlewLimit : Nat := 0x0007
abbrev Par.ckAux0Freq : Nat := 0x0008
abbrev Par.ckAux1Freq : Nat := 0x0009
abbrev Par.ckTimeServing : Nat := 0x0010
abbrev Par.ckCoreSource : Nat := 0x0011
abbrev Par.ckOscDiff : Nat := 0x0012
abbrev Par.ckOutMode : Nat := 0x0100
abbrev Par.ckOutSource : Nat := 0x0101
abbrev Par.ckOutDiv : Nat := 0x0102
abbrev Par.ckOutPeriod : Nat := 0x0103
abbrev Par.ckOutWidth : Nat := 0x0104
abbrev Par.ckOutAlign : Nat := 0x0105
abbrev Par.ckOutOffset : Nat := 0x0106
abbrev Par.ckOutStepSpacing : Nat := 0x0107
abbrev Par.ckOutRestart : Nat := 0x0108
abbrev Par.ckAlignWindow : Nat := 0x0109
abbrev Par.ckOutDrive : Nat := 0x010A
abbrev Par.ckOutPending : Nat := 0x0110
abbrev Par.ckPulseMode : Nat := 0x0200
abbrev Par.ckPulsePeriod : Nat := 0x0201
abbrev Par.ckPulseWidth : Nat := 0x0202
abbrev Par.ckPulseAlign : Nat := 0x0203
abbrev Par.ckPulseOffset : Nat := 0x0204
abbrev Par.ckPulsePolarity : Nat := 0x0205
abbrev Par.ckPulseClaimed : Nat := 0x0206
abbrev Par.ckPulseLevel : Nat := 0x0207
abbrev Par.tcChEdge : Nat := 0x0001
abbrev Par.tcChPrescale : Nat := 0x0002
abbrev Par.tcFifoPolicy : Nat := 0x0003
abbrev Par.tcFifoReader : Nat := 0x0004
abbrev Par.tcCalInterval : Nat := 0x0005
abbrev Par.tcChOwner : Nat := 0x0010
abbrev Par.tcFifoLevel : Nat := 0x0011
abbrev Par.tcDropCount : Nat := 0x0012
abbrev Par.tcStartIgnored : Nat := 0x0013
abbrev Par.tcFreqLast : Nat := 0x0014
abbrev Par.tcInterp : Nat := 0x0015
abbrev Par.tcEncEn : Nat := 0x0100
abbrev Par.tcEncLines : Nat := 0x0101
abbrev Par.tcEncGlitch : Nat := 0x0102
abbrev Par.tcEncZMode : Nat := 0x0103
abbrev Par.tcEncZPosition : Nat := 0x0104
abbrev Par.tcEncDir : Nat := 0x0105
abbrev Par.tcEncFifo : Nat := 0x0106
abbrev Par.tcEncPosition : Nat := 0x0110
abbrev Par.tcEncQuadErr : Nat := 0x0111
abbrev Par.shShaftSource : Nat := 0x0001
abbrev Par.shDist : Nat := 0x0002
abbrev Par.shLead : Nat := 0x0003
abbrev Par.shContLimit : Nat := 0x0004
abbrev Par.shClaimTimeout : Nat := 0x0005
abbrev Par.shCapEncoder : Nat := 0x0006
abbrev Par.shCapZero : Nat := 0x0007
abbrev Par.shCapOffset : Nat := 0x0008
abbrev Par.shFitWindow : Nat := 0x0009
abbrev Par.shFitPeriod : Nat := 0x000A
abbrev Par.shCapTc : Nat := 0x000B
abbrev Par.shCapTrackLimit : Nat := 0x000C
abbrev Par.shGearSrc : Nat := 0x0010
abbrev Par.shGearNum : Nat := 0x0011
abbrev Par.shGearDen : Nat := 0x0012
abbrev Par.shGearOffset : Nat := 0x0013
abbrev Par.shShaftState : Nat := 0x0020
abbrev Par.shSegQueued : Nat := 0x0021
abbrev Par.shClaimHeld : Nat := 0x0022
abbrev Par.shLastDiscont : Nat := 0x0023
abbrev Par.shSegRejected : Nat := 0x0024
abbrev Par.shSegDupLow : Nat := 0x0025
abbrev Par.shPlanHorizon : Nat := 0x0100
abbrev Par.shReplanFree : Nat := 0x0101
abbrev Par.shRecPolicy : Nat := 0x0102
abbrev Par.shSlotsUsed : Nat := 0x0110
abbrev Par.shTqLevel : Nat := 0x0111
abbrev Par.swPvid : Nat := 0x0500
abbrev Par.swDefaultPcp : Nat := 0x0501
abbrev Par.swPcpMap : Nat := 0x0502
abbrev Par.swStreamMethods : Nat := 0x0503
abbrev Par.swCutThrough : Nat := 0x0504
abbrev Par.swLearn : Nat := 0x0505
abbrev Par.swIngressFilter : Nat := 0x0506
abbrev Par.swDeiColour : Nat := 0x0507
abbrev Par.lkLlSize : Nat := 0x0001
abbrev Par.lkAgeTime : Nat := 0x0002
abbrev Par.lkStreamMask0 : Nat := 0x0020
abbrev Par.lkStreamMask1 : Nat := 0x0021
abbrev Par.lkStreamMask2 : Nat := 0x0022
abbrev Par.lkStreamMask3 : Nat := 0x0023
abbrev Par.lkStreamMask4 : Nat := 0x0024
abbrev Par.lkStreamMask5 : Nat := 0x0025
abbrev Par.lkStreamMask6 : Nat := 0x0026
abbrev Par.lkStreamMask7 : Nat := 0x0027
abbrev Par.lkPinned : Nat := 0x0010
abbrev Par.lkCached : Nat := 0x0011
abbrev Par.lkFdbUsed : Nat := 0x0012
abbrev Par.lkStreamUsed : Nat := 0x0013
abbrev Par.bfWdEn : Nat := 0x0001
abbrev Par.bfWdTime : Nat := 0x0002
abbrev Par.bfWdRestore : Nat := 0x0003
abbrev Par.bfScrubPeriod : Nat := 0x0004
abbrev Par.bfCapBase : Nat := 0x0005
abbrev Par.bfCapRecords : Nat := 0x0006
abbrev Par.bfCapPolicy : Nat := 0x0007
abbrev Par.bfCapMask : Nat := 0x0008
abbrev Par.bfCapRd : Nat := 0x0009
abbrev Par.bfPoolTotal : Nat := 0x0010
abbrev Par.bfPoolShared : Nat := 0x0011
abbrev Par.bfPoolFree : Nat := 0x0012
abbrev Par.bfOrphans : Nat := 0x0013
abbrev Par.bfDemoted : Nat := 0x0014
abbrev Par.bfCapWr : Nat := 0x0015
abbrev Par.bpMinIn : Nat := 0x0600
abbrev Par.bpAlphaIn : Nat := 0x0601
abbrev Par.bpHeadroom : Nat := 0x0602
abbrev Par.bpPfcHyst : Nat := 0x0603
abbrev Par.bpMinOut : Nat := 0x0604
abbrev Par.bpAlphaOut : Nat := 0x0605
abbrev Par.bpWredProfile : Nat := 0x0606
abbrev Par.bpCreditAlloc : Nat := 0x0607
abbrev Par.bpCableLen : Nat := 0x0608
abbrev Par.bpPartnerDelay : Nat := 0x0609
abbrev Par.bpHeadroomReq : Nat := 0x0610
abbrev Par.bpCreditReq : Nat := 0x0611
abbrev Par.wrWeight : Nat := 0x0100
abbrev Par.wrGMin : Nat := 0x0101
abbrev Par.wrGMax : Nat := 0x0102
abbrev Par.wrGPmax : Nat := 0x0103
abbrev Par.wrYMin : Nat := 0x0104
abbrev Par.wrYMax : Nat := 0x0105
abbrev Par.wrYPmax : Nat := 0x0106
abbrev Par.wrRMin : Nat := 0x0107
abbrev Par.wrRMax : Nat := 0x0108
abbrev Par.wrRPmax : Nat := 0x0109
abbrev Par.sdGatedMask : Nat := 0x0700
abbrev Par.sdDrrMask : Nat := 0x0701
abbrev Par.sdEscInterval : Nat := 0x0702
abbrev Par.sdGclState : Nat := 0x0710
abbrev Par.sdGclEntry : Nat := 0x0711
abbrev Par.sdQuantum : Nat := 0x0720
abbrev Par.sdCbsEn : Nat := 0x0721
abbrev Par.sdIdleSlope : Nat := 0x0722
abbrev Par.sdHiCredit : Nat := 0x0723
abbrev Par.sdEscDwell : Nat := 0x0724
abbrev Par.sdPcPolicer : Nat := 0x0725
abbrev Par.sdCbsCredit : Nat := 0x0730
abbrev Par.scSlotsUsed : Nat := 0x0010
abbrev Par.scListsRunning : Nat := 0x0011
abbrev Par.prPairMode : Nat := 0x0001
abbrev Par.prPairId : Nat := 0x0002
abbrev Par.prPrio : Nat := 0x0003
abbrev Par.prPairTrunk : Nat := 0x0004
abbrev Par.prHbTimeout : Nat := 0x0005
abbrev Par.prActCheck : Nat := 0x0006
abbrev Par.prHoldStandby : Nat := 0x0007
abbrev Par.prSwitchWait : Nat := 0x0008
abbrev Par.prRoleState : Nat := 0x0010
abbrev Par.prEpoch : Nat := 0x0011
abbrev Par.prClaim : Nat := 0x0012
abbrev Par.prPartnerClaim : Nat := 0x0013
abbrev Par.prPartnerDeviceId : Nat := 0x0014
abbrev Par.efMgmtMac : Nat := 0x0001
abbrev Par.efInbandPortsLo : Nat := 0x0002
abbrev Par.efInbandPortsHi : Nat := 0x0003
abbrev Par.efRemoteRate : Nat := 0x0004
abbrev Par.efTunnelTimeout : Nat := 0x0005
abbrev Par.efSubLease : Nat := 0x0006
abbrev Par.efEvtMod : Nat := 0x0007
abbrev Par.efCmdDiscarded : Nat := 0x0010
abbrev Par.efEvtLost : Nat := 0x0011
abbrev Par.efKeyState : Nat := 0x0020
abbrev Par.efReplayFloor : Nat := 0x0021
abbrev Par.efWdPeriod : Nat := 0x0008
abbrev Par.hlGovCoreHeadroom : Nat := 0x0001
abbrev Par.hlGovTimeHeadroom : Nat := 0x0002
abbrev Par.hlGovRamp : Nat := 0x0003
abbrev Par.hlGrantTimeout : Nat := 0x0004
abbrev Par.hlSliceBudget : Nat := 0x0005
abbrev Par.hlSliceGap : Nat := 0x0006
abbrev Par.hlRotEn : Nat := 0x0007
abbrev Par.hlRotInterval : Nat := 0x0008
abbrev Par.hlRotMask : Nat := 0x0009
abbrev Par.hlAgeWarn : Nat := 0x000A
abbrev Par.hlTrendHorizon : Nat := 0x000B
abbrev Par.hlEccRetire : Nat := 0x000C
abbrev Par.hlPoh : Nat := 0x0010
abbrev Par.hlTjAvg : Nat := 0x0011
abbrev Par.hlAgeWorst : Nat := 0x0012
abbrev Par.hlLogLost : Nat := 0x0013
abbrev Par.hlFomDays : Nat := 0x0100
abbrev Par.ctTraceEn : Nat := 0x0001
abbrev Par.ctTagEn : Nat := 0x0002
abbrev Par.ctTagLog2 : Nat := 0x0003
abbrev Par.ctTagSeed : Nat := 0x0004
abbrev Par.ctTagPortsLo : Nat := 0x0005
abbrev Par.ctTagPortsHi : Nat := 0x0006
abbrev Par.ctTagChanEn : Nat := 0x0007
abbrev Par.ctTagChanLo : Nat := 0x0008
abbrev Par.ctTagChanHi : Nat := 0x0009
abbrev Par.ctTraceBase : Nat := 0x000A
abbrev Par.ctTraceRecords : Nat := 0x000B
abbrev Par.ctTracePolicy : Nat := 0x000C
abbrev Par.ctTraceRd : Nat := 0x000D
abbrev Par.ctTraceWr : Nat := 0x0010
abbrev Par.ctTraceLost : Nat := 0x0011
abbrev Par.ctTagged : Nat := 0x0012

/-- Table LN-9. -/
def rowsLN9 : List PRow :=
  [⟨0x00, 0x00, Par.lnPllAPlan, .halted, .span 0 5, 0⟩,
   ⟨0x00, 0x00, Par.lnPllBPlan, .halted, .span 0 5, 0⟩,
   ⟨0x00, 0x00, Par.lnPllMode, .halted, .span 0 1, 1⟩,
   ⟨0x00, 0x00, Par.lnTemp, .ro, .ro, 0⟩]

/-- Table LN-10. -/
def rowsLN10 : List PRow :=
  [⟨0x00, 0x03, Par.lnLaneMode, .staged, .span 0 7, 0⟩,
   ⟨0x00, 0x03, Par.lnPllSel, .staged, .span 0 1, 0⟩,
   ⟨0x00, 0x03, Par.lnTxPre, .live, .span 0 8, 2⟩,
   ⟨0x00, 0x03, Par.lnTxPost, .live, .span 0 16, 6⟩,
   ⟨0x00, 0x03, Par.lnTxSwing, .live, .steps 600 1000 25, 800⟩,
   ⟨0x00, 0x03, Par.lnCtleMode, .live, .span 0 1, 0⟩,
   ⟨0x00, 0x03, Par.lnCtlePeak, .live, .span 0 15, 8⟩,
   ⟨0x00, 0x03, Par.lnAdaptMode, .live, .span 0 1, 0⟩,
   ⟨0x00, 0x03, Par.lnCdrBw, .live, .span 0 3, 1⟩,
   ⟨0x00, 0x03, Par.lnFomWarn, .live, .span 1 255, 96⟩,
   ⟨0x00, 0x03, Par.lnFomFail, .live, .span 1 255, 48⟩,
   ⟨0x00, 0x03, Par.lnSpareFomMin, .live, .span 1 255, 96⟩,
   ⟨0x00, 0x03, Par.lnPolarity, .halted, .span 0 3, 0⟩,
   ⟨0x00, 0x03, Par.lnFom, .ro, .ro, 0⟩,
   ⟨0x00, 0x03, Par.lnTxLatency, .ro, .ro, 0⟩,
   ⟨0x00, 0x03, Par.lnRxLatency, .ro, .ro, 0⟩,
   ⟨0x00, 0x03, Par.lnActiveSlice, .ro, .ro, 0⟩]

/-- Table DF-22. -/
def rowsDF22 : List PRow :=
  [⟨0x00, 0x00, Par.dfLinkAdmin, .live, .span 0 1, 0⟩,
   ⟨0x00, 0x00, Par.dfLockTimeout, .live, .span 100 100000, 2000⟩,
   ⟨0x00, 0x00, Par.dfTxTrain, .live, .span 0 1, 1⟩,
   ⟨0x00, 0x00, Par.dfTxRemote, .live, .span 0 1, 1⟩,
   ⟨0x00, 0x00, Par.dfTimedExchanges, .live, .span 64 65535, 1024⟩,
   ⟨0x00, 0x00, Par.dfRoundTripMax, .live, .span 1000 250000, 250000⟩,
   ⟨0x00, 0x00, Par.dfTimedSpreadMax, .live, .span 10 10000, 500⟩,
   ⟨0x00, 0x00, Par.dfDelayStepMax, .live, .span 10 10000, 1000⟩,
   ⟨0x00, 0x00, Par.dfHoldoff, .live, .span 0 1000000, 2000⟩,
   ⟨0x00, 0x00, Par.dfTrunkMtu, .staged, .span 64 10240, 2048⟩,
   ⟨0x00, 0x00, Par.dfCreditEn, .staged, .span 0 0xFF, 255⟩,
   ⟨0x00, 0x00, Par.dfTunnelEn, .live, .span 0 1, 1⟩,
   ⟨0x00, 0x00, Par.dfLinkState, .ro, .ro, 0⟩]

/-- Table EP-6. -/
def rowsEP6 : List PRow :=
  [⟨0x00, 0x00, Par.epLinkAdmin, .live, .span 0 1, 0⟩,
   ⟨0x00, 0x00, Par.epFecMode, .staged, .span 0 2, 0⟩,
   ⟨0x00, 0x00, Par.epSgmii, .staged, .span 0 1, 0⟩,
   ⟨0x00, 0x00, Par.epAnEn, .staged, .span 0 1, 1⟩,
   ⟨0x00, 0x00, Par.epLinkDownFilter, .live, .span 1 1000, 10⟩,
   ⟨0x00, 0x00, Par.epHoldoff, .live, .span 0 10000, 50⟩,
   ⟨0x00, 0x00, Par.epMaxFrame, .staged, .span 64 10240, 1536⟩,
   ⟨0x00, 0x00, Par.epFlowMode, .staged, .span 0 2, 0⟩,
   ⟨0x00, 0x00, Par.epPfcEn, .staged, .span 0 255, 0⟩,
   ⟨0x00, 0x00, Par.epPfcQuanta, .live, .span 1 65535, 65535⟩,
   ⟨0x00, 0x00, Par.epPfcRefresh, .live, .span 1 65534, 32768⟩,
   ⟨0x00, 0x00, Par.epPfcStormTime, .live, .span 1 10000, 100⟩,
   ⟨0x00, 0x00, Par.epPtpRole, .staged, .span 0 3, 0⟩,
   ⟨0x00, 0x00, Par.epPtpProfile, .staged, .span 0 3, 0⟩,
   ⟨0x00, 0x00, Par.epPtpTransport, .staged, .span 0 2, 0⟩,
   ⟨0x00, 0x00, Par.epPtpStep, .staged, .span 0 1, 0⟩,
   ⟨0x00, 0x00, Par.epPtpDomain, .staged, .span 0 255, 0⟩,
   ⟨0x00, 0x00, Par.epPtpAsym, .live, .span (-65536000) 65536000, 0⟩,
   ⟨0x00, 0x00, Par.epPtpLogSync, .staged, .span (-7) 1, (-3)⟩,
   ⟨0x00, 0x00, Par.epPtpLogMindelay, .staged, .span (-7) 5, 0⟩,
   ⟨0x00, 0x00, Par.epSynceRx, .live, .span 0 1, 0⟩,
   ⟨0x00, 0x00, Par.epEsmcEn, .live, .span 0 1, 0⟩,
   ⟨0x00, 0x00, Par.epEsmcExtended, .live, .span 0 1, 1⟩,
   ⟨0x00, 0x00, Par.epQlRx, .ro, .ro, 0⟩,
   ⟨0x00, 0x00, Par.epLinkState, .ro, .ro, 0⟩]

/-- Table GT-11. -/
def rowsGT11 : List PRow :=
  [⟨0x00, 0x00, Par.gtJumpThreshold, .live, .span (16384) 65536000000000, 131072⟩,
   ⟨0x00, 0x00, Par.gtStepDetect, .live, .span (3277) 65536000000000, 32768⟩,
   ⟨0x00, 0x00, Par.gtLockThreshold, .live, .span (656) 32768000000000, 65536⟩,
   ⟨0x00, 0x00, Par.gtLockTime, .live, .span 10 100000, 1000⟩,
   ⟨0x00, 0x00, Par.gtUnlockTime, .live, .span 10 100000, 1000⟩,
   ⟨0x00, 0x00, Par.gtTimescale, .staged, .span 0 1, 0⟩,
   ⟨0x00, 0x00, Par.gtUtcOffset, .live, .span (-32768) 32767, 0⟩,
   ⟨0x00, 0x00, Par.gtLeap, .live, .span 0 2, 0⟩,
   ⟨0x00, 0x00, Par.gtUtcValid, .live, .span 0 1, 0⟩,
   ⟨0x00, 0x00, Par.gtState, .ro, .ro, 0⟩,
   ⟨0x00, 0x00, Par.gtPhaseError, .ro, .ro, 0⟩,
   ⟨0x00, 0x00, Par.gtFreqOffset, .ro, .ro, 0⟩,
   ⟨0x00, 0x00, Par.gtRefusedDiff, .ro, .ro, 0⟩,
   ⟨0x00, 0x00, Par.gtHoldoverTime, .ro, .ro, 0⟩]

/-- Table GT-12. -/
def rowsGT12 : List PRow :=
  [⟨0x00, 0x00, Par.gxAsymFixed, .live, .span (-6553600) 6553600, 0⟩,
   ⟨0x00, 0x00, Par.gxAsymEps, .live, .span (-1000000) 1000000, 0⟩,
   ⟨0x00, 0x00, Par.gxExtDelay, .live, .span (0) 65536000, 0⟩,
   ⟨0x00, 0x00, Par.gxExchAvgLog2, .live, .span 4 16, 10⟩,
   ⟨0x00, 0x00, Par.gxOutlierLimit, .live, .span 10 10000, 200⟩,
   ⟨0x00, 0x00, Par.gxMeanDelay, .ro, .ro, 0⟩,
   ⟨0x00, 0x00, Par.gxAsymmetry, .ro, .ro, 0⟩,
   ⟨0x00, 0x00, Par.gxOffset, .ro, .ro, 0⟩]

/-- Table RF-5. -/
def rowsRF5 : List PRow :=
  [⟨0xF0, 0xF0, Par.rfBwAcqTrunk, .staged, .span 100 50000, 10000⟩,
   ⟨0xF0, 0xF0, Par.rfBwTrkTrunk, .staged, .span 10 10000, 1000⟩,
   ⟨0xF0, 0xF0, Par.rfBwAcqPtp, .staged, .span 10 10000, 400⟩,
   ⟨0xF0, 0xF0, Par.rfBwTrkPtp, .staged, .span 1 1000, 100⟩,
   ⟨0xF0, 0xF0, Par.rfBwAcqPps, .staged, .span 1 50, 50⟩,
   ⟨0xF0, 0xF0, Par.rfBwTrkPps, .staged, .span 1 50, 10⟩,
   ⟨0xF0, 0xF0, Par.rfBwAcqFreq, .staged, .span 100 50000, 10000⟩,
   ⟨0xF0, 0xF0, Par.rfBwTrkFreq, .staged, .span 10 10000, 1000⟩,
   ⟨0xF0, 0xF0, Par.rfBwAcqSynce, .staged, .span 100 50000, 10000⟩,
   ⟨0xF0, 0xF0, Par.rfBwTrkSynce, .staged, .span 50 10000, 1000⟩]

/-- Table RF-7.  DESIGN CHOICE (log entry 29): REF_TYPE and REF_FREQ, marked REF_IN only, can be written on the port
candidates too, where nothing reads them. -/
def rowsRF7 : List PRow :=
  [⟨0x00, 0x5F, Par.rfSelMask, .live, .span 0 7, 0⟩,
   ⟨0x00, 0x5F, Par.rfPriority, .live, .span 1 255, 128⟩,
   ⟨0x00, 0x5F, Par.rfRefQl, .live, .span 0 255, 0⟩,
   ⟨0x00, 0x5F, Par.rfRefType, .staged, .span 0 1, 0⟩,
   ⟨0x00, 0x5F, Par.rfRefFreq, .staged, .spanOr 1 1000 800000000, 1⟩,
   ⟨0x00, 0x5F, Par.rfCableDelay, .live, .span (0) 6553600000, 0⟩,
   ⟨0x00, 0x5F, Par.rfFreqTol, .live, .span 10 100000, 2000⟩,
   ⟨0x00, 0x5F, Par.rfPhaseTol, .live, .span (65536) 65536000000000, 65536000⟩,
   ⟨0x00, 0x5F, Par.rfMonWindow, .live, .span 1 10000, 8000⟩,
   ⟨0x00, 0x5F, Par.rfWtr, .live, .span 0 3600, 10⟩,
   ⟨0x00, 0x5F, Par.rfCandState, .ro, .ro, 0⟩,
   ⟨0x00, 0x5F, Par.rfQlEffective, .ro, .ro, 0⟩,
   ⟨0x00, 0x5F, Par.rfFreqMeas, .ro, .ro, 0⟩,
   ⟨0x00, 0x5F, Par.rfPhaseMeas, .ro, .ro, 0⟩]

/-- Table RF-8. -/
def rowsRF8 : List PRow :=
  [⟨0xF0, 0xF0, Par.rfLoMaster, .live, .span 0 1, 0⟩,
   ⟨0xF0, 0xF0, Par.rfLoPriority, .live, .span 1 255, 255⟩,
   ⟨0xF0, 0xF0, Par.rfLoReferee, .live, .span 0 1, 0⟩,
   ⟨0xF0, 0xF0, Par.rfDisputeThreshold, .live, .span 1 10000, 50⟩,
   ⟨0xF0, 0xF0, Par.rfDisputeTime, .live, .span 100 60000, 2000⟩,
   ⟨0xF0, 0xF0, Par.rfHopsMax, .live, .span 1 255, 32⟩,
   ⟨0xF0, 0xF0, Par.rfEecOption, .staged, .span 1 2, 1⟩,
   ⟨0xF0, 0xF0, Par.rfMoorAvg, .live, .span 10 86400, 600⟩,
   ⟨0xF0, 0xF0, Par.rfMoorGuard, .live, .span 0 600, 10⟩,
   ⟨0xF0, 0xF0, Par.rfMoorMin, .live, .span 10 86400, 300⟩,
   ⟨0xF0, 0xF0, Par.rfDriftComp, .live, .span 0 1, 0⟩,
   ⟨0xF0, 0xF0, Par.rfMooringFreq, .ro, .ro, 0⟩,
   ⟨0xF0, 0xF2, Par.rfSelMode, .live, .span 0 1, 0⟩,
   ⟨0xF1, 0xF2, Par.rfAuxEn, .staged, .span 0 1, 0⟩,
   ⟨0xF0, 0xF2, Par.rfSelected, .ro, .ro, 0⟩,
   ⟨0xF0, 0xF2, Par.rfDisputeState, .ro, .ro, 0⟩]

/-- Table CK-3. -/
def rowsCK3 : List PRow :=
  [⟨0xF0, 0xF0, Par.ckOscPref, .live, .span 0 1, 0⟩,
   ⟨0xF0, 0xF0, Par.ckOscAFreq, .halted, .oneOf [25, 40, 48, 50], 25⟩,
   ⟨0xF0, 0xF0, Par.ckOscBFreq, .halted, .oneOf [0, 25, 40, 48, 50], 0⟩,
   ⟨0xF0, 0xF0, Par.ckSscMode, .staged, .span 0 2, 0⟩,
   ⟨0xF0, 0xF0, Par.ckStoreSsc, .staged, .span 0 1, 0⟩,
   ⟨0xF0, 0xF0, Par.ckCoreReturn, .live, .span 0 1, 0⟩,
   ⟨0xF0, 0xF0, Par.ckSlewLimit, .live, .span 1 100000, 200⟩,
   ⟨0xF0, 0xF0, Par.ckAux0Freq, .staged, .span 8000000 12000000, 10000000⟩,
   ⟨0xF0, 0xF0, Par.ckAux1Freq, .staged, .span 8000000 12000000, 10000000⟩,
   ⟨0xF0, 0xF0, Par.ckTimeServing, .ro, .ro, 0⟩,
   ⟨0xF0, 0xF0, Par.ckCoreSource, .ro, .ro, 0⟩,
   ⟨0xF0, 0xF0, Par.ckOscDiff, .ro, .ro, 0⟩]

/-- Table CK-4. -/
def rowsCK4 : List PRow :=
  [⟨0x00, 0x0F, Par.ckOutMode, .staged, .span 0 2, 0⟩,
   ⟨0x00, 0x0F, Par.ckOutSource, .staged, .span 0 2, 0⟩,
   ⟨0x00, 0x0F, Par.ckOutDiv, .staged, .span 8 65536, 64⟩,
   ⟨0x00, 0x0F, Par.ckOutPeriod, .staged, .span 1000 2000000000, 1000000000⟩,
   ⟨0x00, 0x0F, Par.ckOutWidth, .staged, .span 500 1999999500, 100000⟩,
   ⟨0x00, 0x0F, Par.ckOutAlign, .staged, .spanOr 15 0 12, 0⟩,
   ⟨0x00, 0x0F, Par.ckOutOffset, .live, .span (-65536000000000) 65536000000000, 0⟩,
   ⟨0x00, 0x0F, Par.ckOutStepSpacing, .live, .span 1 65535, 1⟩,
   ⟨0x00, 0x0F, Par.ckOutRestart, .live, .span (65536) 65536000000000, 65536000⟩,
   ⟨0x00, 0x0F, Par.ckAlignWindow, .live, .span (6554) 65536000, 655360⟩,
   ⟨0x00, 0x0F, Par.ckOutDrive, .staged, .span 0 2, 0⟩,
   ⟨0x00, 0x0F, Par.ckOutPending, .ro, .ro, 0⟩]

/-- Table CK-5. -/
def rowsCK5 : List PRow :=
  [⟨0x20, 0x37, Par.ckPulseMode, .staged, .span 0 3, 0⟩,
   ⟨0x20, 0x37, Par.ckPulsePeriod, .staged, .span 100 2000000000, 1000000⟩,
   ⟨0x20, 0x37, Par.ckPulseWidth, .staged, .span 20 1999999980, 1000⟩,
   ⟨0x20, 0x37, Par.ckPulseAlign, .staged, .span 0 12, 0⟩,
   ⟨0x20, 0x37, Par.ckPulseOffset, .live, .span (-65536000000000) 65536000000000, 0⟩,
   ⟨0x20, 0x37, Par.ckPulsePolarity, .staged, .span 0 1, 0⟩,
   ⟨0x20, 0x37, Par.ckPulseClaimed, .staged, .span 0 1, 0⟩,
   ⟨0x20, 0x37, Par.ckPulseLevel, .live, .span 0 1, 0⟩]

/-- Table TC-5. -/
def rowsTC5 : List PRow :=
  [⟨0x00, 0x18, Par.tcChEdge, .live, .span 0 2, 0⟩,
   ⟨0x00, 0x18, Par.tcChPrescale, .staged, .span 1 65536, 1⟩,
   ⟨0x00, 0x18, Par.tcFifoPolicy, .live, .span 0 1, 0⟩,
   ⟨0x00, 0x18, Par.tcFifoReader, .live, .span 0 1, 0⟩,
   ⟨0x00, 0x18, Par.tcCalInterval, .live, .span 10 100000, 1000⟩,
   ⟨0x00, 0x18, Par.tcChOwner, .ro, .ro, 0⟩,
   ⟨0x00, 0x18, Par.tcFifoLevel, .ro, .ro, 0⟩,
   ⟨0x00, 0x18, Par.tcDropCount, .ro, .ro, 0⟩,
   ⟨0x00, 0x18, Par.tcStartIgnored, .ro, .ro, 0⟩,
   ⟨0x00, 0x18, Par.tcFreqLast, .ro, .ro, 0⟩,
   ⟨0x00, 0x18, Par.tcInterp, .ro, .ro, 0⟩]

/-- Table TC-6. -/
def rowsTC6 : List PRow :=
  [⟨0x40, 0x47, Par.tcEncEn, .staged, .span 0 1, 0⟩,
   ⟨0x40, 0x47, Par.tcEncLines, .staged, .span 1 1048576, 1024⟩,
   ⟨0x40, 0x47, Par.tcEncGlitch, .live, .span 0 15, 2⟩,
   ⟨0x40, 0x47, Par.tcEncZMode, .staged, .span 0 2, 1⟩,
   ⟨0x40, 0x47, Par.tcEncZPosition, .live, .span (-2147483648) 2147483647, 0⟩,
   ⟨0x40, 0x47, Par.tcEncDir, .staged, .span 0 1, 0⟩,
   ⟨0x40, 0x47, Par.tcEncFifo, .live, .span 0 1, 0⟩,
   ⟨0x40, 0x47, Par.tcEncPosition, .ro, .ro, 0⟩,
   ⟨0x40, 0x47, Par.tcEncQuadErr, .ro, .ro, 0⟩]

/-- Table SH-9. -/
def rowsSH9 : List PRow :=
  [⟨0x00, 0x3F, Par.shShaftSource, .staged, .span 0 4, 0⟩,
   ⟨0x00, 0x3F, Par.shDist, .live, .span 0 1, 0⟩,
   ⟨0x00, 0x3F, Par.shLead, .live, .span 20 2000, 200⟩,
   ⟨0x00, 0x3F, Par.shContLimit, .live, .span 1 2147483648, 4096⟩,
   ⟨0x00, 0x3F, Par.shClaimTimeout, .live, .span 1 1000, 10⟩,
   ⟨0x00, 0x3F, Par.shCapEncoder, .staged, .span 0 7, 0⟩,
   ⟨0x00, 0x3F, Par.shCapZero, .live, .span (-2147483648) 2147483647, 0⟩,
   ⟨0x00, 0x3F, Par.shCapOffset, .live, .span (-9223372036854775808) 9223372036854775807, 0⟩,
   ⟨0x00, 0x3F, Par.shFitWindow, .live, .span 50 100000, 1000⟩,
   ⟨0x00, 0x3F, Par.shFitPeriod, .live, .span 20 100000, 250⟩,
   ⟨0x00, 0x3F, Par.shCapTc, .live, .span 100 1000000, 2000⟩,
   ⟨0x00, 0x3F, Par.shCapTrackLimit, .live, .span 1 2147483648, 4194304⟩,
   ⟨0x00, 0x3F, Par.shGearSrc, .ro, .ro, 0⟩,
   ⟨0x00, 0x3F, Par.shGearNum, .ro, .ro, 0⟩,
   ⟨0x00, 0x3F, Par.shGearDen, .ro, .ro, 0⟩,
   ⟨0x00, 0x3F, Par.shGearOffset, .ro, .ro, 0⟩,
   ⟨0x00, 0x3F, Par.shShaftState, .ro, .ro, 0⟩,
   ⟨0x00, 0x3F, Par.shSegQueued, .ro, .ro, 0⟩,
   ⟨0x00, 0x3F, Par.shClaimHeld, .ro, .ro, 0⟩,
   ⟨0x00, 0x3F, Par.shLastDiscont, .ro, .ro, 0⟩,
   ⟨0x00, 0x3F, Par.shSegRejected, .ro, .ro, 0⟩,
   ⟨0x00, 0x3F, Par.shSegDupLow, .ro, .ro, 0⟩]

/-- Table SH-10. -/
def rowsSH10 : List PRow :=
  [⟨0xF0, 0xF0, Par.shPlanHorizon, .live, .span 40 2000, 100⟩,
   ⟨0xF0, 0xF0, Par.shReplanFree, .live, .span 16 1024, 256⟩,
   ⟨0xF0, 0xF0, Par.shRecPolicy, .live, .span 0 1, 0⟩,
   ⟨0xF0, 0xF0, Par.shSlotsUsed, .ro, .ro, 0⟩,
   ⟨0xF0, 0xF0, Par.shTqLevel, .ro, .ro, 0⟩]

/-- Table SW-9. -/
def rowsSW9 : List PRow :=
  [⟨0x00, 0x00, Par.swPvid, .staged, .span 1 4094, 1⟩,
   ⟨0x00, 0x00, Par.swDefaultPcp, .live, .span 0 7, 0⟩,
   ⟨0x00, 0x00, Par.swPcpMap, .staged, .span 0 0xFFFFFF, 16434824⟩,
   ⟨0x00, 0x00, Par.swStreamMethods, .staged, .span 0 15, 0⟩,
   ⟨0x00, 0x00, Par.swCutThrough, .live, .span 0 1, 1⟩,
   ⟨0x00, 0x00, Par.swLearn, .live, .span 0 1, 1⟩,
   ⟨0x00, 0x00, Par.swIngressFilter, .live, .span 0 1, 1⟩,
   ⟨0x00, 0x00, Par.swDeiColour, .live, .span 0 1, 0⟩]

/-- Table SW-10. -/
def rowsSW10 : List PRow :=
  [⟨0x00, 0x00, Par.lkLlSize, .halted, .span 1024 65536, 65536⟩,
   ⟨0x00, 0x00, Par.lkAgeTime, .live, .spanOr 0 10 1000000, 300⟩,
   ⟨0x00, 0x00, Par.lkStreamMask0, .staged, .span 0 255, 0⟩,
   ⟨0x00, 0x00, Par.lkStreamMask1, .staged, .span 0 255, 0⟩,
   ⟨0x00, 0x00, Par.lkStreamMask2, .staged, .span 0 255, 0⟩,
   ⟨0x00, 0x00, Par.lkStreamMask3, .staged, .span 0 255, 0⟩,
   ⟨0x00, 0x00, Par.lkStreamMask4, .staged, .span 0 255, 0⟩,
   ⟨0x00, 0x00, Par.lkStreamMask5, .staged, .span 0 255, 0⟩,
   ⟨0x00, 0x00, Par.lkStreamMask6, .staged, .span 0 255, 0⟩,
   ⟨0x00, 0x00, Par.lkStreamMask7, .staged, .span 0 255, 0⟩,
   ⟨0x00, 0x00, Par.lkPinned, .ro, .ro, 0⟩,
   ⟨0x00, 0x00, Par.lkCached, .ro, .ro, 0⟩,
   ⟨0x00, 0x00, Par.lkFdbUsed, .ro, .ro, 0⟩,
   ⟨0x00, 0x00, Par.lkStreamUsed, .ro, .ro, 0⟩]

/-- Table BF-4. -/
def rowsBF4 : List PRow :=
  [⟨0x00, 0x00, Par.bfWdEn, .live, .span 0 1, 1⟩,
   ⟨0x00, 0x00, Par.bfWdTime, .live, .span 1 10000, 20⟩,
   ⟨0x00, 0x00, Par.bfWdRestore, .live, .span 10 60000, 100⟩,
   ⟨0x00, 0x00, Par.bfScrubPeriod, .live, .span 1 86400, 3600⟩,
   ⟨0x00, 0x00, Par.bfCapBase, .halted, .steps 0 0xFFFFF000 4096, 8388608⟩,
   ⟨0x00, 0x00, Par.bfCapRecords, .halted, .span 1024 4194304, 16384⟩,
   ⟨0x00, 0x00, Par.bfCapPolicy, .live, .span 0 1, 0⟩,
   ⟨0x00, 0x00, Par.bfCapMask, .live, .span 0 1023, 0⟩,
   ⟨0x00, 0x00, Par.bfCapRd, .live, .below 0x0006, 0⟩,
   ⟨0x00, 0x00, Par.bfPoolTotal, .ro, .ro, 0⟩,
   ⟨0x00, 0x00, Par.bfPoolShared, .ro, .ro, 0⟩,
   ⟨0x00, 0x00, Par.bfPoolFree, .ro, .ro, 0⟩,
   ⟨0x00, 0x00, Par.bfOrphans, .ro, .ro, 0⟩,
   ⟨0x00, 0x00, Par.bfDemoted, .ro, .ro, 0⟩,
   ⟨0x00, 0x00, Par.bfCapWr, .ro, .ro, 0⟩]

/-- Table BF-5. -/
def rowsBF5 : List PRow :=
  [⟨0x00, 0x07, Par.bpMinIn, .staged, .span 0 4096, 8⟩,
   ⟨0x00, 0x07, Par.bpAlphaIn, .staged, .span (-4) 4, 0⟩,
   ⟨0x00, 0x07, Par.bpHeadroom, .staged, .span 0 16383, 128⟩,
   ⟨0x00, 0x07, Par.bpPfcHyst, .staged, .span 1 1024, 16⟩,
   ⟨0x00, 0x07, Par.bpMinOut, .staged, .span 0 4096, 8⟩,
   ⟨0x00, 0x07, Par.bpAlphaOut, .staged, .span (-4) 4, 0⟩,
   ⟨0x00, 0x07, Par.bpWredProfile, .staged, .span 0 16, 16⟩,
   ⟨0x00, 0x07, Par.bpCreditAlloc, .staged, .span 0 16384, 512⟩,
   ⟨0x00, 0x07, Par.bpCableLen, .live, .span 0 10000, 100⟩,
   ⟨0x00, 0x07, Par.bpPartnerDelay, .live, .span 0 100000, 1000⟩,
   ⟨0x00, 0x07, Par.bpHeadroomReq, .ro, .ro, 0⟩,
   ⟨0x00, 0x07, Par.bpCreditReq, .ro, .ro, 0⟩]

/-- Table BF-6. -/
def rowsBF6 : List PRow :=
  [⟨0x10, 0x1F, Par.wrWeight, .staged, .span 0 15, 4⟩,
   ⟨0x10, 0x1F, Par.wrGMin, .staged, .span 0 262143, 1024⟩,
   ⟨0x10, 0x1F, Par.wrGMax, .staged, .span 1 262144, 4096⟩,
   ⟨0x10, 0x1F, Par.wrGPmax, .staged, .span 0 256, 26⟩,
   ⟨0x10, 0x1F, Par.wrYMin, .staged, .span 0 262143, 512⟩,
   ⟨0x10, 0x1F, Par.wrYMax, .staged, .span 1 262144, 2048⟩,
   ⟨0x10, 0x1F, Par.wrYPmax, .staged, .span 0 256, 64⟩,
   ⟨0x10, 0x1F, Par.wrRMin, .staged, .span 0 262143, 128⟩,
   ⟨0x10, 0x1F, Par.wrRMax, .staged, .span 1 262144, 512⟩,
   ⟨0x10, 0x1F, Par.wrRPmax, .staged, .span 0 256, 256⟩]

/-- Table SD-7. -/
def rowsSD7 : List PRow :=
  [⟨0x00, 0x00, Par.sdGatedMask, .staged, .span 0 255, 0⟩,
   ⟨0x00, 0x00, Par.sdDrrMask, .staged, .span 0 255, 0⟩,
   ⟨0x00, 0x00, Par.sdEscInterval, .live, .span 1 10000, 100⟩,
   ⟨0x00, 0x00, Par.sdGclState, .ro, .ro, 0⟩,
   ⟨0x00, 0x00, Par.sdGclEntry, .ro, .ro, 0⟩,
   ⟨0x00, 0x07, Par.sdQuantum, .staged, .span 64 65535, 2048⟩,
   ⟨0x00, 0x07, Par.sdCbsEn, .staged, .span 0 1, 0⟩,
   ⟨0x00, 0x07, Par.sdIdleSlope, .staged, .span 1 100000000, 1000000⟩,
   ⟨0x00, 0x07, Par.sdHiCredit, .staged, .span 0 2147483647, 2147483647⟩,
   ⟨0x00, 0x07, Par.sdEscDwell, .live, .spanOr 0 1 10000, 20⟩,
   ⟨0x00, 0x07, Par.sdPcPolicer, .staged, .spanOr 65535 0 1023, 65535⟩,
   ⟨0x00, 0x07, Par.sdCbsCredit, .ro, .ro, 0⟩]

/-- Table SD-8. -/
def rowsSD8 : List PRow :=
  [⟨0x00, 0x00, Par.scSlotsUsed, .ro, .ro, 0⟩,
   ⟨0x00, 0x00, Par.scListsRunning, .ro, .ro, 0⟩]

/-- Table PR-8. -/
def rowsPR8 : List PRow :=
  [⟨0x00, 0x00, Par.prPairMode, .halted, .span 0 1, 0⟩,
   ⟨0x00, 0x00, Par.prPairId, .halted, .span 1 255, 1⟩,
   ⟨0x00, 0x00, Par.prPrio, .halted, .span 1 127, 64⟩,
   ⟨0x00, 0x00, Par.prPairTrunk, .halted, .spanOr 255 0 63, 255⟩,
   ⟨0x00, 0x00, Par.prHbTimeout, .live, .span 10 10000, 100⟩,
   ⟨0x00, 0x00, Par.prActCheck, .live, .span 0 1, 1⟩,
   ⟨0x00, 0x00, Par.prHoldStandby, .live, .span 0 1, 0⟩,
   ⟨0x00, 0x00, Par.prSwitchWait, .live, .span 0 10000, 1000⟩,
   ⟨0x00, 0x00, Par.prRoleState, .ro, .ro, 0⟩,
   ⟨0x00, 0x00, Par.prEpoch, .ro, .ro, 0⟩,
   ⟨0x00, 0x00, Par.prClaim, .ro, .ro, 0⟩,
   ⟨0x00, 0x00, Par.prPartnerClaim, .ro, .ro, 0⟩,
   ⟨0x00, 0x00, Par.prPartnerDeviceId, .ro, .ro, 0⟩]

/-- Table EF-14. -/
def rowsEF14 : List PRow :=
  [⟨0x00, 0x00, Par.efMgmtMac, .live, .mac, 0⟩,
   ⟨0x00, 0x00, Par.efInbandPortsLo, .live, .span 0 0xFFFFFFFF, 0⟩,
   ⟨0x00, 0x00, Par.efInbandPortsHi, .live, .span 0 0xFFFFFFFF, 0⟩,
   ⟨0x00, 0x00, Par.efRemoteRate, .live, .span 100 10000, 2000⟩,
   ⟨0x00, 0x00, Par.efTunnelTimeout, .live, .span 1 10000, 50⟩,
   ⟨0x00, 0x00, Par.efSubLease, .live, .span 1 3600, 60⟩,
   ⟨0x00, 0x00, Par.efEvtMod, .live, .span 0 1000, 0⟩,
   ⟨0x00, 0x00, Par.efCmdDiscarded, .ro, .ro, 0⟩,
   ⟨0x00, 0x00, Par.efEvtLost, .ro, .ro, 0⟩,
   ⟨0x10, 0x17, Par.efKeyState, .ro, .ro, 0⟩,
   ⟨0x10, 0x17, Par.efReplayFloor, .ro, .ro, 0⟩]

/-- Table FT-3. -/
def rowsFT3 : List PRow :=
  [⟨0x00, 0x00, Par.efWdPeriod, .live, .span 10 1000, 100⟩]

/-- Table HL-7. -/
def rowsHL7 : List PRow :=
  [⟨0x00, 0x00, Par.hlGovCoreHeadroom, .live, .span 1000 20000, 8000⟩,
   ⟨0x00, 0x00, Par.hlGovTimeHeadroom, .live, .span 100 2000, 500⟩,
   ⟨0x00, 0x00, Par.hlGovRamp, .live, .span 100 10000, 1000⟩,
   ⟨0x00, 0x00, Par.hlGrantTimeout, .live, .span 1 10000, 100⟩,
   ⟨0x00, 0x00, Par.hlSliceBudget, .live, .span 20 10000, 200⟩,
   ⟨0x00, 0x00, Par.hlSliceGap, .live, .span 100 1000000, 1000⟩,
   ⟨0x00, 0x00, Par.hlRotEn, .live, .span 0 1, 1⟩,
   ⟨0x00, 0x00, Par.hlRotInterval, .live, .span 60 86400, 3600⟩,
   ⟨0x00, 0x00, Par.hlRotMask, .live, .span 0 255, 127⟩,
   ⟨0x00, 0x00, Par.hlAgeWarn, .live, .span 1000 40000, 32000⟩,
   ⟨0x00, 0x00, Par.hlTrendHorizon, .live, .span 1 3650, 90⟩,
   ⟨0x00, 0x00, Par.hlEccRetire, .live, .span 1 65535, 64⟩,
   ⟨0x00, 0x00, Par.hlPoh, .ro, .ro, 0⟩,
   ⟨0x00, 0x00, Par.hlTjAvg, .ro, .ro, 0⟩,
   ⟨0x00, 0x00, Par.hlAgeWorst, .ro, .ro, 0⟩,
   ⟨0x00, 0x00, Par.hlLogLost, .ro, .ro, 0⟩,
   ⟨0x00, 0x3F, Par.hlFomDays, .ro, .ro, 0⟩]

/-- Table CT-6. -/
def rowsCT6 : List PRow :=
  [⟨0x00, 0x00, Par.ctTraceEn, .live, .span 0 1, 0⟩,
   ⟨0x00, 0x00, Par.ctTagEn, .staged, .span 0 1, 0⟩,
   ⟨0x00, 0x00, Par.ctTagLog2, .staged, .span 0 24, 10⟩,
   ⟨0x00, 0x00, Par.ctTagSeed, .staged, .span 1 0xFFFFFFFF, 1⟩,
   ⟨0x00, 0x00, Par.ctTagPortsLo, .staged, .span 0 0xFFFFFFFF, 4294967295⟩,
   ⟨0x00, 0x00, Par.ctTagPortsHi, .staged, .span 0 0xFFFFFFFF, 4294967295⟩,
   ⟨0x00, 0x00, Par.ctTagChanEn, .staged, .span 0 1, 0⟩,
   ⟨0x00, 0x00, Par.ctTagChanLo, .staged, .span 0 65535, 0⟩,
   ⟨0x00, 0x00, Par.ctTagChanHi, .staged, .span 0 65535, 65535⟩,
   ⟨0x00, 0x00, Par.ctTraceBase, .halted, .steps 0 0xFFFFF000 4096, 33554432⟩,
   ⟨0x00, 0x00, Par.ctTraceRecords, .halted, .span 1024 4194304, 65536⟩,
   ⟨0x00, 0x00, Par.ctTracePolicy, .live, .span 0 1, 0⟩,
   ⟨0x00, 0x00, Par.ctTraceRd, .live, .below 0x000B, 0⟩,
   ⟨0x00, 0x00, Par.ctTraceWr, .ro, .ro, 0⟩,
   ⟨0x00, 0x00, Par.ctTraceLost, .ro, .ro, 0⟩,
   ⟨0x00, 0x00, Par.ctTagged, .ro, .ro, 0⟩]

/-- The rows of one block of Table AR-2. -/
def paramRows (b : Nat) : List PRow :=
  if 0x20 ≤ b ∧ b ≤ 0x5F then rowsDF22 ++ rowsEP6 ++ rowsGT12 ++ rowsSW9 ++ rowsBF5 ++ rowsSD7
  else if 0x10 ≤ b ∧ b ≤ 0x1F then rowsLN9 ++ rowsLN10
  else match b with
  | 0x00 => rowsEF14 ++ rowsFT3
  | 0x04 => rowsCK3 ++ rowsCK4 ++ rowsCK5
  | 0x05 => rowsRF5 ++ rowsRF7 ++ rowsRF8
  | 0x06 => rowsGT11
  | 0x07 => rowsSH9 ++ rowsSH10
  | 0x08 => rowsTC5 ++ rowsTC6
  | 0x09 => rowsPR8
  | 0x0B => rowsSW10
  | 0x0C => rowsBF4 ++ rowsBF6
  | 0x0D => rowsSD8
  | 0x0E => rowsCT6
  | 0x0F => rowsHL7
  | _ => []

/-- The 32-bit identifier of a parameter (R11): block, unit number, Number. -/
def pid (b i n : Nat) : Nat := b * 2 ^ 24 + i * 2 ^ 16 + n

/-- The candidates that exist (Table RF-1): REF_IN inputs and ports; identifiers 0x0C to 0x1F name none. -/
def candExists (c : Nat) : Bool := c ≤ 0x0B || (0x20 ≤ c && c ≤ 0x5F)

/-- The row an identifier names, if it names a parameter (R11, Table EF-2 BAD_PARAM_ID). -/
def findRow (id : Nat) : Option PRow :=
  let b := id / 2 ^ 24
  let i := id / 2 ^ 16 % 2 ^ 8
  let n := id % 2 ^ 16
  match (paramRows b).find? (fun r => r.num == n && r.iLo ≤ i && i ≤ r.iHi) with
  | none => none
  | some r => if b = 0x05 ∧ i < 0xF0 ∧ !candExists i then none else some r

end Sys2Proof.Machine
end

