-- ==== Sys2Proof/Machine/Sha.lean ====
section
/-! DEFINITION. HMAC-SHA-256 as R329 names it: RFC 2104 over FIPS 180-4, for the authentication trailer. -/

namespace Sys2Proof.Machine

/-- The numbers that divide evenly by nothing but one and themselves, the first 64 of them. -/
def shaPrimes : List Nat :=
  (List.range 312).filter (fun n => decide (2 ≤ n) && (List.range n).all (fun d => decide (d < 2) || n % d != 0))

/-- The largest number whose `k`-th power is at most `m`, sought from bit `n` - 1 down. -/
def rootBelow (k m : Nat) : Nat → Nat → Nat
  | 0, x => x
  | n + 1, x => rootBelow k m n (if (x + 2 ^ n) ^ k ≤ m then x + 2 ^ n else x)

/-- The first 32 bits of the fraction of the `k`-th root of `p`: the form in which FIPS 180-4 gives its constants. -/
def rootFraction (k p : Nat) : Nat := rootBelow k (p * 2 ^ (32 * k)) 37 0 % 2 ^ 32

/-- The 64 constants of the rounds: from the cube roots. -/
def shaK : List Nat := shaPrimes.map (rootFraction 3)

/-- The hash value to begin with: from the square roots of the first eight. -/
def shaInit : List Nat := (shaPrimes.take 8).map (rootFraction 2)

/-- A 32-bit word turned right by `n` bits. -/
def turnRight (x n : Nat) : Nat := x / 2 ^ n + x % 2 ^ n * 2 ^ (32 - n)

/-- A 32-bit word turned right by each of `ns`, the results added bit by bit. -/
def turns3 (ns : List Nat) (x : Nat) : Nat := (ns.map (turnRight x)).foldl (· ^^^ ·) 0

/-- Where a word of the mask `e` has a 1 the bit of `f`, else the bit of `g`. -/
def pick (e f g : Nat) : Nat := g ^^^ (e &&& (f ^^^ g))

/-- The schedule word after those of `w` (newest first). -/
def nextWord (w : List Nat) : Nat :=
  let at' := fun back => w.getD (back - 1) 0
  (at' 16 + at' 7 + (turns3 [7, 18] (at' 15) ^^^ at' 15 / 2 ^ 3) + (turns3 [17, 19] (at' 2) ^^^ at' 2 / 2 ^ 10)) % 2 ^ 32

/-- The schedule of one 64-byte block, newest word first: its sixteen words and 48 more. -/
def schedule (block : List Byte) : List Nat :=
  let given := (List.range 16).map (fun i => natBE ((block.drop (4 * i)).take 4))
  (List.range 48).foldl (fun w _ => nextWord w :: w) given.reverse

/-- One round: the working words, first to eighth, move on by one, with `x` the sum of a constant and a schedule word. -/
def shaRound (v : List Nat) (x : Nat) : List Nat :=
  let at' := fun i => v.getD i 0
  let fresh := at' 7 + turns3 [6, 11, 25] (at' 4) + pick (at' 4) (at' 5) (at' 6) + x
  let most := pick (at' 0 ^^^ at' 1) (at' 2) (at' 0)
  let first := (fresh + turns3 [2, 13, 22] (at' 0) + most) % 2 ^ 32
  first :: v.take 3 ++ ((at' 3 + fresh) % 2 ^ 32) :: (v.drop 4).take 3

/-- One block folded into the hash value. -/
def shaBlock (h : List Nat) (block : List Byte) : List Nat :=
  let sums := shaK.zipWith (· + ·) (schedule block).reverse
  h.zipWith (fun a b => (a + b) % 2 ^ 32) (sums.foldl shaRound h)

/-- The blocks of a padded message. -/
def shaBlocks : Nat → List Byte → List Nat → List Nat
  | 0, _, h => h
  | n + 1, l, h => shaBlocks n (l.drop 64) (shaBlock h (l.take 64))

/-- The padding of FIPS 180-4. -/
def shaPad (l : List Byte) : List Byte :=
  l ++ (0x80 : Byte) :: List.replicate ((119 - l.length % 64) % 64) 0 ++ bytesBE 8 (8 * l.length)

/-- SHA-256. -/
def sha256 (l : List Byte) : List Byte :=
  let p := shaPad l
  (shaBlocks (p.length / 64) p shaInit).flatMap (bytesBE 4)

/-- HMAC-SHA-256 with a 256-bit key (R329). -/
def hmacSha256 (key : Nat) (l : List Byte) : List Byte :=
  let k := bytesBE 32 key ++ List.replicate 32 0
  sha256 (k.map (· ^^^ 0x5c) ++ sha256 (k.map (· ^^^ 0x36) ++ l))

/-- The TAG of a trailer: the first 16 bytes of the output, as a number (R329). -/
def hmacTag (key : Nat) (l : List Byte) : Nat := natBE ((hmacSha256 key l).take 16)

end Sys2Proof.Machine
end

