-- ==== Sys2Proof/Machine/Tab.lean ====
section
/-! DEFINITION. Sparse tables: a list of key and value pairs with rising keys, read by the first entry of a key.
Used for everything of which the device holds many and a model run touches few (parameters, ports, slots). -/

namespace Sys2Proof.Machine

/-- A sparse table keyed by a number. -/
abbrev Tab (α : Type) := List (Nat × α)

/-- The value held at `k`, if any. -/
def Tab.find {α : Type} : Tab α → Nat → Option α
  | [], _ => none
  | (j, v) :: r, k => if j = k then some v else Tab.find r k

/-- The value held at `k`, or `d`. -/
def Tab.get {α : Type} (d : α) (m : Tab α) (k : Nat) : α := (m.find k).getD d

/-- Holds `v` at `k`, keeping keys rising. -/
def Tab.set {α : Type} : Tab α → Nat → α → Tab α
  | [], k, v => [(k, v)]
  | (j, u) :: r, k, v =>
    if j = k then (k, v) :: r
    else if k < j then (k, v) :: (j, u) :: r
    else (j, u) :: Tab.set r k v

/-- Holds nothing at `k`. -/
def Tab.del {α : Type} (m : Tab α) (k : Nat) : Tab α := m.filter (fun e => e.1 ≠ k)

/-- The lowest key from `lo` that is below `hi` and free. -/
def Tab.freeFrom {α : Type} (m : Tab α) (lo : Nat) : Nat → Option Nat
  | 0 => none
  | n + 1 => if (m.find lo).isNone then some lo else Tab.freeFrom m (lo + 1) n

/-- Keys strictly rising: the canonical form every operation keeps. -/
def Tab.rising {α : Type} : Tab α → Bool
  | [] => true
  | [_] => true
  | (j, _) :: (k, v) :: r => decide (j < k) && Tab.rising ((k, v) :: r)

end Sys2Proof.Machine
end

