-- ==== Sys2Proof/Machine/Types.lean ====
section
/-! DEFINITION. The pieces of state that every block shares: the window header, packets, what leaves the device, and
the state of the Keeper, the host interface and the start-up logic. -/

namespace Sys2Proof.Machine

/-- BLK_STATE STATE (Table RG-4). -/
inductive BlkState where
  | off
  | init
  | ready
  | run
  | isolated
  | fault
  | retired
  deriving DecidableEq, Repr

/-- The code of BLK_STATE STATE. -/
def BlkState.code : BlkState → Nat
  | .off => 0
  | .init => 1
  | .ready => 2
  | .run => 3
  | .isolated => 4
  | .fault => 5
  | .retired => 6

/-- One programmable counter (R407): 48-bit count, PCNT_SEL, PCNT_FILT. -/
structure Pcnt where
  count : Nat
  sel   : Nat
  filt  : Nat
  deriving DecidableEq, Repr

/-- The first-fault latch: FLT_FIRST and FLT_FIRST_TIME (R374). -/
structure FltLatch where
  index    : Nat
  reaction : Nat
  ns       : Nat
  deriving DecidableEq, Repr

/-- The standard window header of a block (Table RG-4), with the reaction level, the stop flag (R376) and the
reactions set by FAULT_REACT_SET (R380). -/
structure Hdr where
  state       : BlkState
  fltStatus   : Nat
  first       : Option FltLatch
  ovf         : Bool
  ovfCount    : Nat
  intStatus   : Nat
  intEnable   : Nat
  causeActive : Nat
  level       : Nat
  stopFlag    : Bool
  nmiTaken    : Bool
  react       : Tab Nat
  onSpare     : Bool
  pcnt        : Tab Pcnt
  pcntOvf     : Nat
  evtTimer    : Bool
  evtHeld     : Bool
  deriving DecidableEq, Repr

/-- The header at reset (Table RG-4). -/
def Hdr.reset : Hdr :=
  { state := .off, fltStatus := 0, first := none, ovf := false, ovfCount := 0, intStatus := 0,
    intEnable := 0xFFFFFFFF, causeActive := 0, level := 0, stopFlag := false, nmiTaken := false, react := [],
    onSpare := false, pcnt := [], pcntOvf := 0, evtTimer := false, evtHeld := false }

/-- KIND of a packet (Table EF-1). -/
inductive PktKind where
  | command
  | reply
  | event
  deriving DecidableEq, Repr

/-- A packet (Table EF-1, R317): `x` is NO_REPLY or REF, `hi` bytes 10 and 11, `auth` KEY_ID, REPLAY and TAG. -/
structure Packet where
  kind   : PktKind
  x      : Bool
  opcode : Nat
  seq    : Nat
  epoch  : Nat
  hi     : Nat
  body   : List Word
  auth   : Option (Nat × Nat × Nat)
  deriving DecidableEq, Repr

/-- Output pins whose changes of level are told as they happen; the levels of INT_N and PAIR_HB_ACT_OUT follow from the
state at every instant (`intNLow`, `actOut`). -/
inductive Pin where
  | isophase
  | nmiN
  | pulse (n : Nat)
  | clk (n : Nat)
  deriving DecidableEq, Repr

/-- What an edge port drives its line with outside frames (R30, R88): squelched, Remote Fault ordered sets, a Clause 37
base page with its Remote Fault bits, idle, or the frames of UP. -/
inductive LineSig where
  | squelched
  | remoteFault
  | basePage (fault : Nat)
  | idle
  | frames
  deriving DecidableEq, Repr

/-- What leaves the device by a command's effect, in `State.outbox` newest first. -/
inductive Out where
  | rplBuf (addr : Nat) (bytes : List Byte)
  | cplEntry (idx : Nat) (bytes : List Byte)
  | evtEntry (idx : Nat) (bytes : List Byte)
  | msix (v : Nat)
  | spiPkt (bytes : List Byte)
  | spiStatus (v : Nat)
  | inband (port mac vlan : Nat) (p : Packet)
  | regData (bytes : List Byte)
  | pin (p : Pin) (level : Bool)
  | release (p : Pin)
  | block (port : Nat) (bits : List Bool)
  | frame (port : Nat) (bytes : List Byte) (stomped : Bool)
  | frameAbort (port cause : Nat)
  | crossing (port : Nat) (bytes : List Byte)
  | pfc (port enable : Nat) (quanta : List Nat) (isPfc : Bool)
  | ptp (port kind seqId : Nat) (stamp : Nat) (valid : Bool) (correction : Int)
  | line (port : Nat) (sig : LineSig)
  | announce (port seqId clockClass : Nat) (utcOffset : Int) (flags : Nat)
  | esmc (port ssm : Nat) (event extended : Bool)
  | pairHb (bytes : List Byte)
  | storeRecord (ring idx : Nat) (words : List Word)
  deriving DecidableEq, Repr

/-- An accepted command packet that waits for its execution to start (Table EF-4 steps 1 to 10 passed). -/
structure Waiting where
  hdr    : CmdHdr
  opcode : Nat
  body   : List Word
  bytes  : List Byte
  deriving DecidableEq, Repr

/-- A command that returned ACCEPTED and is owed its completion event (R336); `tag` names what completes it. -/
structure Accepted where
  opcode : Nat
  hdr    : CmdHdr
  tag    : Nat
  deriving DecidableEq, Repr

/-- One key slot (R329): permission 0 empty, 1 read-only, 2 full, the key, and the counter of events sent under it
(R332).  Its replay floor lies in VDD_AON. -/
structure KeySlot where
  perm     : Nat
  key      : Nat
  evtCount : Nat
  deriving DecidableEq, Repr

/-- An empty key slot. -/
def KeySlot.empty : KeySlot := ⟨0, 0, 0⟩

/-- One subscription (R332): the destination is a port, address and VLAN, or a tunnel's return route. -/
structure Sub where
  keyId : Nat
  mask  : Nat
  dest  : Origin
  deriving DecidableEq, Repr

/-- One open tunnel handle at the origin (R328): its route, the packet sent, packets held in arrival order, and whether
a TUNNEL_DONE has been reported. -/
structure Handle where
  route : List Nat
  sent  : List Byte
  held  : List (List Byte)
  heard : Bool
  deriving DecidableEq, Repr

/-- The startup script in progress or done (R345): packets left, packets run, the first failure, whether an ACCEPTED
packet holds it, and since which tick a SCRIPT_WAIT waits. -/
structure ScriptRun where
  pkts     : List (List Byte)
  stopOnErr : Bool
  scriptId : Nat
  run      : Nat
  first    : Option (Nat × Nat)
  holding  : Bool
  ended    : Bool
  waitFrom : Option Nat
  deriving DecidableEq, Repr

/-- The pending COMMIT (R339, R340): 0 now, 1 rolling time, 2 angle; `armed` once C60 holds its target. -/
structure PendingCommit where
  hdr    : CmdHdr
  when_  : Nat
  dir    : Nat
  shaft  : Nat
  mask   : Nat
  target : Nat
  armed  : Bool
  deriving DecidableEq, Repr

/-- The Keeper: waiting and accepted commands, keys, subscriptions, tunnels, the script and the lockstep pairs. -/
structure Keep where
  cmdService   : Bool
  waiting      : List Waiting
  turn         : Nat
  accepted     : List Accepted
  bulk         : List Accepted
  commit       : Option PendingCommit
  cmdDiscarded : Nat
  evtLost      : Nat
  keys         : Tab KeySlot
  subs         : Tab Sub
  handles      : Tab Handle
  mgmtTx       : Tab (List (List Byte))
  evtSeq       : Tab Nat
  remoteTaken  : Nat
  untagged     : Tab Nat
  authRefused  : Nat
  script       : Option ScriptRun
  pair         : Nat
  spareReady   : Bool
  spareRetired : Bool
  wdExpired    : Bool
  sramCorr     : Nat
  testUnlocked : Bool
  deriving DecidableEq, Repr

/-- The Keeper at reset. -/
def Keep.reset : Keep :=
  { cmdService := false, waiting := [], turn := 0, accepted := [], bulk := [], commit := none, cmdDiscarded := 0,
    evtLost := 0, keys := [], subs := [], handles := [], mgmtTx := [], evtSeq := [], remoteTaken := 0,
    untagged := [], authRefused := 0, script := none, pair := 0, spareReady := false, spareRetired := false,
    wdExpired := false, sramCorr := 0, testUnlocked := false }

/-- A completion owed while the completion ring is full (R324). -/
structure OwedCpl where
  tag     : Nat
  seq     : Nat
  status  : Nat
  rplAddr : Nat
  rplSize : Nat
  reply   : List Byte
  deriving DecidableEq, Repr

/-- HOST: the PCIe link, rings (R359), MSI-X (R347, R356), the SPI port (R326), NMI and INT_N (R357, R358). -/
structure HostIf where
  pcieUp     : Bool
  gen        : Nat
  width      : Nat
  perstLow   : Bool
  training   : Bool
  spiServed  : Bool
  en         : Bool
  err        : Bool
  cmdLog2    : Nat
  cplLog2    : Nat
  evtLog2    : Nat
  cmdBase    : Nat
  cplBase    : Nat
  evtBase    : Nat
  doorbell   : Nat
  cmdHead    : Nat
  cplTail    : Nat
  cplHead    : Nat
  evtTail    : Nat
  evtHead    : Nat
  cplPhase   : Bool
  evtPhase   : Bool
  ringLost   : Bool
  fetched    : List (Nat × Nat)
  orphans    : List (Nat × Nat)
  owed       : List OwedCpl
  spiReplies : List Packet
  spiEvents  : List Packet
  spiErr     : Bool
  msixTable  : Tab Nat
  pba        : Nat
  intMask    : Tab Nat
  spiEvtEn   : Bool
  spiRplEn   : Bool
  nmi        : Option (Nat × Nat)
  nmiCount   : Nat
  latch      : Tab Nat
  deriving DecidableEq, Repr

/-- HOST at reset (Table RG-2 and the register tables after it). -/
def HostIf.reset : HostIf :=
  { pcieUp := false, gen := 0, width := 0, perstLow := false, training := false, spiServed := false, en := false,
    err := false, cmdLog2 := 4, cplLog2 := 4, evtLog2 := 4, cmdBase := 0, cplBase := 0, evtBase := 0, doorbell := 0,
    cmdHead := 0, cplTail := 0, cplHead := 0, evtTail := 0, evtHead := 0, cplPhase := true,
    evtPhase := true, ringLost := false, fetched := [], orphans := [], owed := [], spiReplies := [], spiEvents := [],
    spiErr := false, msixTable := [], pba := 0, intMask := [], spiEvtEn := false, spiRplEn := true, nmi := none,
    nmiCount := 0, latch := [] }

/-- Where the start-up stands (R363 to R372). -/
inductive Phase where
  | heldInReset
  | started
  | standbyLight
  deriving DecidableEq, Repr

/-- The start-up logic: straps latched, attempt, images, calibration copies, BOOT_OK (chapter 16). -/
structure Boot where
  phase    : Phase
  straps   : Straps
  bootOk   : Bool
  image    : Nat
  order    : List Nat
  aValid   : Bool
  bValid   : Bool
  cal0     : Bool
  cal1     : Bool
  calRead  : Bool
  serial   : Nat
  mac      : Nat
  fwVersion : Nat
  cause    : Nat
  attempts : Nat
  aonValid : Bool
  fallback : Bool
  flashOk  : Bool
  script   : Nat
  scriptId : Nat
  req      : List Nat
  llBase   : Nat
  llBytes  : Nat
  tKeep    : Nat
  tBootOk  : Nat
  supplyFall : Bool
  jtagHold : Bool
  resetDue : Bool
  deriving DecidableEq, Repr

/-- The start-up logic at reset. -/
def Boot.reset : Boot :=
  { phase := .heldInReset, straps := ⟨0, false, false, 0⟩, bootOk := false, image := 0, order := [], aValid := false,
    bValid := false, cal0 := false, cal1 := false, calRead := false, serial := 0, mac := 0, fwVersion := 0, cause := 0,
    attempts := 0, aonValid := false, fallback := false, flashOk := false, script := 0, scriptId := 0, req := [],
    llBase := 0, llBytes := 0x800000, tKeep := 0, tBootOk := 0, supplyFall := false, jtagHold := false, resetDue := false }

/-- What VDD_AON retains over a chip reset: the attempt counter, the last cause, KEEP_LAST_FAULT, the replay floors,
and the fields of the flash boot state region that the device alone reads (R330, R370, R377, Table BU-4). -/
structure Aon where
  attempts      : Nat
  cause         : Nat
  lastFault     : Option (Nat × Nat × Nat)
  floors        : Tab Nat
  flashAttempts : Nat
  flashCause    : Nat
  flashFloors   : Tab Nat
  preferred     : Nat
  deriving DecidableEq, Repr

/-- Retained state before anything was written. -/
def Aon.reset : Aon :=
  { attempts := 0, cause := 0, lastFault := none, floors := [], flashAttempts := 0, flashCause := 0,
    flashFloors := [], preferred := 0 }

/-- The ISOPHASE pin (R354, R381, R382): level, running, slow, period in µs, and the first stop cause. -/
structure Iso where
  level     : Bool
  running   : Bool
  started   : Bool
  slow      : Bool
  period    : Nat
  nextPeriod : Nat
  stopBlock : Nat
  stopIndex : Nat
  cause     : Nat
  deriving DecidableEq, Repr

/-- ISOPHASE at reset (ISO_CTRL, ISO_STATUS). -/
def Iso.reset : Iso :=
  { level := false, running := false, started := false, slow := false, period := 1000, nextPeriod := 1000,
    stopBlock := 0xFF, stopIndex := 0, cause := 3 }

/-- The time snapshot registers (R352). -/
structure TimeSnap where
  seq     : Nat
  gstate  : Nat
  invalid : Bool
  stepped : Bool
  sec     : Nat
  ns      : Nat
  frac    : Nat
  cycle   : Nat
  deriving DecidableEq, Repr

/-- The snapshot at reset. -/
def TimeSnap.reset : TimeSnap := ⟨0, 0, false, false, 0, 0, 0, 0⟩

end Sys2Proof.Machine
end

