-- ==== Sys2Proof/Machine/BufState.lean ====
section
/-! DEFINITION. State of BUF (chapter 11): accounts, banks, the watchdog, WRED and the header capture ring. -/

namespace Sys2Proof.Machine

/-- An ingress account in(p, c): cells in use by part, and how many of them were admitted while the class was demoted,
which count towards no pause (R266). -/
structure InAcct where
  reserved : Nat
  shared   : Nat
  head     : Nat
  credit   : Nat
  lossy    : Nat
  deriving DecidableEq, Repr

/-- An empty account. -/
def InAcct.empty : InAcct := ⟨0, 0, 0, 0, 0⟩
/-- acct.use. -/
def InAcct.use (a : InAcct) : Nat := a.reserved + a.shared + a.head + a.credit

/-- An egress queue out(q): frames in order with the cells of each, the WRED average with 8 fraction bits, whether its
watchdog timer runs, its DRR deficit, its dwell grant and shaper credit in bits with 16 fraction bits (R267, R264,
R285 to R287). -/
structure OutQ where
  frames  : List (Nat × Nat)
  avg     : Nat
  deficit : Int
  fresh   : Bool
  escDue  : Bool
  escAt   : Option Nat
  credit  : Int
  last    : Int
  deriving DecidableEq, Repr

/-- An empty queue. -/
def OutQ.empty : OutQ :=
  { frames := [], avg := 0, deficit := 0, fresh := true, escDue := false, escAt := none, credit := 0, last := 0 }

/-- BF counters of a port. -/
structure BufCnt where
  flush    : Tab Nat
  ingress  : Nat
  egress   : Nat
  wred     : Nat
  headroom : Nat
  nobuf    : Nat
  excess   : Nat
  deriving DecidableEq, Repr

/-- Counters at reset. -/
def BufCnt.reset : BufCnt := ⟨[], 0, 0, 0, 0, 0, 0⟩

/-- A record ring in Store (R272, R415): entries by index, write and read index, records lost, record number, and the
records of each pipeline not yet written, oldest first. -/
structure Ring where
  slots  : Tab (List Word)
  wr     : Nat
  rd     : Nat
  lost   : Nat
  lostBefore : Bool
  seq    : Nat
  queue  : Tab (List (List Word))
  deriving DecidableEq, Repr

/-- An empty ring. -/
def Ring.empty : Ring := { slots := [], wr := 0, rd := 0, lost := 0, lostBefore := false, seq := 0, queue := [] }

/-- Bank states (Table BF-8): 0 in service, 1 draining, 2 isolated, 3 spare, 4 retired. -/
abbrev BankState := Nat

/-- A frame that waits in an admission queue (R258): pipeline, frame, and the egress ports resolved for it. -/
structure AdmWait where
  pipe  : Nat
  frame : Nat
  outs  : List Nat
  deriving DecidableEq, Repr

/-- BUF.  Accounts are keyed by 8 × port + class.  `drain`: the bank draining; `drainFor` the spare that was brought in for it. -/
structure Buf where
  ins     : Tab InAcct
  outs    : Tab OutQ
  cnt     : Tab BufCnt
  orphans : Nat
  asserted : Tab Bool
  demoted : Nat
  adm     : List AdmWait
  banks   : Tab BankState
  drain   : Option Nat
  drainFor : Nat
  scrubWait : Bool
  skipped : Nat
  sparesLost : Nat
  lfsr    : Tab Nat
  cap     : Ring
  flushing : Tab (Nat × Nat)
  deriving DecidableEq, Repr

/-- BUF at reset. -/
def Buf.reset : Buf :=
  { ins := [], outs := [], cnt := [], orphans := 0, asserted := [], demoted := 0, adm := [], banks := [], drain := none,
    drainFor := 0, scrubWait := false, skipped := 0, sparesLost := 0, lfsr := [], cap := .empty, flushing := [] }

/-- TRACE: the tagging parameters in effect are the parameters; the LFSR of each pipeline, frames tagged, and the
trace ring (R412, R415). -/
structure Trace where
  lfsr   : Tab Nat
  tagged : Nat
  ring   : Ring
  deriving DecidableEq, Repr

/-- TRACE at reset. -/
def Trace.reset : Trace := { lfsr := [], tagged := 0, ring := .empty }

end Sys2Proof.Machine
end

