-- ==== Sys2Proof/Machine/ClkState.lean ====
section
/-! DEFINITION. State of clock synthesis (chapter 07): oscillators, PLLs, what feeds the core, the clock outputs and
the pulse outputs. -/

namespace Sys2Proof.Machine

/-- The settings of a clock output that a COMMIT changes (Table CK-4). -/
structure ClkSet where
  mode     : Nat
  source   : Nat
  div      : Nat
  period   : Nat
  width    : Nat
  align    : Nat
  deriving DecidableEq, Repr

/-- One clock output (R171 to R178): the settings in effect and those that wait for the falling edge of a FRAME output's
high phase, the drive, the pending count of R173 and the alignment line.  `anchor` is the input edge that the schedule was
aligned to and `move` what phase steps and alignments have added; `armed` and `edge` are the schedule's multiples of the
next rising edge loaded and of the last one fired.  A FRAME output rises no earlier than `floor`; a CLOCK output is low
until `resume` (R175, R176). -/
structure ClkOut where
  mode     : Nat
  source   : Nat
  div      : Nat
  period   : Nat
  width    : Nat
  align    : Nat
  pending  : Int
  line     : Nat
  gen      : Option Nat
  high     : Bool
  floor    : Int
  move     : Int
  lost     : Bool
  onSpare  : Bool
  stopped  : Bool
  held     : Option ClkSet
  drive    : Nat
  anchor   : Int
  armed    : Int
  edge     : Option Int
  resume   : Int
  deriving DecidableEq, Repr

/-- A clock output at reset (OUT_STATUS_n and Table CK-4). -/
def ClkOut.reset : ClkOut :=
  { mode := 0, source := 0, div := 64, period := 1000000000, width := 100000, align := 0, pending := 0, line := 0,
    gen := none, high := false, floor := 0, move := 0, lost := false, onSpare := false, stopped := true, held := none,
    drive := 0, anchor := 0, armed := 0, edge := none, resume := 0 }

/-- The settings of a pulse output in effect (Table CK-5). -/
structure PulseSet where
  mode     : Nat
  period   : Nat
  width    : Nat
  align    : Nat
  polarity : Bool
  deriving DecidableEq, Repr

/-- One pulse output (R179 to R181, R449): settings in effect, logical level, the rising edge that began a high
phase, the last falling edge, the earliest next rising edge, steps not yet taken into an edge, the queue of rising
targets with the sector slot each came from, those cancelled that the planner has not yet replanned (R180), and whether
the pin has been configured.  `anchor`, `armed` and `edge` as for a clock output. -/
structure PulseOut where
  set      : PulseSet
  held     : Option PulseSet
  high     : Bool
  rise     : Int
  fall     : Option Int
  floor    : Int
  move     : Int
  queue    : List (Int × Option Nat)
  configured : Bool
  pin      : Option Bool
  lost     : Bool
  stale    : List (Int × Option Nat)
  anchor   : Int
  armed    : Int
  edge     : Option Int
  deriving DecidableEq, Repr

/-- A pulse output at reset. -/
def PulseOut.reset : PulseOut :=
  { set := ⟨0, 1000000, 1000, 0, false⟩, held := none, high := false, rise := 0, fall := none, floor := 0, move := 0,
    queue := [], configured := false, pin := none, lost := false, stale := [], anchor := 0, armed := 0,
    edge := none }

/-- Oscillators and PLLs.  Numbers: oscillator 0 A, 1 B; time PLL 0 A, 1 B; core source 0 core PLL, 1 harbour clock,
2 oscillator.  `relockA`, `relockB`: a failed time PLL is in its 10 ms attempt (R162). -/
structure Clk where
  osc        : Nat
  oscOkA     : Bool
  oscOkB     : Bool
  oscDiff    : Int
  timeServing : Nat
  lockA      : Bool
  lockB      : Bool
  relockA    : Bool
  relockB    : Bool
  swapReq    : Bool
  coreSource : Nat
  coreLock   : Bool
  storeLock  : Bool
  pcieLock   : Bool
  auxLock0   : Bool
  auxLock1   : Bool
  csynStopped : Bool
  clamped    : Nat
  ssc        : Nat
  outs       : Tab ClkOut
  pulses     : Tab PulseOut
  dllBusy    : Nat
  dllRetired : Nat
  deriving DecidableEq, Repr

/-- Clocks at reset: nothing locked, the Keeper runs from the oscillator in service (Table BU-2). -/
def Clk.reset : Clk :=
  { osc := 0, oscOkA := true, oscOkB := true, oscDiff := 0, timeServing := 0, lockA := false, lockB := false,
    relockA := false, relockB := false, swapReq := false, coreSource := 2, coreLock := false, storeLock := false,
    pcieLock := false, auxLock0 := false, auxLock1 := false, csynStopped := false, clamped := 0, ssc := 0, outs := [],
    pulses := [], dllBusy := 0, dllRetired := 0 }

end Sys2Proof.Machine
end

