-- ==== Sys2Proof/Machine/CoreState.lean ====
section
/-! DEFINITION. State of CORE and LKP (chapter 10): lookup tables, the Light List and its cache, bookings, and the
frames inside the device. -/

namespace Sys2Proof.Machine

/-- One channel of the Light List (Table SW-4): its 32 words, the 13 further fraction bits of each bucket that the
cache keeps (R295), and whether its reset timer stands still, as after an expiry (R76). -/
structure Chan where
  words  : List Word
  tcFrac : Nat
  tpFrac : Nat
  idle   : Bool
  deriving DecidableEq, Repr

/-- A VLAN table entry that is VALID (Table SW-2). -/
structure VlanEntry where
  member : Nat
  untag  : Nat
  fid    : Nat
  learn  : Bool
  deriving DecidableEq, Repr

/-- A forwarding database entry (Table SW-2): its target is a port, or a group where `group`. -/
structure FdbEntry where
  fid    : Nat
  mac    : Nat
  group  : Bool
  target : Nat
  static_ : Bool
  age    : Nat
  deriving DecidableEq, Repr

/-- A stream identification entry (Table SW-3, R234, R235): method 0 to 3, the ingress port or 64 for any, the mask
profile of an IP entry, the key bytes after the method byte, the set and the units it takes. -/
structure StreamEntry where
  method : Nat
  inPort : Nat
  profile : Nat
  key    : List Byte
  set    : Nat
  units  : Nat
  channel : Nat
  deriving DecidableEq, Repr

/-- A booking of a reserved crossing (R248). -/
structure Booking where
  channel : Nat
  inPort  : Nat
  outPort : Nat
  entry   : Nat
  maxlen  : Nat
  deriving DecidableEq, Repr

/-- A TABLE_LOAD in progress (R237): its entries, and whether it has its grant. -/
structure Load where
  hdr     : CmdHdr
  table   : Nat
  entries : List (List Nat)
  written : Nat
  granted : Bool
  deriving DecidableEq, Repr

/-- The part of the pool a frame was admitted from (R257, R258). -/
inductive Part where
  | none_
  | reserved
  | shared
  | headroom
  | credit
  | orphan
  deriving DecidableEq, Repr

/-- A frame inside the device, from intake to its last copy: what arrived, what lookup and policing found, the part it
was admitted from and the cells it holds, `returned` those whose credit went back at admission (R265), `policed` the
bytes debited at the head, `limit` the largest frame of its port as its start found it (R81, R105), `desc` the descriptor it resolved to, the egress ports still owed a copy with the queue depth each met at enqueue, whether it still
waits on the way to its queues, and its tag and trace points. -/
structure Frame where
  inPort  : Nat
  bytes   : List Byte
  ended   : Bool
  bad     : Option Nat
  stomped : Bool
  start   : Option StartInfo
  stamp   : Nat
  stampOk : Bool
  cls     : Nat
  colour  : Nat
  channel : Option Nat
  desc    : Option Chan
  seq     : Option Nat
  vid     : Nat
  lossy   : Bool
  part    : Part
  cells   : Nat
  returned : Nat
  policed : Nat
  policer : Option Nat
  copies  : List (Nat × Nat)
  multi   : Bool
  limit   : Nat
  express : Option Nat
  waits   : Bool
  tagged  : Bool
  traced  : Bool
  harbour : Bool
  intake  : Nat
  lkpCyc  : Option Nat
  enqCyc  : Option Nat
  deriving DecidableEq, Repr

/-- FWD counters of a port. -/
structure FwdCnt where
  badIn    : Nat
  stompTx  : Nat
  abortTx  : Nat
  stompedRx : Nat
  missDrop : Nat
  unknown  : Nat
  express  : Nat
  late     : Nat
  vlanDrop : Nat
  linkLocal : Nat
  deriving DecidableEq, Repr

/-- Counters at reset. -/
def FwdCnt.reset : FwdCnt := ⟨0, 0, 0, 0, 0, 0, 0, 0, 0, 0⟩

/-- A frame that waits for its descriptor in a miss queue (R242), or behind such a frame, with the egress ports that
the VLAN table and forwarding database gave it. -/
structure MissWait where
  frame : Nat
  ch    : Nat
  mask  : Nat
  deriving DecidableEq, Repr

/-- CORE and LKP.  `cache` lists cached channels, the most recently used first; `stagedMods` the modifications staged
under R241; `open_` the frame being received on a port. -/
structure Core where
  vlan     : Tab VlanEntry
  fdb      : List FdbEntry
  streams  : List StreamEntry
  groups   : Tab Nat
  loads    : List Load
  chans    : Tab Chan
  cache    : List Nat
  stagedMods : Tab (Nat × List Word)
  bookings : Tab Booking
  frames   : Tab Frame
  next     : Nat
  open_    : Tab Nat
  missQ    : List MissWait
  hits     : Nat
  misses   : Nat
  fwd      : Tab FwdCnt
  flushes  : Tab Nat
  parts    : Tab (List (List Nat))
  banks    : Tab Nat
  deriving DecidableEq, Repr

/-- CORE and LKP at reset. -/
def Core.reset : Core :=
  { vlan := [], fdb := [], streams := [], groups := [], loads := [], chans := [], cache := [], stagedMods := [],
    bookings := [], frames := [], next := 0, open_ := [], missQ := [], hits := 0, misses := 0, fwd := [],
    flushes := [], parts := [], banks := [] }

end Sys2Proof.Machine
end

