-- ==== Sys2Proof/Machine/EdgeState.lean ====
section
/-! DEFINITION. State of an Ethernet edge port (chapter 04): link state, pause, PTP and ESMC. -/

namespace Sys2Proof.Machine

/-- Edge port link states (Table EP-4). -/
inductive EdgeLink where
  | down
  | locking
  | holdoff
  | up
  deriving DecidableEq, Repr

/-- The code of an edge link state (Table EP-4). -/
def EdgeLink.code : EdgeLink → Nat
  | .down => 0
  | .locking => 1
  | .holdoff => 2
  | .up => 3

/-- A two-step Sync that waits for its Follow_Up: its sequenceId, when it arrived and its correction. -/
structure SyncHeld where
  seq     : Nat
  arrived : Int
  corr    : Int
  deriving DecidableEq, Repr

/-- A two-step Pdelay_Resp that waits for its Pdelay_Resp_Follow_Up: also the requestReceiptTimestamp it carried. -/
structure PrespHeld where
  seq     : Nat
  receipt : Int
  arrived : Int
  corr    : Int
  deriving DecidableEq, Repr

/-- The PTP side of an edge port (R98, R99, R102, R132, R133): 1588 port state, the parent's clockClass, sequence
numbers by message kind, messages (kind and sequenceId) that wait for their egress stamp, residence times of Syncs held
for their Follow_Up by domain and sequenceId; what the engine holds of Syncs, delay and peer delay exchanges in
progress, with the newest difference from master to slave; and the members of the port data set that it measures. -/
structure PtpPort where
  state      : Nat
  parent     : Nat
  seq        : Tab Nat
  waiting    : List (Nat × Nat)
  held       : Tab Int
  sync       : Option SyncHeld
  msDiff     : Option Int
  dreq       : Option (Nat × Int)
  pdreq      : Option (Nat × Int)
  presp      : Option PrespHeld
  offset     : Int
  meanDelay  : Int
  received   : Nat
  deriving DecidableEq, Repr

/-- One edge port; `fecAt` holds the ticks of the uncorrectable codewords of the last second, `holdFrom` the tick at
which the hold-off began anew (R87), `line` what drives the line (R88). -/
structure Edge where
  link      : EdgeLink
  adaptDone : Bool
  anDone    : Bool
  rxFault   : Bool
  locFault  : Bool
  hiBer     : Bool
  anRestart : Bool
  holdFrom  : Nat
  line      : LineSig
  filter    : Bool
  flushed   : Bool
  paused    : Tab Nat
  gateMiss  : Nat
  asserted  : Nat
  due       : Nat
  ptp       : PtpPort
  qlCand    : Option Nat
  qlRx      : Nat
  qlSent    : Nat
  errFcs    : Nat
  errLen    : Nat
  fecCorr   : Nat
  fecUncorr : Nat
  fecAt     : List Nat
  pfcRx     : Nat
  pfcTx     : Nat
  pfcGateMiss : Nat
  ptpDrop   : Nat
  deriving DecidableEq, Repr

/-- The PTP side at reset. -/
def PtpPort.reset : PtpPort :=
  { state := 0, parent := 255, seq := [], waiting := [], held := [], sync := none,
    msDiff := none, dreq := none, pdreq := none, presp := none, offset := 0, meanDelay := 0, received := 0 }

/-- An edge port at reset (EP_STATUS and the counters after it). -/
def Edge.reset : Edge :=
  { link := .down, adaptDone := false, anDone := false, rxFault := false, locFault := false,
    hiBer := false, anRestart := false, holdFrom := 0, line := .squelched, filter := false, flushed := true, paused := [], gateMiss := 0,
    asserted := 0, due := 0, ptp := .reset, qlCand := none, qlRx := 0xFF, qlSent := 0, errFcs := 0, errLen := 0,
    fecCorr := 0, fecUncorr := 0, fecAt := [], pfcRx := 0, pfcTx := 0, pfcGateMiss := 0, ptpDrop := 0 }

end Sys2Proof.Machine
end

