-- ==== Sys2Proof/Machine/GuhState.lean ====
section
/-! DEFINITION. State of the Guhild timebase (chapter 05): the state machine of Table GT-6, samples and steps, the 64
comparators, and a pending TIME_ADJUST. -/

namespace Sys2Proof.Machine

/-- Guhild states (Table GT-6). -/
inductive GState where
  | free
  | acquiring
  | locked
  | holdover
  | refused
  deriving DecidableEq, Repr

/-- The code of a Guhild state (Table GT-6). -/
def GState.code : GState → Nat
  | .free => 0
  | .acquiring => 1
  | .locked => 2
  | .holdover => 3
  | .refused => 4

/-- An armed comparator target: the rolling time given, and the instant it stands for on the unwrapped counter in
2^-16 ns, so that a step never makes it alias (R129); `late` under R127; `fires` is the instant at which it fires, later
than `due` for a late target. -/
structure Armed where
  target : Nat
  due    : Int
  late   : Bool
  fires  : Int
  deriving DecidableEq, Repr

/-- A TIME_ADJUST waiting for its rolling time on C61 (R124). -/
structure PendAdjust where
  hdr    : CmdHdr
  d      : Int
  target : Nat
  deriving DecidableEq, Repr

/-- Guhild. `holdHour` and `sinceLock` say that an hour has passed in HOLDOVER and since the last time in LOCKED, and
`fromRefused` that HOLDOVER was entered from REFUSED and goes on counting from there (Table GT-6); `syncs` are the instants
at which the ports in MASTER next send Sync, the targets of C62; `fires` are the comparators that a step made fire
(R129), carried out with the command that took it. `stepSum` is the sum of the steps taken; `cancelled` and `timeSet` tell the planner, the gate lists and the
launch engine that armed targets were cancelled and that TIME_SET did it. `resetCount` says that the counter starts at 0 when GUH_RUN next sets (R107). -/
structure Guh where
  state      : GState
  protect    : Bool
  counting   : Bool
  resetCount : Bool
  refId      : Nat
  refTime    : Bool
  freqOnly   : Bool
  held       : Option Int
  switching  : Bool
  refusedDiff : Int
  refusedIn  : Bool
  phaseErr   : Int
  stepLast   : Int
  stepCount  : Nat
  steppedNow : Bool
  cmps       : Tab Armed
  lastFire   : Tab Int
  cmpStepped : Nat
  lockRun    : Bool
  unlockRun  : Bool
  holdHour   : Bool
  sinceLock  : Bool
  fromRefused : Bool
  leftLocked : Nat
  syncs      : Tab Int
  fires      : List Nat
  timescale  : Nat
  dpllIn     : Int
  adjust     : Option PendAdjust
  leapAdj    : Int
  stepSum    : Int
  cancelled  : Bool
  timeSet    : Bool
  refQl      : Nat
  mooringOk  : Bool
  deriving DecidableEq, Repr

/-- Guhild at reset (GUH_STATUS and the registers after it). -/
def Guh.reset : Guh :=
  { state := .free, protect := false, counting := false, resetCount := true, refId := 0xFF, refTime := false,
    freqOnly := false, held := none, switching := false, refusedDiff := 0, refusedIn := false, phaseErr := 0,
    stepLast := 0, stepCount := 0, steppedNow := false, cmps := [], lastFire := [], cmpStepped := 0,
    lockRun := false, unlockRun := false, holdHour := false, sinceLock := false, fromRefused := false, leftLocked := 0,
    syncs := [], fires := [], timescale := 0, dpllIn := 0,
    adjust := none, leapAdj := 0, stepSum := 0,
    cancelled := false, timeSet := false, refQl := 0xFF, mooringOk := false }

end Sys2Proof.Machine
end

