-- ==== Sys2Proof/Machine/HlthState.lean ====
section
/-! DEFINITION. State of HLTH (chapter 18): the power governor, self-tests, rotation, wear and the service record. -/

namespace Sys2Proof.Machine

/-- What a governor request is for (Table HL-1), with the unit it concerns. -/
inductive GovKind where
  | plannerBurst
  | laneAdapt (l : Nat)
  | spareTrain (l : Nat)
  | timePllSwap
  | lineSwap (o : Nat)
  | interpSwap (u : Nat)
  | tableLoad
  | tableCopy (u : Nat)
  | bankScrub
  | bistSlice (b : Nat)
  deriving DecidableEq, Repr

/-- A request or grant (R390): steps in mA, whether each step still stands in its supply's sum, whether the operation
has ended so that its ramp-outs run, and whether GRANT_STARVED has been raised for it. -/
structure GovReq where
  id      : Nat
  kind    : GovKind
  prio    : Nat
  block   : Nat
  core    : Nat
  time    : Nat
  coreIn  : Bool
  timeIn  : Bool
  ending  : Bool
  starved : Bool
  deriving DecidableEq, Repr

/-- The last grant or release on a supply: the time tick and its step (R390). -/
structure GovPace where
  tick : Nat
  step : Nat
  deriving DecidableEq, Repr

/-- The governor (R390 to R392). -/
structure Gov where
  next    : Nat
  queue   : List GovReq
  grants  : List GovReq
  starves : Nat
  core    : Option GovPace
  time    : Option GovPace
  deriving DecidableEq, Repr

/-- A self-test in progress (R396): slices done and planned, whether rotation began it, and whether one is owed its
BIST_DONE after a failed slice (with the detail word); the edges that a code-density test has latched, by tap code
(R200). -/
structure Bist where
  unit   : Nat
  done   : Nat
  total  : Nat
  rot    : Bool
  inSlice : Bool
  failed : Option Nat
  hits   : Tab Nat
  deriving DecidableEq, Repr

/-- The lasting state of the service record (R404): what the summary holds.  Units are keyed by block × 65536 + unit;
the histogram counts minutes. -/
structure Life where
  poh        : Nat
  cycles     : Nat
  chipResets : Nat
  bootOks    : Nat
  tjHist     : Tab Nat
  tjSum      : Int
  tjCount    : Nat
  ageWorst   : Nat
  ageSite    : Nat
  retired    : Tab Bool
  logLost    : Nat
  logNext    : Nat
  logSeq     : Nat
  trendNext  : Nat
  deriving DecidableEq, Repr

/-- A new device's service record. -/
def Life.reset : Life :=
  { poh := 0, cycles := 0, chipResets := 0, bootOks := 0, tjHist := [], tjSum := 0, tjCount := 0, ageWorst := 0,
    ageSite := 0, retired := [], logLost := 0, logNext := 0, logSeq := 0, trendNext := 0 }

/-- HLTH.  `saved` is the lasting state as the newer valid half of the summary in flash holds it; `passed` holds the
result of a unit's last completed test, `overlays` the code-density hits of an interpolator with an overlay, by tap code (R200, R405), `fomMeans` the daily means and minima of a slice (2 × lane + slice), newest first. -/
structure Hlth where
  gov       : Gov
  bist      : Tab Bist
  passed    : Tab Bool
  rot       : Option (Nat × Nat)
  rotAt     : Nat
  rotFirst  : List Nat
  life      : Life
  saved     : Life
  ageWarned : List Nat
  fomDays   : Tab Nat
  fomTold   : List Nat
  fomMeans  : Tab (List (Nat × Nat))
  eccDay    : Tab Nat
  widest    : Tab (Nat × Nat)
  overlays  : Tab (List Nat)
  logWait   : List (List Byte)
  sumSeq    : Nat
  sumDue    : Bool
  flashBad  : Bool
  recordOk  : Bool
  testBlock : Nat
  testUnit  : Nat
  testSlice : Nat
  testSlices : Nat
  deriving DecidableEq, Repr

/-- The governor at reset. -/
def Gov.reset : Gov := ⟨0, [], [], 0, none, none⟩

/-- HLTH at reset (HLTH_STATUS and the registers after it). -/
def Hlth.reset : Hlth :=
  { gov := .reset, bist := [], passed := [], rot := none, rotAt := 0, rotFirst := [], life := .reset, saved := .reset,
    ageWarned := [], fomDays := [], fomTold := [], fomMeans := [], eccDay := [], widest := [], overlays := [],
    logWait := [], sumSeq := 0, sumDue := false, flashBad := false, recordOk := false, testBlock := 0xFF,
    testUnit := 0, testSlice := 0, testSlices := 0 }

end Sys2Proof.Machine
end

