-- ==== Sys2Proof/Machine/LaneState.lean ====
section
/-! DEFINITION. State of quads and lanes (chapter 02): what QUAD_STATUS, LANE_STATUS and the latency registers show,
and what the rules of adaptation, failover and the spare slice remember. -/

namespace Sys2Proof.Machine

/-- Spare slice states (Table LN-6). -/
inductive SpareState where
  | idle
  | waitGrant
  | training
  | comparing
  | armed
  | swapped
  | aborted
  deriving DecidableEq, Repr

/-- The code of a spare slice state (Table LN-6). -/
def SpareState.code : SpareState → Nat
  | .idle => 0
  | .waitGrant => 1
  | .training => 2
  | .comparing => 3
  | .armed => 4
  | .swapped => 5
  | .aborted => 6

/-- Where an initial adaptation stands (R32, R391): none, its request held because the queue was full, waiting for
the grant, or running. -/
inductive AdaptState where
  | none
  | held
  | waitGrant
  | running
  deriving DecidableEq, Repr

/-- One lane.  `dfe` are the DFE taps of the active slice, `dfeStored` those an initial adaptation stored, `peakGiven`
CTLE_PEAK where the adaptation in progress began with CTLE_MODE = FIXED (R41); `spareCtle`, `spareDfe` and `sparePeak`
the same of the spare slice. -/
structure Lane where
  mode      : Nat
  pll       : Nat
  slice     : Nat
  spare     : SpareState
  retired   : Option Nat
  latValid  : Bool
  latCal    : Bool
  adapt     : AdaptState
  adaptCmd  : Bool
  bgAdapt   : Bool
  cdrLock   : Bool
  sigDet    : Bool
  wordLock  : Bool
  squelched : Bool
  txSpare   : Nat
  fom       : Nat
  fomLow    : Nat
  ctle      : Nat
  dfe       : List Int
  dfeStored : List Int
  peakGiven : Option Nat
  spareCtle : Nat
  spareDfe  : List Int
  sparePeak : Option Nat
  txLat     : Nat
  rxLat     : Nat
  txSeq     : Nat
  rxSeq     : Nat
  txMeas    : LatMeas
  rxMeas    : LatMeas
  deriving DecidableEq, Repr

/-- A lane at reset: every LANE_STATUS field 0. -/
def Lane.reset : Lane :=
  { mode := 0, pll := 0, slice := 0, spare := .idle, retired := none, latValid := false, latCal := false,
    adapt := .none, adaptCmd := false, bgAdapt := false, cdrLock := false, sigDet := false, wordLock := false,
    squelched := true, txSpare := 0, fom := 0, fomLow := 0, ctle := 8, dfe := List.replicate 12 0,
    dfeStored := List.replicate 12 0, peakGiven := none, spareCtle := 8, spareDfe := List.replicate 12 0,
    sparePeak := none, txLat := 0, rxLat := 0, txSeq := 0,
    rxSeq := 0, txMeas := ⟨0, 0⟩, rxMeas := ⟨0, 0⟩ }

/-- One quad. -/
structure Quad where
  planA     : Nat
  planB     : Nat
  paired    : Bool
  lockA     : Bool
  lockB     : Bool
  serving   : Nat
  failovers : Nat
  failBusy  : Bool
  filterOff : Bool
  temp      : Int
  ready     : Bool
  deriving DecidableEq, Repr

/-- A quad at reset: every QUAD_STATUS field 0. -/
def Quad.reset : Quad :=
  { planA := 0, planB := 0, paired := false, lockA := false, lockB := false, serving := 0, failovers := 0,
    failBusy := false, filterOff := false, temp := 0, ready := false }

end Sys2Proof.Machine
end

