-- ==== Sys2Proof/Machine/PairState.lean ====
section
/-! DEFINITION. State of PAIR (chapter 13): role, epoch, FATAL, the grant and its interlock, what each heartbeat path
last carried, and a switchover or takeover in progress. -/

namespace Sys2Proof.Machine

/-- Pair states (Table PR-2). -/
inductive PairRole where
  | unpaired
  | listening
  | standby
  | active
  | failed
  deriving DecidableEq, Repr

/-- The code of a pair state (Table PR-2). -/
def PairRole.code : PairRole → Nat
  | .unpaired => 0
  | .listening => 1
  | .standby => 2
  | .active => 3
  | .failed => 4

/-- What a heartbeat path last carried, and when (in time ticks); `silent` under R302. -/
structure HbPath where
  silent : Bool
  claim  : Nat
  epoch  : Nat
  role   : Nat
  fatal  : Bool
  paired : Bool
  at_    : Option Nat
  wrongId : Bool
  deriving DecidableEq, Repr

/-- A path that has carried nothing. -/
def HbPath.none : HbPath := ⟨true, 0, 0, 0, false, true, Option.none, false⟩

/-- A path as PAIR starts: nothing heard yet, and HB_TIMEOUT not passed (R302). -/
def HbPath.fresh : HbPath := { HbPath.none with silent := false }

/-- A commanded switchover in progress (Table PR-5): outputs not yet released, and whether the unit has demoted. -/
structure Switchover where
  hdr     : CmdHdr
  outs    : List Nat
  demoted : Bool
  deriving DecidableEq, Repr

/-- PAIR.  `state` is none while PAIR is stopped (R305); `claims` are the highest claims heard per PAIR_ID and `lastActive`
the last ones among them with ACTIVE = 1 (R313). -/
structure Pair where
  started  : Bool
  state    : Option PairRole
  epoch    : Nat
  fatal    : Bool
  fatalCsyn : Bool
  grant    : Bool
  testing  : Bool
  conflict : Bool
  actIn    : Bool
  hb       : HbPath
  trunk    : HbPath
  hbBits   : Nat
  hbDevice : Nat
  hbCount  : Nat
  hbDirty  : Bool
  lastId   : Nat
  switching : Option Switchover
  takeover : Option Nat
  claims   : Tab Nat
  lastActive : Tab Nat
  deriving DecidableEq, Repr

/-- PAIR at reset. -/
def Pair.reset : Pair :=
  { started := false, state := none, epoch := 0, fatal := false, fatalCsyn := false, grant := false,
    testing := false, conflict := false, actIn := false, hb := .none, trunk := .none, hbBits := 0, hbDevice := 0,
    hbCount := 0, hbDirty := false, lastId := 0, switching := none, takeover := none, claims := [], lastActive := [] }

end Sys2Proof.Machine
end

