-- ==== Sys2Proof/Machine/RefState.lean ====
section
/-! DEFINITION. State of REFS (chapter 06): candidates, selectors, disputes and the mooring record. -/

namespace Sys2Proof.Machine

/-- Candidate states (Table RF-4). -/
inductive CandState where
  | off
  | qualifying
  | qualified
  | warned
  | disqualified
  | wtr
  deriving DecidableEq, Repr

/-- The code of a candidate state (Table RF-4). -/
def CandState.code : CandState → Nat
  | .off => 0
  | .qualifying => 1
  | .qualified => 2
  | .warned => 3
  | .disqualified => 4
  | .wtr => 5

/-- One candidate (R139 to R144): `kind` is the kind under which it is present; `clock` counts its refits in quarters of
a millisecond, `wtrFrom` where its wait-to-restore began, `refits` those since it became present; `pend` holds the cause
of a pending disqualification and for a dispute the referee and the selector; `series` is the phase series of a trunk or
a PTP port, newest first, as local time and far minus local time with Guhild steps removed, from `since` on; `tol` is the
PHASE_TOL of the last refit; `edge` is the last counted edge (unwrapped, 2^-16 ns) and `near` how many in a row followed within the
loss interval. -/
structure Cand where
  state   : CandState
  cause   : Nat
  pend    : Option (Nat × Nat × Nat)
  present : Bool
  kind    : Nat
  freq    : Int
  phase   : Int
  badPhase : Nat
  tol     : Int
  series  : List (Int × Int)
  since   : Int
  clock   : Nat
  wtrFrom : Nat
  refits  : Nat
  edge    : Option Int
  near    : Nat
  deriving DecidableEq, Repr

/-- A candidate at reset. -/
def Cand.reset : Cand :=
  { state := .off, cause := 0, pend := none, present := false, kind := 0, freq := 0, phase := 0, badPhase := 0, tol := 65536000,
    series := [], since := 0, clock := 0, wtrFrom := 0, refits := 0, edge := none, near := 0 }

/-- A DPLL (R149, R156, R170): its output at time tick `since`, moving from there towards `goal` at no more than
SLEW_LIMIT; its integrator and its proportional path; and where its output has been, newest first, as ticks and values
between which it moved evenly. -/
structure Dpll where
  out   : Int
  since : Nat
  goal  : Int
  int   : Int
  prop  : Int
  trail : List (Nat × Int)
  deriving DecidableEq, Repr

/-- A DPLL at reset. -/
def Dpll.reset : Dpll := { out := 0, since := 0, goal := 0, int := 0, prop := 0, trail := [] }

/-- A dispute test of a selector against another candidate (R151 to R154): the quarters of a millisecond for which the difference
has been beyond the threshold, those since it came back within it, whether DISPUTED, and whether DISPUTE_UNRESOLVED
was raised. -/
structure Dispute where
  beyond   : Nat
  within   : Option Nat
  disputed : Bool
  told     : Bool
  deriving DecidableEq, Repr

/-- One selector: the candidate in use, the force, whether its DPLL holds frequency, whether acquisition has ended
for a frequency reference, its DPLL, the newest eleven of its outputs at whole seconds (R157), and its dispute tests by
the other candidate. -/
structure Selector where
  sel     : Nat
  force   : Option Nat
  hold    : Bool
  acquired : Bool
  dpll    : Dpll
  hist    : List Int
  lost    : Bool
  disputes : Tab Dispute
  deriving DecidableEq, Repr

/-- A selector at reset. -/
def Selector.reset : Selector :=
  { sel := 0xFF, force := none, hold := false, acquired := false, dpll := Dpll.reset, hist := [], lost := false, disputes := [] }

/-- REFS.  `secs` and `hours` are the mooring record, newest first, with none where nothing was recorded;
in holdover, `holdFreq` is the value at the loss, `holdMoor` whether the record gave it, and `driftN` / `driftD` the drift of the hourly averages per hour. -/
structure Refs where
  cands    : Tab Cand
  sels     : Tab Selector
  ppsExtra : Nat
  secs     : List (Option Int)
  hours    : List (Option Int)
  hourSum  : Int
  hourN    : Nat
  hourSec  : Nat
  recorded : Nat
  valid    : Bool
  holdFreq : Int
  holdMoor : Bool
  elapsed  : Nat
  driftN   : Int
  driftD   : Nat
  dispA    : Nat
  dispB    : Nat
  dispRef  : Nat
  dispSel  : Nat
  deriving DecidableEq, Repr

/-- REFS at reset. -/
def Refs.reset : Refs :=
  { cands := [], sels := [], ppsExtra := 0, secs := [], hours := [], hourSum := 0, hourN := 0, hourSec := 0,
    recorded := 0, valid := false, holdFreq := 0, holdMoor := false, elapsed := 0, driftN := 0, driftD := 1, dispA := 0xFF, dispB := 0xFF, dispRef := 0xFF,
    dispSel := 0 }

end Sys2Proof.Machine
end

