-- ==== Sys2Proof/Machine/SchedState.lean ====
section
/-! DEFINITION. State of SCHED (chapter 12): gate control lists, transmitters, resident slots and port-class policers. -/

namespace Sys2Proof.Machine

/-- A gate control list (Table SD-2): entries are the words of Table SD-3. -/
structure Gcl where
  ref     : Nat
  shaft   : Nat
  base    : Int
  cycle   : Nat
  entries : List Nat
  deriving DecidableEq, Repr

/-- A staged list: the entries received so far out of `count` (R276, R346). -/
structure StagedGcl where
  gcl   : Gcl
  count : Nat
  deriving DecidableEq, Repr

/-- What a transmitter is sending: a queued or crossing frame of queue `q`, cut through or stored, with the core
cycle of the grant, or a resident slot's frame; `lim` is the largest frame that its port sent as it started (R81, R105). -/
inductive Sending where
  | queued (frame q : Nat) (cut : Bool) (deq lim : Nat)
  | crossing (frame lim : Nat)
  | slot (slot : Nat) (bytes : List Byte) (ch : Option Nat)
  deriving DecidableEq, Repr

/-- The scheduler of one port: the list in force, GCL_STATE, the entry in force and the unwrapped start of its cycle in
2^-16 ns (angle lists: the cycle number), gate states given by sector GATE events over the list, the transmitter, the
DRR turn, and counters. -/
structure PortSched where
  gcl     : Option Gcl
  state   : Nat
  entry   : Nat
  cycle   : Int
  gates   : Nat
  overrideMask : Nat
  overrideGates : Nat
  next    : Option Int
  closes  : Tab (List Int)
  tx      : Option Sending
  ptr     : Nat
  overrun : Nat
  late    : Nat
  escs    : Nat
  launchLate : Nat
  launchMissed : Nat
  fitWait : Nat
  deriving DecidableEq, Repr

/-- A port's scheduler at reset: every gate open (SD_STATUS). -/
def PortSched.reset : PortSched :=
  { gcl := none, state := 0, entry := 0, cycle := 0, gates := 0xFF, overrideMask := 0, overrideGates := 0, next := none,
    closes := [], tx := none, ptr := 0, overrun := 0, late := 0, escs := 0, launchLate := 0, launchMissed := 0,
    fitWait := 0 }

/-- A resident slot (R288 to R294): its fields, the frame held, the sequence number that came with it, whether the frame is fresh since the last launch and
when its last byte arrived, the next launch, LAST_LAUNCH, frames replaced, a frame written less than 1 µs before a
launch, the hold-repeat deadline, its commit, and whether HR_COUNT has reached its limit since the last fresh frame. -/
structure Slot where
  args     : SlotArgs
  frame    : List Byte
  seq      : Option Nat
  fresh    : Bool
  arrived  : Int
  next     : Option Int
  lastLaunch : Nat
  replaced : Nat
  waiting  : Option (List Byte)
  deadline : Option Int
  committed : Bool
  exhausted : Bool
  deriving DecidableEq, Repr

/-- The fields of a slot at reset (Table SD-5). -/
def SlotArgs.reset (n : Nat) : SlotArgs :=
  { slot := n, mode := 0, feed := 0, port := 0, cls := 0, chanValid := false, channel := 0, time := 0,
    period := 250000 * 65536, lateLimit := 10000 * 65536, hrGrace := 5000 * 65536 }

/-- A slot at reset. -/
def Slot.reset (n : Nat) : Slot :=
  { args := SlotArgs.reset n, frame := [], seq := none, fresh := false, arrived := 0, next := none, lastLaunch := 0, replaced := 0,
    waiting := none, deadline := none, committed := false, exhausted := false }

/-- A port-class policer (R297): buckets in 2^-13 bytes. -/
structure Policer where
  cir    : Nat
  pir    : Nat
  cbs    : Nat
  pbs    : Nat
  aware  : Bool
  tc     : Int
  tp     : Int
  time   : Nat
  yellow : Nat
  red    : Nat
  deriving DecidableEq, Repr

/-- A policer before POLICER_SET. -/
def Policer.reset : Policer :=
  { cir := 0, pir := 0, cbs := 0, pbs := 0, aware := false, tc := 0, tp := 0, time := 0, yellow := 0, red := 0 }

/-- SCHED. -/
structure Sched where
  ports    : Tab PortSched
  staged   : Tab StagedGcl
  slots    : Tab Slot
  policers : Tab Policer
  deriving DecidableEq, Repr

/-- SCHED at reset. -/
def Sched.reset : Sched := { ports := [], staged := [], slots := [], policers := [] }

end Sys2Proof.Machine
end

