-- ==== Sys2Proof/Machine/ShaftState.lean ====
section
/-! DEFINITION. State of SHAFT (chapter 09): shafts and their segment queues, gearing, sector event slots, the planner's
time queue and capture records. -/

namespace Sys2Proof.Machine

/-- Shaft states (Table SH-3). -/
inductive ShaftState where
  | off
  | waiting
  | running
  | late
  | coasting
  | held
  deriving DecidableEq, Repr

/-- The code of a shaft state (Table SH-3). -/
def ShaftState.code : ShaftState → Nat
  | .off => 0
  | .waiting => 1
  | .running => 2
  | .late => 3
  | .coasting => 4
  | .held => 5

/-- A segment (Table SH-1, Table SH-2): t0 on the unwrapped counter in 2^-16 ns, coefficients in their own units,
flags and the originator's claim. -/
structure Seg where
  t0    : Int
  theta : Int
  omega : Int
  alpha : Int
  jerk  : Int
  flags : Nat
  claim : Nat
  deriving DecidableEq, Repr

/-- The gearing of a derived shaft (R210). -/
structure Gear where
  src    : Nat
  num    : Int
  den    : Nat
  offset : Int
  deriving DecidableEq, Repr

/-- What gives a shaft its angle over a stretch of time: a segment of its own, or the gearing from another shaft. -/
inductive Course where
  | own (g : Seg)
  | geared (g : Gear)
  deriving DecidableEq, Repr

/-- A pending gear change (R211): its command, and t_g once known (unwrapped, 2^-16 ns). -/
structure PendGear where
  hdr : CmdHdr
  arg : GearArgs
  tg  : Option Int
  deriving DecidableEq, Repr

/-- One shaft: the segment in force and the later queued ones in order of t0, the SHORT_LEAD mark of queued ones,
the state of Table SH-3 for a shaft with its own trajectory, claims, counters and gearing; since when its present course
runs, and the courses before it with their starts, newest first, as far as a target may still look back to them; and a
change that awaits replanning: the instant from which the trajectory differs, and the targets it has committed (R218). -/
structure Shaft where
  source   : Nat
  state    : ShaftState
  force    : Option Seg
  queue    : List (Seg × Bool)
  claim    : Nat
  discont  : Int
  rejected : Nat
  dup      : Nat
  low      : Nat
  gear     : Option Gear
  pend     : Option PendGear
  since    : Int
  past     : List (Int × Option Course)
  changed  : Option (Int × Nat)
  deriving DecidableEq, Repr

/-- A shaft at reset. -/
def Shaft.reset : Shaft :=
  { source := 0, state := .off, force := none, queue := [], claim := 0, discont := 0, rejected := 0, dup := 0, low := 0,
    gear := none, pend := none, since := 0, past := [], changed := none }

/-- A planned target of a sector event (R217 to R226): the fields of its event, slot, absolute target and direction,
crossing and fire time on the unwrapped counter, the planned speed, flags of Table SH-7, and which of C20 to C27 fires
it where the planner fires it itself. -/
structure Planned where
  arg    : SectorArgs
  cmp    : Nat
  slot   : Nat
  shaft  : Nat
  kind   : Nat
  angle  : Int
  rising : Bool
  cross  : Int
  fire   : Int
  speed  : Int
  flags  : Nat
  deriving DecidableEq, Repr

/-- Where a search for crossings stands: the instant up to which the trajectory has been searched, and the angle that the
shaft to which targets are carried had there (R216). -/
structure Cursor where
  upTo : Int
  prev : Option Int
  deriving DecidableEq, Repr

/-- One sector event slot: its fields, its search for rising and for falling crossings, and the committed targets not
to be planned again until crossed the other way (R218). -/
structure SectorSlot where
  arg   : SectorArgs
  up    : Cursor
  down  : Cursor
  spent : List (Int × Bool)
  deriving DecidableEq, Repr

/-- A capture record owed at its crossing (R226). -/
structure RecOwed where
  plan  : Planned
  fired : Option Int
  deriving DecidableEq, Repr

/-- SHAFT.  `tq` is the planner's time queue in order of fire time and `wait` the converted targets that wait for room
in it; `lanes` are the searches of the COMMIT lane (0), of the shafts' gear lanes (1 + shaft) and of the ports' gate
lanes (65 + port); `turn` counts the planner's own targets, which take C20 to C27 in turn. -/
structure ShaftBlk where
  shafts : Tab Shaft
  slots  : Tab SectorSlot
  tq     : List Planned
  wait   : List Planned
  owed   : List RecOwed
  lanes  : Tab Cursor
  turn   : Nat
  recs   : List (List Word)
  recSeq : Nat
  recLost : Nat
  burst  : Bool
  overload : Bool
  snapSel : Nat
  snapValid : Bool
  snapTime : Nat
  snapAngle : Nat
  snapSpeed : Nat
  deriving DecidableEq, Repr

/-- SHAFT at reset. -/
def ShaftBlk.reset : ShaftBlk :=
  { shafts := [], slots := [], tq := [], wait := [], owed := [], lanes := [], turn := 0, recs := [], recSeq := 0, recLost := 0, burst := false,
    overload := false, snapSel := 0, snapValid := false, snapTime := 0, snapAngle := 0, snapSpeed := 0 }

end Sys2Proof.Machine
end

