-- ==== Sys2Proof/Machine/TicState.lean ====
section
/-! DEFINITION. State of TIC (chapter 08): channels and their FIFOs, interpolators, measurements, encoders. -/

namespace Sys2Proof.Machine

/-- One stamped edge of a frequency gate: edge count and stamp with Guhild steps removed, 2^-16 ns (R191). -/
abbrev GatePt := Nat × Int

/-- One pin channel: edge count, prescale phase, FIFO of 4-word records, SEQ, drops, whether records were lost before the next, and the open gate of a frequency measurement, newest first. -/
structure TicCh where
  count   : Nat
  phase   : Nat
  fifo    : List (List Word)
  seq     : Nat
  dropped : Nat
  lost    : Bool
  ignored : Nat
  freqLast : Nat
  gate    : List GatePt
  deriving DecidableEq, Repr

/-- A channel at reset. -/
def TicCh.reset : TicCh :=
  { count := 0, phase := 0, fifo := [], seq := 0, dropped := 0, lost := false, ignored := 0,
    freqLast := 0, gate := [] }

/-- One interpolator (R184 to R186): scale in 2^-32 ps per bin, offset in 2^-32 ps, whether its next pair is the first,
CAL_STALE, when the last pair completed, and when the last edge that it latched entered its line (both in Guhild time with
steps removed, 2^-16 ns). -/
structure Interp where
  scale  : Int
  offset : Int
  first  : Bool
  stale  : Bool
  calAt  : Int
  last   : Option Int
  deriving DecidableEq, Repr

/-- An interpolator at reset: the nominal bin of 3 ps (Table TC-1). -/
def Interp.reset : Interp := { scale := 3 * 2 ^ 32, offset := 0, first := true, stale := false, calAt := 0, last := none }

/-- An open start of an interval measurement (R190). -/
structure OpenStart where
  stamp : Int
  ns    : Nat
  stops : Nat
  num   : Nat
  deriving DecidableEq, Repr

/-- A measurement (R188): its command, its fields, the calibration pairs that each interpolator still runs before it
opens (R186), records written, starts counted, the open start. -/
structure Meas where
  hdr     : CmdHdr
  args    : TicArgs
  cal     : List (Nat × Nat)
  written : Nat
  starts  : Nat
  start   : Option OpenStart
  live    : Nat
  deriving DecidableEq, Repr

/-- One encoder channel (R195, R196): last accepted levels, position, errors, flags owed to the next record, the
position at the last Z rising edge since the direction last turned, whether Z has set the position, and the records kept for captured
shafts, newest first: stamp with steps removed, and position. -/
structure Enc where
  on     : Bool
  a      : Bool
  b      : Bool
  pos    : Int
  down   : Bool
  quadErr : Nat
  quadDue : Bool
  lost   : Bool
  zLast  : Option Int
  zSet   : Bool
  recs   : List (Int × Int)
  deriving DecidableEq, Repr

/-- An encoder at reset. -/
def Enc.reset : Enc :=
  { on := false, a := false, b := false, pos := 0, down := false, quadErr := 0, quadDue := false, lost := false,
    zLast := none, zSet := false, recs := [] }

/-- One monitor source (R198): its edges counted, a mark that found every interpolator busy, and its marks, newest
first. -/
structure Mon where
  count : Nat
  owed  : Bool
  marks : List GatePt
  deriving DecidableEq, Repr

/-- A monitor source at reset. -/
def Mon.reset : Mon := { count := 0, owed := false, marks := [] }

/-- A running swap (R199): its unit, its spare, and the calibration pairs that the unit coming in still runs; of the
comparison, the stamp pairs seen, the differences of the newest that agree in a row, newest first, and whether it has
passed. -/
structure TicSwap where
  unit   : Nat
  spare  : Nat
  cal    : Nat
  seen   : Nat
  diffs  : List Int
  passed : Bool
  deriving DecidableEq, Repr

/-- A swap of `unit` to `spare` that begins: 16 pairs first. -/
def TicSwap.start (unit spare : Nat) : TicSwap :=
  { unit := unit, spare := spare, cal := 16, seen := 0, diffs := [], passed := false }

/-- TIC. `x0`, `x1`: the unit a spare stands in for; `temp`: the temperature that pin latencies follow (R183). -/
structure Tic where
  chs    : Tab TicCh
  interps : Tab Interp
  meas   : List Meas
  encs   : Tab Enc
  x0     : Nat
  x1     : Nat
  swap   : Option TicSwap
  sel    : Nat
  latch  : List Word
  mons   : Tab Mon
  temp   : Int
  deriving DecidableEq, Repr

/-- TIC at reset (TIC_STATUS and the registers after it). -/
def Tic.reset : Tic :=
  { chs := [], interps := [], meas := [], encs := [], x0 := 0xFF, x1 := 0xFF, swap := none, sel := 0, latch := [],
    mons := [], temp := 0 }

end Sys2Proof.Machine
end

