-- ==== Sys2Proof/Machine/TrunkState.lean ====
section
/-! DEFINITION. State of a trunk (chapter 03): link state, receive and transmit machinery, signal word services,
credits, time exchange and tunnelling. -/

namespace Sys2Proof.Machine

/-- Trunk link states (Table DF-16). -/
inductive LinkState where
  | down
  | locking
  | aligned
  | trained
  | timed
  | up
  deriving DecidableEq, Repr

/-- The code of a link state (Table DF-16). -/
def LinkState.code : LinkState → Nat
  | .down => 0
  | .locking => 1
  | .aligned => 2
  | .trained => 3
  | .timed => 4
  | .up => 5

/-- A segment record being collected from SHAFT words (R60); `next` is 6 once it has failed and been counted. -/
structure ShaftAsm where
  segId : Nat
  next  : Nat
  bits  : Nat
  deriving DecidableEq, Repr

/-- A tunnelled packet being collected on one CHAN (R79); `dead` once it has been discarded and counted, until its LAST
or the next FIRST. -/
structure MgmtAsm where
  next  : Nat
  bytes : List Byte
  dead  : Bool
  deriving DecidableEq, Repr

/-- A tunnelled packet being sent on one CHAN (R79). -/
structure MgmtSend where
  fseq  : Nat
  bytes : List Byte
  deriving DecidableEq, Repr

/-- An accepted TIME of the far end: its number, its value, this side's stamp of it, whether it was echoed. -/
structure FarTime where
  seq    : Nat
  sent   : Nat
  stamp  : Nat
  latOk  : Bool
  echoed : Bool
  deriving DecidableEq, Repr

/-- One of the last 256 TIMEs sent (R59); `used` once an ECHO of it was accepted (R113). -/
structure SentTime where
  seq   : Nat
  sent  : Nat
  latOk : Bool
  used  : Bool
  deriving DecidableEq, Repr

/-- A segment record being sent in SHAFT words. -/
structure ShaftSend where
  shaft : Nat
  segId : Nat
  frag  : Nat
  bits  : Nat
  deriving DecidableEq, Repr

/-- Receiver-directed transmit training (R68): the field, PRE or POST, and the direction now tried; whether the request
outstanding undoes the last step; the best FOM; the requests made and the net steps applied; whether it has finished. -/
structure Training where
  pre      : Bool
  dec      : Bool
  undo     : Bool
  best     : Nat
  used     : Nat
  netPre   : Int
  netPost  : Int
  finished : Bool
  deriving DecidableEq, Repr

/-- The receive side of a trunk.  `mtu` is the TRUNK_MTU in effect at the last START (R81); `times` are the TIMEs
accepted last, newest first, which ECHO answers (R59). -/
structure TrunkRx where
  commas   : Nat
  lastSlot : Option Nat
  missRun  : Nat
  missAt   : List Nat
  clean    : Nat
  frame    : Option (StartInfo × List Byte × Nat)
  skip     : Bool
  alarm    : Nat
  alarmCand : Nat
  heart    : Nat
  heartCand : Nat
  quality  : Nat
  qualCand : Nat
  qualRun  : Nat
  shaft    : Tab ShaftAsm
  segNext  : Tab Nat
  mgmt     : Tab MgmtAsm
  packets  : List (List Byte)
  ended    : List (List Byte × FrameEnd)
  times    : List FarTime
  mtu      : Nat
  farReq   : Nat
  missing  : Nat
  errStuff : Nat
  errTag   : Nat
  errCw    : Nat
  errSignal : Nat
  errTunnel : Nat
  deriving DecidableEq, Repr

/-- The transmit side of a trunk; `ending` while an ABORT is owed to a frame cut by LINK_ADMIN (R81), `begun` once the superblock counter has its arbitrary starting value (R44). -/
structure TrunkTx where
  begun    : Bool
  slot     : Nat
  superNo  : Nat
  hbCount  : Nat
  words    : List (Bool × Word64)
  ending   : Bool
  sent     : List SentTime
  preReq   : Nat
  postReq  : Nat
  reqSeq   : Nat
  ackSeq   : Nat
  ackStat  : Nat
  ackLeft  : Nat
  mgmt     : Tab MgmtSend
  mgmtTurn : Nat
  shaftQ   : List ShaftSend
  segIds   : Tab Nat
  deriving DecidableEq, Repr

/-- The settings an averaging window began with (R116: a change takes effect at the next window start). -/
structure WinSet where
  asymFixed : Int
  asymEps   : Int
  extDelay  : Int
  log2      : Nat
  outlier   : Int
  deriving DecidableEq, Repr

/-- The time exchange of a trunk: the delays of the exchanges of consecutive superblocks (R65) and of those before a
delay step (R66), newest first; pairing (R113) and the averaging window (R116). -/
structure TrunkTime where
  timeOk    : Bool
  run       : List Int
  hist      : List Int
  stepRun   : Nat
  lost      : Nat
  gotEx     : Bool
  far       : List FarTime
  win       : WinSet
  winEx     : List (Int × Int × Int)
  discarded : Nat
  outliers  : Nat
  prevMean  : Option Int
  emptyRun  : Nat
  meanDelay : Int
  asym      : Int
  offset    : Int
  deriving DecidableEq, Repr

/-- One trunk; `released` once the allocation of credits has begun to be released (R73). -/
structure Trunk where
  link      : LinkState
  adaptDone : Bool
  txTrained : Bool
  training  : Option Training
  heldOff   : Bool
  trainedAt : Nat
  flushed   : Bool
  creditActive : Bool
  balance   : Tab Int
  last      : Tab Nat
  count     : Tab Nat
  owe       : Tab Int
  released  : Bool
  rx        : TrunkRx
  tx        : TrunkTx
  time      : TrunkTime
  deriving DecidableEq, Repr

/-- Receive side at reset. -/
def TrunkRx.reset : TrunkRx :=
  { commas := 0, lastSlot := none, missRun := 0, missAt := [], clean := 0, frame := none, skip := false, alarm := 0,
    alarmCand := 0, heart := 0, heartCand := 0, quality := 0, qualCand := 0, qualRun := 0, shaft := [], segNext := [],
    mgmt := [], packets := [], ended := [], times := [], mtu := 0, farReq := 0, missing := 0, errStuff := 0, errTag := 0, errCw := 0, errSignal := 0,
    errTunnel := 0 }

/-- Transmit side at reset; the superblock counter's start is arbitrary (R44) and is drawn at the first
block sent after a reset. -/
def TrunkTx.reset : TrunkTx :=
  { begun := false, slot := 0, superNo := 0, hbCount := 0, words := [], ending := false, sent := [], preReq := 0, postReq := 0, reqSeq := 0, ackSeq := 0,
    ackStat := 0, ackLeft := 0, mgmt := [], mgmtTurn := 0, shaftQ := [], segIds := [] }

/-- Time exchange at reset. -/
def TrunkTime.reset : TrunkTime :=
  { timeOk := false, run := [], hist := [], stepRun := 0, lost := 0, gotEx := false,
    far := [], win := ⟨0, 0, 0, 10, 200⟩, winEx := [], discarded := 0, outliers := 0, prevMean := none, emptyRun := 0,
    meanDelay := 0, asym := 0, offset := 0 }

/-- A trunk at reset. -/
def Trunk.reset : Trunk :=
  { link := .down, adaptDone := false, txTrained := false, training := none, heldOff := false, trainedAt := 0,
    flushed := true, creditActive := false, balance := [], last := [], count := [], owe := [], released := false, rx := .reset,
    tx := .reset, time := .reset }

end Sys2Proof.Machine
end

