-- ==== Sys2Proof/Machine/State.lean ====
section
/-! DEFINITION. The state of the ZV-9680 as plain data: everything the spec names, the queue of waiting commands and
what has left the device, with the state right after reset. -/

namespace Sys2Proof.Machine

/-- Why a command stops.  No command of this device stops the model: every row of the table has an effect, and every
refusal is a reply status or an ignored write, which are next states. -/
inductive Fault where
  /-- Raised by no command; kept so that the type has a value.  Safe: a stop proves nothing about the device. -/
  | unraised
  deriving DecidableEq, Repr

/-- Why the model has no meaning for a command. -/
inductive Refusal where
  /-- Raised by a command of the table that has no meaning yet, with its mnemonic.  Safe. -/
  | notModelled (mnemonic : String)
  deriving DecidableEq, Repr

/-- The device. -/
structure State where
  /-- Commands waiting, the oldest first. -/
  pending  : List Instr
  /-- What has left the device, the newest first. -/
  outbox   : List Out
  /-- The model's own counter of open values drawn from Config. -/
  free     : Nat
  /-- Time ticks since reset release. -/
  ticks    : Nat
  /-- The Guhild counter in fifths of 2^-16 ns (R110: 8 ns every 5 ticks). -/
  c5       : Nat
  /-- CYCLE: core cycles since reset release (R362). -/
  cycle    : Nat
  boot     : Boot
  aon      : Aon
  flash    : List Host.Cell
  keep     : Keep
  host     : HostIf
  iso      : Iso
  snap     : TimeSnap
  hdrs     : Tab Hdr
  /-- READY_0 and READY_1 as last reported, and blocks whose stop is still to be carried through. -/
  told     : Nat
  told1    : Nat
  halts    : List Nat
  params   : Tab Int
  staged   : Tab Int
  quads    : Tab Quad
  lanes    : Tab Lane
  trunks   : Tab Trunk
  edges    : Tab Edge
  clk      : Clk
  guh      : Guh
  pair     : Pair
  refs     : Refs
  tic      : Tic
  shaft    : ShaftBlk
  core     : Core
  buf      : Buf
  sched    : Sched
  trace    : Trace
  hlth     : Hlth
  /-- STORE_STATUS: trained, SIZE code, RETRAINS, ECC_CORR. -/
  storeTrained  : Bool
  storeSize     : Nat
  storeRetrains : Nat
  eccCorr       : Nat
  deriving DecidableEq, Repr

/-- Right after reset, before reset release: every field at the value the spec gives for reset. -/
def State.reset : State :=
  { pending := [], outbox := [], free := 0, ticks := 0, c5 := 0, cycle := 0, boot := .reset, aon := .reset,
    flash := [], keep := .reset, host := .reset, iso := .reset, snap := .reset, hdrs := [], told := 0, told1 := 0, halts := [], params := [], staged := [],
    quads := [], lanes := [], trunks := [], edges := [], clk := .reset, guh := .reset, pair := .reset,
    refs := .reset, tic := .reset, shaft := .reset, core := .reset, buf := .reset, sched := .reset, trace := .reset,
    hlth := .reset,
    storeTrained := false, storeSize := 0, storeRetrains := 0, eccCorr := 0 }

end Sys2Proof.Machine
end

