-- ==== Sys2Proof/Machine/Ops.lean ====
section
/-! DEFINITION. The named operations every meaning is written over: time, headers, parameters, flash, packets, the
transports' queues and events. -/

namespace Sys2Proof.Machine

/-! ## Outputs and open values -/

/-- `o` leaves the device. -/
def emit (o : Out) (s : State) : State := { s with outbox := o :: s.outbox }

/-- The next open number, and the state that has drawn it. -/
def drawNat (s : State) : Nat × State := (Config.freeNat s.free, { s with free := s.free + 1 })

/-- The next open signed value, and the state that has drawn it. -/
def drawInt (s : State) : Int × State := (Config.freeInt s.free, { s with free := s.free + 1 })

/-! ## Time (R106, R108, R110) -/

/-- The counter's total in 2^-16 ns, rounded to the nearest (R110). -/
def units (s : State) : Nat := (s.c5 + 2) / 5

/-- Rolling time, 48 bits (R106). -/
def rolling (s : State) : Nat := units s % 2 ^ 48

/-- The nanosecond count of the rolling time. -/
def rollNs (s : State) : Nat := units s / 65536 % 2 ^ 32

/-- Guhild seconds, nanoseconds and fraction (R106). -/
def guhSec (s : State) : Nat := units s / 65536 / 1000000000 % 2 ^ 48
/-- Guhild nanoseconds. -/
def guhNs (s : State) : Nat := units s / 65536 % 1000000000
/-- Guhild fraction. -/
def guhFrac (s : State) : Nat := units s % 65536

/-- A Guhild time in three words, 96 bits (R346). -/
def guhWords (s : State) : List Word :=
  let v := guhSec s * 2 ^ 48 + guhNs s * 2 ^ 16 + guhFrac s
  [w32 (v >>> 64), w32 (v >>> 32), w32 v]

/-- The unwrapped instant in 2^-16 ns that rolling time `t` stands for, seen from now (R108, R127). -/
def dueOf (s : State) (t : Nat) : Int := (units s : Int) + signed48 t (rolling s)

/-- signed32 of the nanosecond fields of rolling time `t` and now (R127). -/
def nsAhead (s : State) (t : Nat) : Int := signed32 (t / 65536 % 2 ^ 32) (rollNs s)

/-- The planned targets of slot `n` leave the planner. -/
def dropTargets (n : Nat) (s : State) : State :=
  { s with shaft := { s.shaft with
    tq := s.shaft.tq.filter (fun p => p.slot ≠ n)
    wait := s.shaft.wait.filter (fun p => p.slot ≠ n) } }

/-- The lane of a pending COMMIT at an angle, as a slot number. -/
abbrev commitSlot : Nat := 8192
/-- The gear lane of shaft `n`, as a slot number. -/
abbrev gearSlot (n : Nat) : Nat := 8193 + n
/-- The gate lane of port `p`, as a slot number. -/
abbrev gateSlot (p : Nat) : Nat := 8257 + p

/-! ## Headers, quads, lanes, trunks -/

/-- The window header of block `b`. -/
def hdr (s : State) (b : Nat) : Hdr := s.hdrs.get Hdr.reset b
/-- Sets the window header of block `b`. -/
def setHdr (b : Nat) (h : Hdr) (s : State) : State := { s with hdrs := s.hdrs.set b h }
/-- Changes the window header of block `b`. -/
def modHdr (b : Nat) (f : Hdr → Hdr) (s : State) : State := setHdr b (f (hdr s b)) s

/-- Lane `l`. -/
def lane (s : State) (l : Nat) : Lane := s.lanes.get Lane.reset l
/-- Sets lane `l`. -/
def setLane (l : Nat) (v : Lane) (s : State) : State := { s with lanes := s.lanes.set l v }
/-- Changes lane `l`. -/
def modLane (l : Nat) (f : Lane → Lane) (s : State) : State := setLane l (f (lane s l)) s
/-- Quad `q`. -/
def quad (s : State) (q : Nat) : Quad := s.quads.get Quad.reset q
/-- Sets quad `q`. -/
def setQuad (q : Nat) (v : Quad) (s : State) : State := { s with quads := s.quads.set q v }
/-- Changes quad `q`. -/
def modQuad (q : Nat) (f : Quad → Quad) (s : State) : State := setQuad q (f (quad s q)) s
/-- Trunk `p`. -/
def trunk (s : State) (p : Nat) : Trunk := s.trunks.get Trunk.reset p
/-- Sets trunk `p`. -/
def setTrunk (p : Nat) (v : Trunk) (s : State) : State := { s with trunks := s.trunks.set p v }
/-- Changes trunk `p`. -/
def modTrunk (p : Nat) (f : Trunk → Trunk) (s : State) : State := setTrunk p (f (trunk s p)) s

/-- The mode in effect of the lane that serves port `p`; in the 100G mode only P4q is served (R26). -/
def portMode (s : State) (p : Nat) : Nat :=
  let m := (lane s p).mode
  if m = 5 ∧ p % 4 ≠ 0 then 0 else m

/-- The lanes that serve port `p`: four in the 100G mode (R26). -/
def portLanes (s : State) (p : Nat) : List Nat :=
  if portMode s p = 5 then [p, p + 1, p + 2, p + 3] else [p]

/-- The latencies of every lane of port `p` are published: without them its stamps are marked invalid (R28, R35). -/
def portLatOk (s : State) (p : Nat) : Bool := (portLanes s p).all (fun l => (lane s l).latValid)

/-- Port `p` runs as a trunk (R42). -/
def isTrunk (s : State) (p : Nat) : Bool := portMode s p == 6 || portMode s p == 7
/-- Port `p` runs as an edge port (R446). -/
def isEdge (s : State) (p : Nat) : Bool := 1 ≤ portMode s p && portMode s p ≤ 5

/-- Block `b` runs, itself or on a spare while under in-service test (R24). -/
def blkRun (s : State) (b : Nat) : Bool :=
  (hdr s b).state = .run || ((hdr s b).state = .isolated && (hdr s b).onSpare)

/-- A block counts as stopped while OFF or RETIRED, and as running in every other state (R338). -/
def blkStopped (s : State) (b : Nat) : Bool := (hdr s b).state = .off || (hdr s b).state = .retired

/-- Rate of a lane mode in kBaud and its lane word width in UI (Table LN-1). -/
def baudWidth (m : Nat) : Nat × Nat :=
  match m with
  | 1 => (1250000, 20)
  | 2 => (3125000, 20)
  | 3 => (10312500, 66)
  | 4 | 5 => (25781250, 66)
  | 6 => (11250000, 64)
  | 7 => (28125000, 64)
  | _ => (1, 0)

/-! ## Parameters (R11, R338) -/

/-- The reset value of a parameter: its row's, or the one its row names otherwise: the strap for OSC_A_FREQ, the
identity record for MGMT_MAC (R447), and the values Table RF-7 gives ports. -/
def resetValue (s : State) (b i : Nat) (r : PRow) : Int :=
  if b = bKEEP ∧ r.num = Par.efMgmtMac then s.boot.mac
  else if b = bCSYN ∧ i = 0xF0 ∧ r.num = Par.ckOscAFreq then
    (match s.boot.straps.oscSel with | 0 => 25 | 1 => 40 | 2 => 48 | _ => 50)
  else if b = bREFS ∧ 0x20 ≤ i ∧ i ≤ 0x5F ∧ r.num = Par.rfSelMask then 1
  else if b = bREFS ∧ 0x20 ≤ i ∧ i ≤ 0x5F ∧ r.num = Par.rfMonWindow then 1000
  else r.reset

/-- The value in effect of a parameter that is not read only. -/
def par (s : State) (b i n : Nat) : Int :=
  match s.params.find (pid b i n) with
  | some v => v
  | none =>
    match findRow (pid b i n) with
    | some r => resetValue s b i r
    | none => 0

/-- The same as a natural number. -/
def parN (s : State) (b i n : Nat) : Nat := (par s b i n).toNat

/-- The value a parameter will have once its block's staged set is applied (R12, R339). -/
def after (s : State) (b i n : Nat) : Int := (s.staged.find (pid b i n)).getD (par s b i n)
/-- The same as a natural number. -/
def afterN (s : State) (b i n : Nat) : Nat := (after s b i n).toNat

/-- Writes a parameter's value in effect. -/
def setPar (b i n : Nat) (v : Int) (s : State) : State := { s with params := s.params.set (pid b i n) v }

/-- Whether a row's values are signed: its range reaches below zero (R317). -/
def PRow.signed (r : PRow) : Bool :=
  match r.range with
  | .span lo _ => decide (lo < 0)
  | .spanOr x lo _ => decide (lo < 0) || decide (x < 0)
  | _ => false

/-- The value a 64-bit word carries for a row (R317). -/
def PRow.read (r : PRow) (w : Word64) : Int := if r.signed then sext 64 w.toNat else (w.toNat : Int)

/-- A MAC address with the group bit clear and not all zeros (Table EF-14). -/
def macOk (v : Int) : Bool := decide (0 < v) && decide (v < 2 ^ 48) && !(v.toNat.testBit 40)

/-- Whether a range accepts a value (R11). -/
def inRange (s : State) (b i : Nat) (r : PRow) (v : Int) : Bool :=
  match r.range with
  | .span lo hi => decide (lo ≤ v) && decide (v ≤ hi)
  | .spanOr x lo hi => decide (v = x) || (decide (lo ≤ v) && decide (v ≤ hi))
  | .steps lo hi st => decide (lo ≤ v) && decide (v ≤ hi) && decide (v % st = 0)
  | .oneOf l => l.contains v
  | .mac => macOk v
  | .below n => decide (0 ≤ v) && decide (v < par s b i n)
  | .ro => false

/-! ## Flash, the addressed memory of the start-up logic (R367) -/

/-- The flash holds 8 MiB at least; the device's regions end at 0x0056_0000 (Table BU-4). -/
def flashSize : Nat := 0x800000

/-- What a byte of flash that nothing has written reads as: the erased value. -/
def erased : Byte := 0xFF

/-- The canonical form: addresses strictly rising and no entry at the erased value. -/
def Memory.wf : List Host.Cell → Bool
  | [] => true
  | [(_, v)] => v != erased
  | (a, v) :: (b, w) :: r => decide (a < b) && (v != erased) && Memory.wf ((b, w) :: r)

/-- The byte at an address. -/
def Memory.read : List Host.Cell → Nat → Byte
  | [], _ => erased
  | (a, v) :: r, k => if a = k then v else Memory.read r k

/-- Removes every entry of an address. -/
def Memory.erase (m : List Host.Cell) (k : Nat) : List Host.Cell := m.filter (fun e => e.1 ≠ k)

/-- Puts an entry in its place. -/
def Memory.put : List Host.Cell → Nat → Byte → List Host.Cell
  | [], k, v => [(k, v)]
  | (a, u) :: r, k, v =>
    if k < a then (k, v) :: (a, u) :: r
    else if a = k then (k, v) :: r
    else (a, u) :: Memory.put r k v

/-- Writes one byte, keeping the canonical form. -/
def Memory.write (m : List Host.Cell) (k : Nat) (v : Byte) : List Host.Cell :=
  if v = erased then Memory.erase m k else Memory.put m k v

/-- Writes bytes from an address on. -/
def Memory.writeAll (m : List Host.Cell) (k : Nat) : List Byte → List Host.Cell
  | [] => m
  | b :: r => Memory.writeAll (Memory.write m k b) (k + 1) r

/-- Reads `n` bytes from an address on. -/
def Memory.readAll (m : List Host.Cell) (k : Nat) : Nat → List Byte
  | 0 => []
  | n + 1 => Memory.read m k :: Memory.readAll m (k + 1) n

/-! ## Packets (R316 to R318, R329) -/

/-- KIND bits of Table EF-1. -/
def PktKind.code : PktKind → Nat
  | .command => 0
  | .reply => 1
  | .event => 2

/-- Header bytes 0 to 11 (Table EF-1). -/
def Packet.head (p : Packet) : List Byte :=
  [0xEF, BitVec.ofNat 8 (0x10 + b2n p.auth.isSome * 8 + p.kind.code * 2 + b2n p.x)]
    ++ bytesBE 2 p.opcode ++ bytesBE 2 p.seq ++ bytesBE 2 p.body.length ++ bytesBE 2 p.epoch ++ bytesBE 2 p.hi

/-- Trailer bytes 0 to 15 (Table EF-8). -/
def trailerHead (k replay : Nat) : List Byte :=
  BitVec.ofNat 8 k :: List.replicate 7 0 ++ bytesBE 8 replay

/-- The trailer's bytes, if the packet has one. -/
def Packet.trailer (p : Packet) : List Byte :=
  match p.auth with
  | none => []
  | some (k, r, t) => trailerHead k r ++ bytesBE 16 t

/-- The packet's bytes in transmission order (R316 to R318). -/
def Packet.bytes (p : Packet) : List Byte :=
  let b := wordsBytes p.body
  p.head ++ bytesBE 4 (crc32c (p.head ++ b ++ p.trailer)) ++ b ++ p.trailer

/-- The packet under key `key` of slot `k` with REPLAY `r` (R329, R331). -/
def Packet.seal (p : Packet) (k r key : Nat) : Packet :=
  let q := { p with auth := some (k, r, 0) }
  { p with auth := some (k, r, hmacTag key (q.head ++ wordsBytes p.body ++ trailerHead k r)) }

/-! Status codes (Table EF-2). -/
abbrev stOk : Nat := 0x0000
abbrev stAccepted : Nat := 0x0001
abbrev stBadOpcode : Nat := 0x0100
abbrev stBadLength : Nat := 0x0101
abbrev stBadParamId : Nat := 0x0102
abbrev stOutOfRange : Nat := 0x0103
abbrev stBadClass : Nat := 0x0104
abbrev stBusy : Nat := 0x0200
abbrev stNotReady : Nat := 0x0201
abbrev stNoResource : Nat := 0x0203
abbrev stRoleMoved : Nat := 0x0300
abbrev stNotActive : Nat := 0x0301
abbrev stAuthFail : Nat := 0x0400
abbrev stReplay : Nat := 0x0401
abbrev stLocked : Nat := 0x0402
abbrev stCheckFail : Nat := 0x0500
abbrev stInternal : Nat := 0x0600

/-! ## Keeper counters -/

/-- Adds to CMD_DISCARDED, wrapping at 32 bits (R321). -/
def discard (s : State) : State :=
  { s with keep := { s.keep with cmdDiscarded := (s.keep.cmdDiscarded + 1) % 2 ^ 32 } }

/-- Adds to EVT_LOST, wrapping at 32 bits (R325, R326). -/
def loseEvent (s : State) : State :=
  { s with keep := { s.keep with evtLost := (s.keep.evtLost + 1) % 2 ^ 32 } }

/-- Key slot `k`. -/
def keySlot (s : State) (k : Nat) : KeySlot := s.keep.keys.get KeySlot.empty k

/-! ## MSI-X (R347, R356) -/

/-- A dword of the MSI-X table; vector control reads masked until written. -/
def msixWord (s : State) (i : Nat) : Nat := s.host.msixTable.get (if i % 4 = 3 then 1 else 0) i

/-- Signals vector `v`: pending while masked, sent otherwise; nothing is sent without a PCIe link. -/
def signalVec (v : Nat) (s : State) : State :=
  if (msixWord s (4 * v + 3)).testBit 0 then { s with host := { s.host with pba := setBit s.host.pba v } }
  else if s.host.pcieUp then emit (.msix v) s
  else s

/-- The event interrupt of vector `b`, no sooner than EVT_MOD after the previous one (R356). -/
def signalEvent (b : Nat) (s : State) : State :=
  if parN s bKEEP 0 Par.efEvtMod = 0 then signalVec b s
  else if (hdr s b).evtTimer then modHdr b (fun h => { h with evtHeld := true }) s
  else signalVec b (modHdr b (fun h => { h with evtTimer := true }) s)

/-! ## Rings (R323 to R325, R359) -/

/-- Ring sizes. -/
def ringSize (log2 : Nat) : Nat := 2 ^ log2

/-- The completion ring is full (R359). -/
def cplFull (s : State) : Bool := (s.host.cplTail + 1) % ringSize s.host.cplLog2 == s.host.cplHead
/-- The event ring is full (R359). -/
def evtFull (s : State) : Bool := (s.host.evtTail + 1) % ringSize s.host.evtLog2 == s.host.evtHead

/-- The 16 bytes of a completion entry, little-endian (Table EF-6, R7): `len` reply bytes were written. -/
def cplBytes (o : OwedCpl) (len : Nat) (phase : Bool) : List Byte :=
  bytesLE 4 o.tag ++ bytesLE 2 o.seq ++ bytesLE 2 o.status ++ bytesLE 4 len
    ++ bytesLE 4 (b2n (decide (o.rplSize < o.reply.length)) * 2 + b2n phase)

/-- The 64 bytes of an event ring entry: the packet in network order, zeros, PHASE and LOST (R325, R7). -/
def evtBytes (p : Packet) (phase lost : Bool) : List Byte :=
  (p.bytes ++ List.replicate 60 0).take 60 ++ bytesLE 4 (b2n lost * 2 + b2n phase)

/-- Writes a reply and its completion entry, then raises vector 0x02 (R324). -/
def writeCpl (o : OwedCpl) (s : State) : State :=
  let len := min o.reply.length o.rplSize
  let idx := s.host.cplTail
  let last := idx + 1 = ringSize s.host.cplLog2
  let s := if 0 < len then emit (.rplBuf o.rplAddr (o.reply.take len)) s else s
  let s := emit (.cplEntry idx (cplBytes o len s.host.cplPhase)) s
  let s := { s with host := { s.host with
    cplTail := if last then 0 else idx + 1,
    cplPhase := if last then !s.host.cplPhase else s.host.cplPhase } }
  signalVec bHOST s

/-- The completion of a PCIe command: discarded and counted if the link went down after its fetch (R361), kept while
the completion ring is full (R324), written otherwise. -/
def completePcie (o : OwedCpl) (s : State) : State :=
  let key := (o.tag, o.seq)
  if s.host.orphans.contains key then
    discard { s with host := { s.host with orphans := s.host.orphans.erase key } }
  else
    let s := { s with host := { s.host with fetched := s.host.fetched.erase key } }
    if cplFull s || !s.host.owed.isEmpty then { s with host := { s.host with owed := s.host.owed ++ [o] } }
    else writeCpl o s

/-- Writes as many owed completions as the ring has room for, at most `n`. -/
def drainOwed : Nat → State → State
  | 0, s => s
  | n + 1, s =>
    match s.host.owed with
    | [] => s
    | o :: r => if cplFull s then s else drainOwed n (writeCpl o { s with host := { s.host with owed := r } })

/-! ## Replies (R319, R322, R331) -/

/-- Queues a packet's bytes for a trunk's MGMT words. -/
def queueMgmt (p : Nat) (bytes : List Byte) (s : State) : State :=
  { s with keep := { s.keep with mgmtTx := s.keep.mgmtTx.set p ((s.keep.mgmtTx.get [] p) ++ [bytes]) } }

/-- A reply packet, tagged for a command that carried a trailer (R331). -/
def mkReply (s : State) (h : CmdHdr) (op status : Nat) (words : List Word) : Packet :=
  let p : Packet :=
    { kind := .reply, x := false, opcode := op, seq := h.seq, epoch := s.pair.epoch, hi := status, body := words,
      auth := none }
  match h.key with
  | none => p
  | some (k, r) => p.seal k r (keySlot s k).key

/-- The script's account of a packet's status (R345). -/
def scriptStatus (status : Nat) (s : State) : State :=
  match s.keep.script with
  | none => s
  | some r =>
    let r := if status = stAccepted then { r with holding := true }
      else if status = stOk then { r with holding := false, waitFrom := none }
      else { r with holding := false, waitFrom := none,
                    first := (match r.first with | some f => some f | none => some (r.run - 1, status)),
                    ended := r.ended || r.stopOnErr }
    { s with keep := { s.keep with script := some r } }

/-- Sends the answer of a command the way it came (R322 to R328). -/
def sendReply (h : CmdHdr) (op status : Nat) (words : List Word) (s : State) : State :=
  let p := mkReply s h op status words
  let silent := h.noReply && (status == stOk || status == stAccepted)
  match h.origin with
  | .pcie tag addr size =>
    completePcie { tag := tag, seq := h.seq, status := status, rplAddr := addr, rplSize := size, reply := p.bytes } s
  | .spi => if silent then s else { s with host := { s.host with spiReplies := s.host.spiReplies ++ [p] } }
  | .inband port mac vlan => if silent then s else emit (.inband port mac vlan p) s
  | .tunnel port env => if silent then s else queueMgmt port (env ++ p.bytes) s
  | .script => scriptStatus status s

/-! ## Events (R320, R325, R326, R332, R336) -/

/-- Destinations that number events on their own. -/
abbrev dRing : Nat := 0
abbrev dSpi : Nat := 1
/-- The destination of remote events under key slot `k`. -/
def dKey (k : Nat) : Nat := 0x10 + k

/-- An event packet for a destination, and the state that has counted it. -/
def mkEvent (d code : Nat) (ref : Option Nat) (payload : List Word) (s : State) : Packet × State :=
  let p : Packet :=
    { kind := .event, x := ref.isSome, opcode := code, seq := s.keep.evtSeq.get 0 d, epoch := s.pair.epoch,
      hi := ref.getD 0, body := payload, auth := none }
  (p, { s with keep := { s.keep with evtSeq := s.keep.evtSeq.set d ((s.keep.evtSeq.get 0 d + 1) % 2 ^ 16) } })

/-- Writes an event to the event ring (R325); lost while EN = 0 (R359) or the ring is full. -/
def eventRing (b code : Nat) (ref : Option Nat) (payload : List Word) (s : State) : State :=
  let (p, s) := mkEvent dRing code ref payload s
  if !s.host.en then loseEvent s
  else if evtFull s then loseEvent { s with host := { s.host with ringLost := true } }
  else
    let idx := s.host.evtTail
    let last := idx + 1 = ringSize s.host.evtLog2
    let s := emit (.evtEntry idx (evtBytes p s.host.evtPhase s.host.ringLost)) s
    let s := { s with host := { s.host with
      ringLost := false,
      evtTail := if last then 0 else idx + 1,
      evtPhase := if last then !s.host.evtPhase else s.host.evtPhase } }
    signalEvent b s

/-- Queues an event for SPI, where at most 64 wait (R326). -/
def eventSpi (code : Nat) (ref : Option Nat) (payload : List Word) (s : State) : State :=
  let (p, s) := mkEvent dSpi code ref payload s
  if 64 ≤ s.host.spiEvents.length then loseEvent s
  else { s with host := { s.host with spiEvents := s.host.spiEvents ++ [p] } }

/-- An event under a key slot: its REPLAY is the slot's counter of events sent (R332). -/
def eventKeyed (k code : Nat) (ref : Option Nat) (payload : List Word) (s : State) : Packet × State :=
  let (p, s) := mkEvent (dKey k) code ref payload s
  let ks := keySlot s k
  let n := ks.evtCount + 1
  (p.seal k n ks.key, { s with keep := { s.keep with keys := s.keep.keys.set k { ks with evtCount := n } } })

/-- Sends a remote event to a destination. -/
def eventRemote (k code : Nat) (ref : Option Nat) (payload : List Word) (dest : Origin) (s : State) : State :=
  let (p, s) := eventKeyed k code ref payload s
  match dest with
  | .inband port mac vlan => emit (.inband port mac vlan p) s
  | .tunnel port env => queueMgmt port (env ++ p.bytes) s
  | _ => s

/-- Sends an event to every subscription whose mask holds block `b` (R332). -/
def eventSubs (b code : Nat) (payload : List Word) : List (Nat × Sub) → State → State
  | [], s => s
  | (_, u) :: r, s =>
    eventSubs b code payload r (if u.mask.testBit b then eventRemote u.keyId code none payload u.dest s else s)

/-- Reports an event of block `b` with low byte `lo` and the content words (R320) to every destination. -/
def report (b lo : Nat) (words : List Word) (s : State) : State :=
  let payload := w32 (rollNs s) :: words
  let code := b * 256 + lo
  eventSubs b code payload s.keep.subs (eventSpi code none payload (eventRing b code none payload s))

/-- Sends a completion event (R336): with REF on the transport the command came by; a block's own event is an event
of the block for every other destination as well. -/
def reportRef (h : CmdHdr) (b lo : Nat) (words : List Word) (own : Bool) (s : State) : State :=
  let payload := w32 (rollNs s) :: words
  let code := b * 256 + lo
  let s := match h.origin with
    | .pcie _ _ _ => eventRing b code (some h.seq) payload s
    | _ => if own then eventRing b code none payload s else s
  let s := match h.origin with
    | .spi => eventSpi code (some h.seq) payload s
    | _ => if own then eventSpi code none payload s else s
  let s := match h.origin, h.key with
    | .inband p m v, some (k, _) => eventRemote k code (some h.seq) payload (.inband p m v) s
    | .tunnel p e, some (k, _) => eventRemote k code (some h.seq) payload (.tunnel p e) s
    | _, _ => s
  if own then eventSubs b code payload s.keep.subs s else s

/-- COMMAND_DONE carries the opcode and the final status (Table EF-15). -/
def commandDone (h : CmdHdr) (op status : Nat) (s : State) : State :=
  let s := reportRef h bKEEP 0x01 [w32 op, w32 status] false s
  match h.origin with
  | .script => scriptStatus status s
  | _ => s

/-- Records that a command returned ACCEPTED and is owed a completion (R336). -/
def accept (op tag : Nat) (h : CmdHdr) (s : State) : State :=
  { s with keep := { s.keep with accepted := s.keep.accepted ++ [⟨op, h, tag⟩] } }

/-- The oldest accepted command of an opcode and tag. -/
def findAccepted (s : State) (op tag : Nat) : Option Accepted :=
  s.keep.accepted.find? (fun a => a.opcode == op && a.tag == tag)

/-- Ends an accepted command with the block event `b`, `lo`; an event without a command is a plain event. -/
def completeWith (op tag b lo : Nat) (words : List Word) (status : Nat) (s : State) : State :=
  match findAccepted s op tag with
  | none => report b lo words s
  | some a =>
    let s := { s with keep := { s.keep with accepted := s.keep.accepted.erase a } }
    let s := reportRef a.hdr b lo words true s
    match a.hdr.origin with
    | .script => scriptStatus status s
    | _ => s

/-- Ends an accepted command with COMMAND_DONE. -/
def completeDone (op tag status : Nat) (s : State) : State :=
  match findAccepted s op tag with
  | none => s
  | some a =>
    commandDone a.hdr op status { s with keep := { s.keep with accepted := s.keep.accepted.erase a } }

/-- The bytes a reply may have on the transport of a command (R317). -/
def replyLimit (h : CmdHdr) : Nat :=
  match h.origin with
  | .pcie _ _ size => size
  | .spi | .script => 4096
  | .inband _ _ _ | .tunnel _ _ => 2048

/-- How many records of `w` words fit in a reply beside its header, trailer and count word (R317). -/
def roomFor (h : CmdHdr) (w : Nat) : Nat := (replyLimit h - 20 - (if h.key.isSome then 32 else 0)) / (4 * w)

/-- A pending COMMIT names block `b` (R340). -/
def commitNames (s : State) (b : Nat) : Bool :=
  match s.keep.commit with
  | some c => c.mask.testBit b
  | none => false

/-! ## The answer of a command -/

/-- What a command did: the state it left, its status and its result words. -/
structure Resp where
  state  : State
  status : Nat
  words  : List Word
  deriving DecidableEq, Repr

/-- Done, with a result. -/
def okWith (words : List Word) (s : State) : Resp := ⟨s, stOk, words⟩
/-- Done. -/
def ok (s : State) : Resp := ⟨s, stOk, []⟩
/-- Refused: nothing is changed (R319). -/
def refuse (status : Nat) (s : State) : Resp := ⟨s, status, []⟩
/-- Refused, naming a list entry (Table EF-3). -/
def refuseAt (status i : Nat) (s : State) : Resp := ⟨s, status, [w32 i]⟩
/-- Started; the completion is owed under `op` and `tag` (R336). -/
def accepted (op tag : Nat) (h : CmdHdr) (s : State) : Resp := ⟨accept op tag h s, stAccepted, []⟩

/-- Answers a command. -/
def answer (op : Nat) (h : CmdHdr) (r : Resp) : State := sendReply h op r.status r.words r.state

/-- The Keeper serves commands: KEEP_CMD is set and the device is not in Standby Light mode, or it is and the opcode
is one of those marked S (R23, R343, R372). -/
def served (s : State) (standby : Bool) : Bool :=
  match s.boot.phase with
  | .heldInReset => false
  | .started => s.keep.cmdService && blkRun s bKEEP
  | .standbyLight => standby

end Sys2Proof.Machine
end

