-- ==== Sys2Proof/Machine/PoolView.lean ====
section
/-! DEFINITION. Views of ports and of the buffer pool that counting, admission and parameters share: frame rates
(Table SW-7), class kinds and the partition of the pool (R257), free cells and thresholds (R258). -/

namespace Sys2Proof.Machine

/-- The frame rate of a lane mode in kb/s (Table SW-7); the Difivi rates are the exact ones behind R245's 1/64. -/
def frameRate (m : Nat) : Nat :=
  match m with
  | 1 => 1000000
  | 2 => 2500000
  | 3 => 10000000
  | 4 => 25000000
  | 5 => 100000000
  | 6 => 9843750
  | 7 => 24609375
  | _ => 0

/-- The largest frame of a port: MAX_FRAME, or TRUNK_MTU on a trunk (R84, R245). -/
def portMtu (s : State) (p : Nat) : Nat :=
  if isTrunk s p then parN s (bP p) 0 Par.dfTrunkMtu else parN s (bP p) 0 Par.epMaxFrame

/-- FEC in effect (EP_STATUS FEC): 0 none, 1 Clause 74, 2 Clause 108, 3 Clause 91. -/
def fecOf (s : State) (p : Nat) : Nat :=
  match portMode s p with
  | 5 => 3
  | 4 => parN s (bP p) 0 Par.epFecMode
  | _ => 0

/-- The delay of PCS and FEC that an edge stamp of port `p` is corrected for. -/
def pcsDelay (s : State) (p : Nat) (tx : Bool) : Nat :=
  if isEdge s p then Config.pcsDelay (portMode s p) (fecOf s p) tx else 0

/-- The stamp at the pin of an edge that port `p` received at `raw`, the counter with the sub-tick position at the
lane's internal stamping point (R8, R34, R111). -/
def rxPin (s : State) (p raw : Nat) : Nat :=
  (((raw : Int) - (((lane s p).rxLat + pcsDelay s p false : Nat) : Int)) % 2 ^ 48).toNat

/-- The stamp at the pin of an edge that passed the internal stamping point of port `p` at `raw` on its way out. -/
def txPin (s : State) (p raw : Nat) : Nat := (raw + (lane s p).txLat + pcsDelay s p true) % 2 ^ 48

/-- ADAPT_MODE of a lane is FIXED (R32). -/
def adaptFixed (s : State) (l : Nat) : Bool := parN s (bQ (l / 4)) (l % 4) Par.lnAdaptMode == 1

/-- The lane's adaptation is done: completed, or not run because ADAPT_MODE is FIXED (R32). -/
def laneAdapted (s : State) (l : Nat) : Bool :=
  (lane s l).adapt == .none && (lane s l).cdrLock && ((lane s l).bgAdapt || adaptFixed s l)

/-- A port is UP (Table DF-16, Table EP-4). -/
def portUp (s : State) (p : Nat) : Bool :=
  (isTrunk s p && (trunk s p).link == .up) || (isEdge s p && (s.edges.get Edge.reset p).link == .up)

/-- The cells of a frame of `n` bytes (R254). -/
def cellsOf (n : Nat) : Nat := (n + 255) / 256

/-- A lossless-edge class under given parameters (R257). -/
def losslessG (g : Nat → Nat → Nat → Nat) (m p c : Nat) : Bool :=
  1 ≤ m && m ≤ 5 &&
    (g (bP p) 0 Par.epFlowMode == 1 || (g (bP p) 0 Par.epFlowMode == 2 && (g (bP p) 0 Par.epPfcEn).testBit c))

/-- A credited class under given parameters (R257). -/
def creditedG (g : Nat → Nat → Nat → Nat) (m p c : Nat) : Bool :=
  (m == 6 || m == 7) && (g (bP p) 0 Par.dfCreditEn).testBit c

/-- A lossless-edge class as configured. -/
def losslessEdge (s : State) (p c : Nat) : Bool := losslessG (parN s) (portMode s p) p c
/-- A credited class as configured. -/
def credited (s : State) (p c : Nat) : Bool := creditedG (parN s) (portMode s p) p c
/-- A class demoted by the watchdog (R264). -/
def demoted (s : State) (c : Nat) : Bool := s.buf.demoted.testBit c

/-- The cells that one class of one port takes out of the pool (R257). -/
def classShare (g : Nat → Nat → Nat → Nat) (m p c : Nat) : Nat :=
  if creditedG g m p c then g (bP p) c Par.bpCreditAlloc + 64
  else if losslessG g m p c then g (bP p) c Par.bpMinIn + g (bP p) c Par.bpHeadroom
  else g (bP p) c Par.bpMinIn

/-- Reserved, headroom and credit parts together (R257). -/
def poolParts (g : Nat → Nat → Nat → Nat) (mode : Nat → Nat) : Nat :=
  (List.range 64).foldl (fun a p => (List.range 8).foldl (fun a c => a + classShare g (mode p) p c) a) 0

/-- POOL_TOTAL: the cells of the active banks (R254, R255). -/
def poolTotal (s : State) : Nat := 262144 - 1024 * s.buf.sparesLost

/-- POOL_SHARED (R257). -/
def poolShared (s : State) : Nat := poolTotal s - poolParts (parN s) (portMode s)

/-- Cells in use in the shared part: those of the accounts, and orphaned cells (R268). -/
def sharedUsed (s : State) : Nat := s.buf.ins.foldl (fun a e => a + e.2.shared) s.buf.orphans

/-- POOL_FREE: free shared cells. -/
def poolFree (s : State) : Nat := poolShared s - sharedUsed s

/-- `n` lies below thr(α) = 2^α × free (R258). -/
def belowThr (n : Nat) (alpha : Int) (free : Nat) : Bool :=
  if 0 ≤ alpha then n < 2 ^ alpha.toNat * free else n * 2 ^ (-alpha).toNat < free

/-- The account in(p, c). -/
def inAcct (s : State) (p c : Nat) : InAcct := s.buf.ins.get InAcct.empty (8 * p + c)
/-- The account out(q) of queue `q` of port `p`. -/
def outQ (s : State) (p q : Nat) : OutQ := s.buf.outs.get OutQ.empty (8 * p + q)
/-- Cells in an egress queue. -/
def OutQ.depth (q : OutQ) : Nat := q.frames.foldl (fun a f => a + f.2) 0

/-- Pause is asserted for class `c` of port `p` (R260). -/
def asserted (s : State) (p c : Nat) : Bool := s.buf.asserted.get false (8 * p + c)

/-- The credit a class needs before a frame of `n` bytes starts (R70): none for a class that R74 exempts. -/
def creditOk (s : State) (p c n : Nat) : Bool :=
  !isTrunk s p || !credited s p c || demoted s c
    || decide ((cellsOf n : Int) ≤ (trunk s p).balance.get 0 c)

/-- A class is paused by the partner (R91). -/
def pausedBy (s : State) (p c : Nat) : Bool := isEdge s p && ((s.edges.get Edge.reset p).paused.find c).isSome

/-- The scheduler of a port. -/
def portSched (s : State) (p : Nat) : PortSched := s.sched.ports.get PortSched.reset p

/-- The gates in effect: the list's, with those that sector GATE events override (R281). -/
def gatesNow (s : State) (p : Nat) : Nat :=
  let x := portSched s p
  clrMask 8 x.gates x.overrideMask ||| (x.overrideGates &&& x.overrideMask)

end Sys2Proof.Machine
end

