-- ==== Sys2Proof/Machine/Counters.lean ====
section
/-! DEFINITION. Programmable counters (R407 to R411, Table CT-1): which selections count, what passes a filter, and
the counting of occurrences, bytes and levels. -/

namespace Sys2Proof.Machine

/-- Counts nothing: PCNT_SEL and PCNT_FILT at reset. -/
def Pcnt.reset : Pcnt := ⟨0, 0, 0xFFFF000000FFE000⟩

/-- The windows of Table CT-1. -/
inductive Window where
  | port
  | core
  | lkp
  | buf
  | sched
  | other
  deriving DecidableEq, Repr

/-- The window of a block. -/
def windowOf (b : Nat) : Window :=
  if isPortB b then .port
  else if b = bCORE then .core
  else if b = bLKP then .lkp
  else if b = bBUF then .buf
  else if b = bSCHED then .sched
  else .other

/-- The number of programmable counters of a window (Table RG-4). -/
def pcntCount (b : Nat) : Nat := if windowOf b = .other then 4 else 8

/-- A row of Table CT-1: window, whether the event is a level, and the filters that apply and that it requires, as
bits 0 port, 1 class, 2 channel, 3 colour. -/
structure CntRow where
  win   : Window
  level : Bool
  filts : Nat
  needs : Nat
  deriving DecidableEq, Repr

/-- Table CT-1 but for the events of every window. -/
def cntRow (ev : Nat) : Option CntRow :=
  match ev with
  | 0x001 => some ⟨.port, false, 6, 0⟩
  | 0x002 => some ⟨.port, false, 6, 0⟩
  | 0x003 => some ⟨.port, false, 14, 0⟩
  | 0x004 => some ⟨.port, false, 14, 0⟩
  | 0x005 => some ⟨.port, false, 2, 0⟩
  | 0x006 => some ⟨.port, true, 2, 0⟩
  | 0x007 => some ⟨.port, true, 2, 0⟩
  | 0x008 => some ⟨.port, true, 0, 0⟩
  | 0x010 => some ⟨.core, false, 7, 0⟩
  | 0x011 => some ⟨.core, false, 15, 0⟩
  | 0x012 => some ⟨.core, false, 15, 0⟩
  | 0x013 => some ⟨.core, false, 5, 0⟩
  | 0x014 => some ⟨.core, false, 3, 0⟩
  | 0x020 => some ⟨.lkp, false, 5, 0⟩
  | 0x021 => some ⟨.lkp, false, 5, 0⟩
  | 0x022 => some ⟨.lkp, true, 0, 0⟩
  | 0x023 => some ⟨.lkp, false, 1, 0⟩
  | 0x030 => some ⟨.buf, false, 15, 0⟩
  | 0x031 => some ⟨.buf, false, 15, 0⟩
  | 0x032 => some ⟨.buf, true, 0, 0⟩
  | 0x033 => some ⟨.buf, true, 3, 3⟩
  | 0x034 => some ⟨.buf, true, 3, 0⟩
  | 0x040 => some ⟨.sched, true, 3, 1⟩
  | 0x041 => some ⟨.sched, false, 3, 0⟩
  | 0x042 => some ⟨.sched, false, 3, 0⟩
  | 0x043 => some ⟨.sched, false, 1, 0⟩
  | _ => none

/-- The filters a PCNT_FILT value enables: a class or colour mask that leaves something out is enabled. -/
def filtsOn (f : Nat) : Nat :=
  b2n (f.testBit 30) + b2n (fld f 23 16 != 0xFF) * 2 + b2n (f.testBit 31) * 4 + b2n (fld f 15 13 != 7) * 8

/-- A selection of block `b` that counts (R408, R409): the event is listed for the window, with its mode, and the
filters are those the event takes. -/
def pcntOk (b sel filt : Nat) : Bool :=
  let ev := fld sel 9 0
  let level := sel.testBit 30
  let on := filtsOn filt
  if 0x3C0 ≤ ev ∧ (ev < 0x3E0 ∨ ev = 0x3FF) then !level && on == 0
  else match cntRow ev with
  | some r => r.win == windowOf b && r.level == level && on &&& r.filts == on && on &&& r.needs == r.needs
  | none => false

/-- What a frame event is filtered by: port, class, channel and colour. -/
structure CntKey where
  port   : Nat
  cls    : Nat
  chan   : Option Nat
  colour : Nat
  deriving DecidableEq, Repr

/-- A frame passes a filter (R409). -/
def passes (f : Nat) (k : CntKey) : Bool :=
  (!f.testBit 30 || fld f 29 24 == k.port) && (fld f 23 16).testBit k.cls && (fld f 15 13).testBit k.colour
    && (!f.testBit 31 ||
        (match k.chan with
         | some c => fld f 47 32 ≤ c && c ≤ fld f 63 48
         | none => false))

/-- Adds to counter `n` of a header, wrapping into PCNT_OVF (R410). -/
def bumpPcnt (n d : Nat) (h : Hdr) : Hdr :=
  let c := h.pcnt.get Pcnt.reset n
  let v := c.count + d
  { h with pcnt := h.pcnt.set n { c with count := v % 2 ^ 48 },
           pcntOvf := if 2 ^ 48 ≤ v then setBit h.pcntOvf n else h.pcntOvf }

/-- Adds `d` to each of a header's counters that count event `ev` and pass. -/
def countHdr (b ev d : Nat) (k : CntKey) (h : Hdr) : Hdr :=
  h.pcnt.foldl (fun a e =>
    let c := e.2
    if c.sel.testBit 31 && fld c.sel 9 0 == ev && pcntOk b c.sel c.filt && passes c.filt k then bumpPcnt e.1 d a else a) h

/-- TRACE is ready, so that counters count (R407). -/
def counting (s : State) : Bool := blkRun s bTRACE

/-- An occurrence or a number of bytes is counted in the window of block `b`. -/
def count (b ev d : Nat) (k : CntKey) (s : State) : State :=
  if counting s && (hdr s b).pcnt.any (fun e => fld e.2.sel 9 0 == ev) then modHdr b (countHdr b ev d k) s else s

/-- An event without filters. -/
def noKey : CntKey := ⟨0, 0, none, 0⟩

/-- The classes of a mask. -/
def classesOf (m : Nat) : List Nat := (List.range 8).filter (fun c => m.testBit c)

/-- The level of an L event (Table CT-1) under a filter. -/
def levelOf (s : State) (b ev f : Nat) : Nat :=
  let p := b - 0x20
  let port := fld f 29 24
  let cs := classesOf (fld f 23 16)
  let ports := if f.testBit 30 then [port] else List.range 64
  match ev with
  | 0x006 => cs.foldl (fun a c => a + (outQ s p c).depth) 0
  | 0x007 => b2n (cs.any (fun c => pausedBy s p c || !creditOk s p c (portMtu s p)))
  | 0x008 => b2n (portSched s p).tx.isSome
  | 0x022 => s.core.missQ.length
  | 0x032 => sharedUsed s
  | 0x033 => cs.foldl (fun a c => a + (inAcct s port c).use) 0
  | 0x034 => b2n (ports.any (fun q => cs.any (fun c => asserted s q c)))
  | 0x040 => b2n (cs.any (fun c => (gatesNow s port).testBit c))
  | _ => 0

/-- What a header's counters add in `n` core cycles: CYCLES, and levels above their thresholds (R408). -/
def cycleHdr (s : State) (b n : Nat) (h : Hdr) : Hdr :=
  h.pcnt.foldl (fun a e =>
    let c := e.2
    let ev := fld c.sel 9 0
    if c.sel.testBit 31 && pcntOk b c.sel c.filt
        && (ev == 0x3FF || (c.sel.testBit 30 && decide (fld c.sel 28 10 < levelOf s b ev c.filt))) then bumpPcnt e.1 n a
    else a) h

/-- `n` core cycles pass: CYCLE, and the counters that count core cycles. -/
def coreTime (n : Nat) (s : State) : State :=
  let s1 := { s with cycle := (s.cycle + n) % 2 ^ 64 }
  if counting s then
    { s1 with hdrs := s.hdrs.map (fun e => (e.1, if e.2.pcnt.isEmpty then e.2 else cycleHdr s e.1 n e.2)) }
  else s1

end Sys2Proof.Machine
end

