-- ==== Sys2Proof/Machine/Flags.lean ====
section
/-! DEFINITION. The status flags: the ready words (R23, R24, R351, Table AR-7), interrupt pending conditions (R355 to
R357) and what is reported when they change. -/

namespace Sys2Proof.Machine

/-! ## READY_0 (Table AR-7): each bit is its function's own condition and its prerequisites -/

/-- Bit 0. -/
def rKeepCmd (s : State) : Bool := s.keep.cmdService && blkRun s bKEEP
/-- Bit 1: a valid calibration copy is loaded (R368). -/
def rBootCal (s : State) : Bool := rKeepCmd s && blkRun s bBOOT && s.boot.calRead && (s.boot.cal0 || s.boot.cal1)
/-- Bit 2. -/
def rHostPcie (s : State) : Bool := s.host.pcieUp && blkRun s bHOST
/-- Bit 3. -/
def rHostSpi (s : State) : Bool := s.host.spiServed && blkRun s bHOST
/-- Bit 4. -/
def rStore (s : State) : Bool := rKeepCmd s && s.storeTrained && blkRun s bSTORE
/-- Bit 5: a time PLL is locked and in service (R163). -/
def rTimePll (s : State) : Bool :=
  !s.clk.csynStopped && blkRun s bCSYN && (if s.clk.timeServing = 0 then s.clk.lockA else s.clk.lockB)
/-- Bit 6: the core runs from the core PLL (R24). -/
def rCorePll (s : State) : Bool := blkRun s bCSYN && s.clk.coreLock && s.clk.coreSource == 0
/-- Bit 12. -/
def rTic (s : State) : Bool := rTimePll s && blkRun s bTIC
/-- Bit 7. -/
def rRefs (s : State) : Bool := rTic s && blkRun s bREFS
/-- Bit 8. -/
def rGuhRun (s : State) : Bool := rTimePll s && blkRun s bGUH
/-- Bit 9. -/
def rGuhLocked (s : State) : Bool := rGuhRun s && rRefs s && s.guh.state == .locked
/-- Bit 10. -/
def rGuhCal (s : State) : Bool := rGuhRun s && rBootCal s
/-- Bit 11. -/
def rShaft (s : State) : Bool := rGuhRun s && blkRun s bSHAFT
/-- Bit 13. -/
def rPair (s : State) : Bool := rKeepCmd s && blkRun s bPAIR
/-- Bit 15. -/
def rLkp (s : State) : Bool := blkRun s bLKP
/-- Bit 16. -/
def rBuf (s : State) : Bool := blkRun s bBUF
/-- Bit 17. -/
def rSched (s : State) : Bool := blkRun s bSCHED
/-- Bit 14. -/
def rCore (s : State) : Bool :=
  rLkp s && rBuf s && rSched s && (rCorePll s || rTimePll s) && blkRun s bCORE
/-- Bit 18. -/
def rTrace (s : State) : Bool := blkRun s bTRACE
/-- Bit 19. -/
def rHlth (s : State) : Bool := rKeepCmd s && blkRun s bHLTH

/-- Bit `n` of READY_0. -/
def ready0Bit (s : State) (n : Nat) : Bool :=
  match n with
  | 0 => rKeepCmd s
  | 1 => rBootCal s
  | 2 => rHostPcie s
  | 3 => rHostSpi s
  | 4 => rStore s
  | 5 => rTimePll s
  | 6 => rCorePll s
  | 7 => rRefs s
  | 8 => rGuhRun s
  | 9 => rGuhLocked s
  | 10 => rGuhCal s
  | 11 => rShaft s
  | 12 => rTic s
  | 13 => rPair s
  | 14 => rCore s
  | 15 => rLkp s
  | 16 => rBuf s
  | 17 => rSched s
  | 18 => rTrace s
  | 19 => rHlth s
  | _ => false

/-- The prerequisites of Table AR-7 as numbers; bit 14 also needs bit 6 or bit 5. -/
def prereqs (n : Nat) : List Nat :=
  match n with
  | 1 => [0]
  | 4 => [0]
  | 7 => [12]
  | 8 => [5]
  | 9 => [8, 7]
  | 10 => [8, 1]
  | 11 => [8]
  | 12 => [5]
  | 13 => [0]
  | 14 => [15, 16, 17]
  | 19 => [0]
  | _ => []

/-- A word with bit `i` set where `f i`, for `i` below `n`. -/
def packBits (n : Nat) (f : Nat → Bool) : Nat :=
  (List.range n).foldl (fun a i => a + b2n (f i) * 2 ^ i) 0

/-- READY_0. -/
def ready0 (s : State) : Nat := packBits 20 (ready0Bit s)

/-- Bit q of READY_1 (R31). -/
def quadReady (s : State) (q : Nat) : Bool := (quad s q).ready && blkRun s (bQ q)
/-- READY_1. -/
def ready1 (s : State) : Nat := packBits 16 (quadReady s)

/-- The owning block and event low byte of READY_CHANGED for bit `n` of READY_0. -/
def readyOwner (n : Nat) : Nat × Nat :=
  match n with
  | 0 => (bKEEP, 0x08)
  | 1 => (bBOOT, 0x01)
  | 2 => (bHOST, 0x01)
  | 3 => (bHOST, 0x01)
  | 4 => (bSTORE, 0x01)
  | 5 => (bCSYN, 0x08)
  | 6 => (bCSYN, 0x08)
  | 7 => (bREFS, 0x07)
  | 8 => (bGUH, 0x07)
  | 9 => (bGUH, 0x07)
  | 10 => (bGUH, 0x07)
  | 11 => (bSHAFT, 0x09)
  | 12 => (bTIC, 0x07)
  | 13 => (bPAIR, 0x01)
  | 14 => (bCORE, 0x01)
  | 15 => (bLKP, 0x01)
  | 16 => (bBUF, 0x01)
  | 17 => (bSCHED, 0x01)
  | 18 => (bTRACE, 0x01)
  | _ => (bHLTH, 0x01)

/-- Reports each change of a READY_0 bit among `ns` from what was last reported, by the owning block (R24). -/
def reportReadyBits (was now : Nat) : List Nat → State → State
  | [], s => s
  | n :: r, s =>
    reportReadyBits was now r
      (if was.testBit n != now.testBit n then
        report (readyOwner n).1 (readyOwner n).2 [w32 n, w32 (b2n (now.testBit n))] s
      else s)

/-- Reports each change of a READY_1 bit (Table LN-12). -/
def reportQuads (was now : Nat) : List Nat → State → State
  | [], s => s
  | q :: r, s =>
    reportQuads was now r
      (if was.testBit q != now.testBit q then report (bQ q) 0x01 [w32 (b2n (now.testBit q))] s else s)

/-- Reports every ready bit that differs from what was last reported. -/
def reportReady (s : State) : State :=
  let n0 := ready0 s
  let n1 := ready1 s
  let s := reportQuads s.told1 n1 (List.range 16) (reportReadyBits s.told n0 (List.range 20) s)
  { s with told := n0, told1 := n1 }

/-! ## Interrupts (R355 to R358) -/

/-- The interrupt pending condition of a header. -/
def Hdr.pending (h : Hdr) : Bool := h.intStatus &&& h.intEnable != 0

/-- INT_PENDING_k. -/
def intPending (s : State) (k : Nat) : Nat := packBits 32 (fun i => (hdr s (32 * k + i)).pending)

/-- INT_N is driven low (R357). -/
def intNLow (s : State) : Bool :=
  (List.range 3).any (fun k => intPending s k &&& s.host.intMask.get 0 k != 0)
    || (s.host.spiRplEn && !s.host.spiReplies.isEmpty) || (s.host.spiEvtEn && !s.host.spiEvents.isEmpty)

/-- Changes a header and signals its vector where the pending condition goes from false to true (R356). -/
def modHdrInt (b : Nat) (f : Hdr → Hdr) (s : State) : State :=
  let was := (hdr s b).pending
  let s := modHdr b f s
  if !was && (hdr s b).pending then signalVec b s else s

/-! ## Time passing (R106, R110) -/

/-- The number of 2^-16 ns after which Guhild seconds wrap (R106: 48-bit seconds). -/
def guhWrap : Nat := 2 ^ 48 * 1000000000 * 65536

/-- Core cycles of the harbour clock, 8 every 5 ticks, in the `n` ticks after tick `t` (R166). -/
def harbourCycles (t n : Nat) : Nat := 8 * (t + n) / 5 - 8 * t / 5

/-- `n` time ticks pass: the counter advances by 8 ns every 5 ticks while GUH_RUN is set, CYCLE by the cycles of the
harbour clock, or by an open number of core cycles. -/
def passTicks (n : Nat) (s : State) : State :=
  if n = 0 then s
  else
    let (c, s) := if s.clk.coreSource = 1 then (harbourCycles s.ticks n, s) else drawNat s
    coreTime c { s with
      ticks := s.ticks + n
      c5 := if rGuhRun s then (s.c5 + 524288 * n) % (5 * guhWrap) else s.c5
      guh := { s.guh with steppedNow := false } }

/-- Time passes up to the tick whose interval contains the instant `due` on the unwrapped counter (R128). -/
def passTo (due : Int) (s : State) : State := passTicks ((5 * due - s.c5).toNat / 524288) s

end Sys2Proof.Machine
end

