-- ==== Sys2Proof/Machine/Log.lean ====
section
/-! DEFINITION. The event log of the service record (R404, Tables HL-4 and HL-5): entries wait in Keeper SRAM until
LOG_APPEND writes them to flash. -/

namespace Sys2Proof.Machine

/-- CRC-16 of a log entry (Table HL-4). -/
def logCrc (l : List Byte) : Nat := crcMsb 16 0x1021 0xFFFF (byteBitsMsb l)

/-- POH: powered-on seconds, those of this start included (R404). -/
def pohNow (s : State) : Nat := (s.hlth.life.poh + s.ticks / 625000000) % 2 ^ 32

/-- The 32 bytes of a log entry (Table HL-4). -/
def logBytes (s : State) (typ blk unit : Nat) (data : List Byte) : List Byte :=
  let gsec := if s.guh.state = .locked then guhSec s else 0
  let d := (data ++ List.replicate 14 0).take 14
  let l := bytesBE 4 (pohNow s) ++ bytesBE 6 gsec ++ bytesBE 1 typ ++ bytesBE 1 blk ++ bytesBE 2 unit
    ++ bytesBE 2 s.hlth.life.logSeq ++ d
  l ++ bytesBE 2 (logCrc l)

/-- An entry joins the log; beyond 256 waiting, older entries are dropped and counted (R404). -/
def logEntry (typ blk unit : Nat) (data : List Byte) (s : State) : State :=
  let e := logBytes s typ blk unit data
  let h := s.hlth
  let full := decide (256 ≤ h.logWait.length)
  { s with hlth := { h with
    logWait := (if full then h.logWait.drop 1 else h.logWait) ++ [e]
    life := { h.life with
      logSeq := (h.life.logSeq + 1) % 65536
      logLost := if full then (h.life.logLost + 1) % 2 ^ 32 else h.life.logLost } } }

end Sys2Proof.Machine
end

