-- ==== Sys2Proof/Machine/Reinit.lean ====
section
/-! DEFINITION. What stopping or re-initialising a block does to its own hardware state (R341, R378, R268, R448): state
changes alone, so that raising a fault can call them. -/

namespace Sys2Proof.Machine

/-- A trunk enters DOWN (R62, R63, R73): credits and assemblies cleared, the link state reported. -/
def trunkDown (p : Nat) (s : State) : State :=
  let t := trunk s p
  let ended := t.link != .down
  let s := setTrunk p { Trunk.reset with
    rx := { TrunkRx.reset with
      alarm := t.rx.alarm, mtu := t.rx.mtu, farReq := t.rx.farReq, missing := t.rx.missing, errStuff := t.rx.errStuff,
      errTag := t.rx.errTag, errCw := t.rx.errCw, errSignal := t.rx.errSignal, errTunnel := t.rx.errTunnel },
    tx := { t.tx with words := [], mgmt := [], preReq := 0, postReq := 0 },
    flushed := !ended && t.flushed, time := { TrunkTime.reset with outliers := t.time.outliers } } s
  let s := if t.time.timeOk then report (bP p) 0x41 [0, 5] s else s
  if ended then report (bP p) 0x40 [0, w32 t.link.code] s else s

/-- The hardware of block `b` is to be re-initialised or stopped: what follows is carried through when the command
ends (`finish`). -/
def reinitBlock (b : Nat) (s : State) : State := { s with halts := s.halts ++ [b] }

/-- The hardware of the stopped block `b` is to be re-initialised while it stays OFF: 256 is added in the list. -/
def wipeBlock (b : Nat) (s : State) : State := { s with halts := s.halts ++ [b + 256] }

end Sys2Proof.Machine
end

