-- ==== Sys2Proof/Machine/Faults.lean ====
section
/-! DEFINITION. Raising a fault as one shared operation (R373 to R382): the register updates of R374, the reaction
under R376, and the effects of Table FT-1, with FATAL (R306) and the stop of ISOPHASE (R382). -/

namespace Sys2Proof.Machine

/-- The reaction of source `i` of block `b`: the one set, or its default (R375). -/
def reaction (s : State) (b i : Nat) : Nat :=
  match (hdr s b).react.find i with
  | some r => r
  | none => match faultRow b (if isPortB b then portMode s (b - 0x20) else 0) i with
    | some r => r.2.1
    | none => 0

/-- The path on which the partner was heard last. -/
def lastHeard (s : State) : HbPath :=
  match s.pair.hb.at_, s.pair.trunk.at_ with
  | some a, some b => if a < b then s.pair.trunk else s.pair.hb
  | none, some _ => s.pair.trunk
  | _, _ => s.pair.hb

/-- A switchover in progress ends with SWITCHOVER_DONE: OK, or NOT_READY with what was last heard of the partner (R311). -/
def endSwitch (st : Nat) (s : State) : State :=
  if s.pair.switching.isNone then s
  else
    let v := lastHeard s
    completeWith 0x0D02 0 bPAIR 0x06
      (if st = stOk then [w32 st] else [w32 st, w32 v.role, w32 (b2n v.fatal), w32 v.epoch]) st
      { s with pair := { s.pair with switching := none } }

/-- FATAL sets (R306): the grant turns false and a unit in LISTENING, STANDBY or ACTIVE enters FAILED (Table PR-2). -/
def setFatal (s : State) : State :=
  let p := s.pair
  let s1 := { s with pair := { p with fatal := true, fatalCsyn := false, hbDirty := true, testing := false, conflict := false,
                                      grant := false } }
  let s2 := if p.grant then report bPAIR 0x05 [0] s1 else s1
  match p.state with
  | some .listening | some .standby | some .active =>
    let s3 := { s2 with pair := { s2.pair with state := some .failed, takeover := none } }
    endSwitch stNotReady (report bPAIR 0x02 [w32 4, w32 ((p.state.map PairRole.code).getD 0), w32 p.epoch, 7] s3)
  | _ => s2

/-- ISOPHASE stops, holding its level; the first cause is recorded (R382). -/
def stopIso (cause b i : Nat) (s : State) : State :=
  let o := s.iso
  if o.cause = 1 ∨ o.cause = 2 then { s with iso := { o with running := false } }
  else { s with iso := { o with running := false, cause := cause, stopBlock := b, stopIndex := i } }

/-- The effects of ALIVE_STOP beyond INTERRUPT (Table FT-1). -/
def aliveStop (b i : Nat) (s : State) : State :=
  setFatal (modHdr b (fun h => { h with stopFlag := true }) (stopIso 1 b i s))

/-- The effects of NMI beyond ALIVE_STOP: NMI_STATUS and NMI_N (R358), and the Keeper trap's entry in the service
record (R379). -/
def takeNmi (b i : Nat) (s : State) : State :=
  let h := s.host
  let s := match h.nmi with
    | some _ => { s with host := { h with nmiCount := min (h.nmiCount + 1) 255 } }
    | none => emit (.pin .nmiN false) { s with host := { h with nmi := some (b, i), nmiCount := 1 } }
  logEntry 4 b i (bytesBE 4 (rollNs s) ++ bytesBE 2 i)
    (modHdr b (fun x => { x with nmiTaken := true }) s)

/-- A pending COMMIT ends in COMMIT_DONE without being applied (R340): outcome 1 cancelled, 2 missed. -/
def commitEnded (outcome cause : Nat) (s : State) : State :=
  match s.keep.commit with
  | none => s
  | some c =>
    let s := dropTargets commitSlot
      { s with keep := { s.keep with commit := none }, guh := { s.guh with cmps := s.guh.cmps.del 60 } }
    completeWith 0x0006 0 bKEEP 0x03
      [w32 outcome, w32 c.mask, w32 (c.mask >>> 32), w32 (c.mask >>> 64), w32 (rollNs s), w32 cause] stNotReady s

/-- Cancels a pending COMMIT (R340). -/
def cancelCommit (cause : Nat) (s : State) : State := commitEnded 1 cause s

/-- The staged set of block `b` discarded: its parameters, and the lists of SCHED and the modifications of LKP (R338). -/
def dropStaged (b : Nat) (s : State) : State :=
  { s with
    staged := s.staged.filter (fun e => e.1 / 2 ^ 24 ≠ b)
    sched := if b = bSCHED then { s.sched with staged := [] } else s.sched
    core := if b = bLKP then { s.core with stagedMods := [] } else s.core }

/-- The BLOCK_RESET reaction (R378): the block enters FAULT, its staged set is discarded, a pending COMMIT that names
it is cancelled; BLOCK_REACHES_RUN ends the restart. -/
def blockResetReaction (b : Nat) (s : State) : State :=
  let named := match s.keep.commit with
    | some c => c.mask.testBit b
    | none => false
  let s := if named then cancelCommit 2 s else s
  reinitBlock b (modHdr b (fun h => { h with state := .fault }) (dropStaged b s))

/-- The first steps of a CHIP_RESET reaction (R377): ISOPHASE stops, FATAL sets, KEEP_LAST_FAULT is written; the reset
itself is the command CHIP_RESET, 20 µs later. -/
def chipResetReaction (b i : Nat) (s : State) : State :=
  let s := setFatal (stopIso 1 b i s)
  { s with aon := { s.aon with lastFault := some (b, i, rollNs s) },
           boot := { s.boot with resetDue := true } }

/-- Whether the reaction `r` of a fault is taken, under the block's reaction level (R376). -/
def reactionTaken (h : Hdr) (r : Nat) : Bool := h.first.isNone || decide (h.level < r)

/-- The one case taken in addition (R376): under a reaction level of BLOCK_RESET a later ALIVE_STOP or NMI still stops
the alive signal once while the stop flag is clear, and an NMI has its own effects once since the latch was set. -/
def takenBeyond (h : Hdr) (r : Nat) : Bool :=
  h.level == rBlockReset && (((r == rAliveStop || r == rNmi) && !h.stopFlag) || (r == rNmi && !h.nmiTaken))

/-- The event FAULT_RAISED, for a reaction of INTERRUPT or above (R374). -/
def reportFault (b i r : Nat) (injected : Bool) (s : State) : State :=
  if r = rRecord then s else report b 0xF0 [w32 i, w32 r, w32 (b2n injected)] s

/-- The effects of a later ALIVE_STOP or NMI beyond INTERRUPT, under a reaction level of BLOCK_RESET (R376). -/
def reactBeyond (b i r : Nat) (s : State) : State :=
  let nmi := r == rNmi && !(hdr s b).nmiTaken
  let s := if (hdr s b).stopFlag then s else aliveStop b i s
  if nmi then takeNmi b i s else s

/-- The effects of a reaction that is taken (Table FT-1). -/
def takeReaction (b i r : Nat) (s : State) : State :=
  let s := modHdr b (fun h => { h with level := r }) s
  let s := if r = rRecord then s
    else modHdrInt b (fun h => { h with intStatus := setBit h.intStatus i }) s
  match r with
  | 2 => aliveStop b i s
  | 3 => takeNmi b i (aliveStop b i s)
  | 4 => blockResetReaction b s
  | 5 => chipResetReaction b i s
  | _ => s

/-- The register updates of R374 for source `i` with reaction `r`. -/
def latchFault (ns i r : Nat) (h : Hdr) : Hdr :=
  let h := { h with fltStatus := setBit h.fltStatus i }
  match h.first with
  | none => { h with first := some ⟨i, r, ns⟩, level := 0, nmiTaken := false }
  | some _ => { h with ovf := true, ovfCount := min (h.ovfCount + 1) 255 }

/-- Whether the source has a row in its block's fault table. -/
def hasSource (s : State) (b i : Nat) : Bool :=
  (faultRow b (if isPortB b then portMode s (b - 0x20) else 0) i).isSome

/-- Source `i` of block `b` raises a fault (R374): the registers, and the reaction under R376; a fault whose reaction is
not taken updates only FLT_STATUS and FLT_OVF. -/
def raiseFault (b i : Nat) (injected : Bool) (s : State) : State :=
  if !hasSource s b i then s
  else
    let r := reaction s b i
    let h := hdr s b
    let ns := if rGuhRun s then rollNs s else 0
    let s := count b (0x3C0 + i) 1 noKey (modHdr b (latchFault ns i r) s)
    if reactionTaken h r then takeReaction b i r (reportFault b i r injected s)
    else if takenBeyond h r then reactBeyond b i r (reportFault b i r injected s)
    else s

/-- A condition begins (R373): CAUSE_ACTIVE sets, and a fault is raised unless the condition already lasted. -/
def beginCause (b i : Nat) (s : State) : State :=
  if (hdr s b).causeActive.testBit i then s
  else raiseFault b i false (modHdr b (fun h => { h with causeActive := setBit h.causeActive i }) s)

/-- An occurrence source raises a fault (R373). -/
def raise (b i : Nat) (s : State) : State := raiseFault b i false s

/-- A condition ends (R373). -/
def endCause (b i : Nat) (s : State) : State :=
  modHdr b (fun h => { h with causeActive := clrBit h.causeActive i }) s

end Sys2Proof.Machine
end

