-- ==== Sys2Proof/Machine/HostOps.lean ====
section
/-! DEFINITION. HOST: the PCIe link and the three rings (R323 to R325, R359 to R361), and the spacing of event
interrupts (R356). -/

namespace Sys2Proof.Machine

/-- Changes HOST. -/
def modHost (f : HostIf → HostIf) (s : State) : State := { s with host := f s.host }

/-- IDLE: no ring command outstanding and no completion owed. -/
def ringIdle (h : HostIf) : Bool := h.fetched.isEmpty && h.owed.isEmpty && h.orphans.isEmpty

/-- A refused index write sets ERR and raises RING_INDEX (R360). -/
def ringRefused (s : State) : State := raise bHOST 1 (modHost (fun h => { h with err := true }) s)

/-- An index within a ring and within the span from the current head to the device's tail (R360). -/
def spanOk (log2 head tail idx : Nat) : Bool :=
  let n := ringSize log2
  decide (idx < n) && decide ((idx + n - head) % n ≤ (tail + n - head) % n)

/-- CMD_DOORBELL: the tail last written (R323, R360). -/
def effCmdDoorbell (idx : Nat) (s : State) : State :=
  if !s.host.en || decide (ringSize s.host.cmdLog2 ≤ idx) then ringRefused s
  else modHost (fun h => { h with doorbell := idx }) s

/-- CPL_HEAD: software releases completion entries, and completions that were kept are written (R324, R360). -/
def effCplHead (idx : Nat) (s : State) : State :=
  if !s.host.en || !spanOk s.host.cplLog2 s.host.cplHead s.host.cplTail idx then ringRefused s
  else drainOwed s.host.owed.length (modHost (fun h => { h with cplHead := idx }) s)

/-- EVT_HEAD: software releases event entries; EVENT_LOST tells what was lost while the ring was full (R325, R360). -/
def effEvtHead (idx : Nat) (s : State) : State :=
  if !s.host.en || !spanOk s.host.evtLog2 s.host.evtHead s.host.evtTail idx then ringRefused s
  else
    let lost := s.host.ringLost
    let s := modHost (fun h => { h with evtHead := idx }) s
    if lost && !evtFull s then report bKEEP 0x06 [0, w32 s.keep.evtLost] s else s

/-- A LOG2 field takes a value from 4 to 12 (R323). -/
def takeLog2 (old v : Nat) : Nat := if 4 ≤ v ∧ v ≤ 12 then v else old

/-- A write to RING_CTRL (R359). -/
def ringCtrlWrite (v : Nat) (s : State) : State :=
  let free := !s.host.en && ringIdle s.host
  let s := if free then modHost (fun h => { h with
      cmdLog2 := takeLog2 h.cmdLog2 (fld v 11 8), cplLog2 := takeLog2 h.cplLog2 (fld v 7 4),
      evtLog2 := takeLog2 h.evtLog2 (fld v 3 0) }) s else s
  if v.testBit 31 then
    modHost (fun h => { h with
      en := true, doorbell := 0, cmdHead := 0, cplTail := 0, cplHead := 0, evtTail := 0, evtHead := 0,
      cplPhase := true, evtPhase := true }) s
  else modHost (fun h => { h with en := false, err := false }) s

/-- RING_ENABLE (R359). -/
def effRingEnable (v : Word) (s : State) : State := ringCtrlWrite v.toNat s
/-- RING_DISABLE (R359). -/
def effRingDisable (v : Word) (s : State) : State := ringCtrlWrite v.toNat s

/-- The PCIe link leaves L0 (R361): EN clears, and completions of commands fetched or owed are discarded. -/
def pcieDown (s : State) : State :=
  if !s.host.pcieUp then s
  else
    let owed := s.host.owed.length
    let s := modHost (fun h => { h with
      pcieUp := false, gen := 0, width := 0, en := false, orphans := h.orphans ++ h.fetched, fetched := [], owed := [] }) s
    let s := { s with keep := { s.keep with cmdDiscarded := (s.keep.cmdDiscarded + owed) % 2 ^ 32 } }
    raise bHOST 0 (report bHOST 0x02 [0, 0] s)

/-- PCIE_LINK_DOWN. -/
def effPcieLinkDown (s : State) : State := pcieDown s

/-- PCIE_LINK_UP (R365, R432): the link reaches L0; PERST_N must be high and the device out of reset. -/
def effPcieLinkUp (gen width : Nat) (s : State) : State :=
  if s.host.pcieUp || s.host.perstLow || s.boot.phase == .heldInReset then s
  else
    let s := modHost (fun h => { h with pcieUp := true, gen := gen % 8, width := width % 8, training := false }) s
    let s := endCause bCSYN 7 { s with clk := { s.clk with pcieLock := true } }
    report bHOST 0x02 [w32 (gen % 8), w32 (width % 8)] (endCause bHOST 0 s)

/-- PERST_N_LOW (R432): the PCIe function is in reset. -/
def effPerstNLow (s : State) : State :=
  pcieDown (modHost (fun h => { h with perstLow := true, training := false }) s)

/-- PERST_N_RISE (R432): the link trains anew. -/
def effPerstNRise (s : State) : State := modHost (fun h => { h with perstLow := false, training := h.perstLow || h.training }) s

/-- EVT_MOD_EXPIRY (R356): the event message that was held back is sent. -/
def effEvtModExpiry (b : Nat) (s : State) : State :=
  if !(hdr s b).evtTimer then s
  else if (hdr s b).evtHeld then signalVec b (modHdr b (fun h => { h with evtHeld := false }) s)
  else modHdr b (fun h => { h with evtTimer := false }) s

end Sys2Proof.Machine
end

