-- ==== Sys2Proof/Machine/Governor.lean ====
section
/-! DEFINITION. The power governor (R390 to R392): requests, grants, pacing and releases. -/

namespace Sys2Proof.Machine

/-- Changes the governor. -/
def modGov (f : Gov → Gov) (s : State) : State := { s with hlth := { s.hlth with gov := f s.hlth.gov } }

/-- The slice grant of a testable unit, core and time in mA (Table HL-2). -/
def sliceSteps (b unit : Nat) : Nat × Nat :=
  if isQuadB b then (if unit ≤ 3 then (120, 0) else (0, 0))
  else if b = bCSYN then (if unit = 0 then (50, 300) else (0, 50))
  else if b = bTIC then (0, 50)
  else if b = bBUF then (600, 0)
  else if b = bLKP then (800, 0)
  else if b = bKEEP then (200, 0)
  else (0, 0)

/-- Priority, requesting block and steps of an operation (Table HL-1). -/
def govNeeds (s : State) : GovKind → Nat × Nat × Nat × Nat
  | .plannerBurst => (0, bSHAFT, 1500, 0)
  | .laneAdapt l => (1, bQ (l / 4), 120, 0)
  | .spareTrain l => (1, bQ (l / 4), 120, 0)
  | .timePllSwap => (1, bCSYN, 50, 300)
  | .lineSwap _ => (1, bCSYN, 0, 50)
  | .interpSwap _ => (1, bTIC, 0, 50)
  | .tableLoad => (2, bLKP, 800, 0)
  | .tableCopy _ => (2, bLKP, 800, 0)
  | .bankScrub => (3, bBUF, 400, 0)
  | .bistSlice b =>
    let st := sliceSteps b ((s.hlth.bist.find b).map (·.unit) |>.getD 0)
    (4, b, st.1, st.2)

/-- The sum of the steps outstanding on VDD_CORE. -/
def coreInUse (s : State) : Nat := (s.hlth.gov.grants.map (fun g => if g.coreIn then g.core else 0)).foldl (· + ·) 0
/-- The sum of the steps outstanding on VDD_TIME. -/
def timeInUse (s : State) : Nat := (s.hlth.gov.grants.map (fun g => if g.timeIn then g.time else 0)).foldl (· + ·) 0

/-- Inserts a request behind those of its priority and higher (R390). -/
def enqueueReq (r : GovReq) : List GovReq → List GovReq
  | [] => [r]
  | q :: l => if r.prio < q.prio then r :: q :: l else q :: enqueueReq r l

/-- What a request met (R391). -/
inductive GovAnswer where
  | queued
  | full
  | tooLarge
  deriving DecidableEq, Repr

/-- Submits a request (R391): larger than a headroom, or the queue full, it is not taken. -/
def govRequest (k : GovKind) (s : State) : GovAnswer × State :=
  let n := govNeeds s k
  if parN s bHLTH 0 Par.hlGovCoreHeadroom < n.2.2.1 ∨ parN s bHLTH 0 Par.hlGovTimeHeadroom < n.2.2.2 then (.tooLarge, s)
  else if 64 ≤ s.hlth.gov.queue.length then (.full, s)
  else
    let r : GovReq := { id := s.hlth.gov.next, kind := k, prio := n.1, block := n.2.1, core := n.2.2.1,
                        time := n.2.2.2, coreIn := false, timeIn := false, ending := false, starved := false }
    (.queued, modGov (fun g => { g with next := g.next + 1, queue := enqueueReq r g.queue }) s)

/-- An operation's request is queued. -/
def govWaiting (s : State) (k : GovKind) : Bool := s.hlth.gov.queue.any (fun r => r.kind == k)
/-- An operation holds its grant and has not ended. -/
def govGranted (s : State) (k : GovKind) : Bool := s.hlth.gov.grants.any (fun r => r.kind == k && !r.ending)

/-- The operation of a grant has ended: its ramp-outs run; a grant with no step left ends at once (R390). -/
def govEnd (k : GovKind) (s : State) : State :=
  let mark := fun (r : GovReq) => if r.kind = k then { r with ending := true } else r
  modGov (fun g => { g with grants := (g.grants.map mark).filter (fun r => !(r.ending && !r.coreIn && !r.timeIn)) }) s

/-- Withdraws a queued request of an operation, or ends its grant. -/
def govCancel (k : GovKind) (s : State) : State :=
  govEnd k (modGov (fun g => { g with queue := g.queue.filter (fun r => r.kind ≠ k) }) s)

/-- A supply paces a request with a step on it until step / GOV_RAMP after its last grant or release (R390), in time
ticks of 1.6 ns. -/
def paceTick (s : State) (p : Option GovPace) (step : Nat) : Nat :=
  match p with
  | none => 0
  | some p =>
    if step = 0 then 0
    else
      let ramp := parN s bHLTH 0 Par.hlGovRamp
      p.tick + (p.step * 625 + ramp - 1) / ramp

/-- The head request fits both headrooms (R390). -/
def govFits (s : State) (r : GovReq) : Bool :=
  decide (r.core + coreInUse s ≤ parN s bHLTH 0 Par.hlGovCoreHeadroom)
    && decide (r.time + timeInUse s ≤ parN s bHLTH 0 Par.hlGovTimeHeadroom)

/-- CTLE_PEAK where CTLE_MODE = FIXED: the one peak that an adaptation which starts now tries (R32, R41). -/
def peakFixed (s : State) (l : Nat) : Option Nat :=
  let g := parN s (bQ (l / 4)) (l % 4)
  if g Par.lnCtleMode = 1 then some (g Par.lnCtlePeak) else none

/-- What a grant starts at once; an operation whose owner has gone ends its grant. -/
def govStart (k : GovKind) (s : State) : State :=
  match k with
  | .laneAdapt l =>
    if (lane s l).adapt = .waitGrant then
      let g := peakFixed s l
      modLane l (fun x => { x with adapt := .running, peakGiven := g }) s
    else govEnd k s
  | .spareTrain l =>
    if (lane s l).spare = .waitGrant then
      let g := peakFixed s l
      modLane l (fun x => { x with spare := .training, sparePeak := g }) s
    else govEnd k s
  | .tableLoad =>
    { s with core := { s.core with loads := s.core.loads.map (fun l => { l with granted := true }) } }
  | .plannerBurst => { s with shaft := { s.shaft with burst := false } }
  | .bankScrub => { s with buf := { s.buf with scrubWait := false } }
  | .bistSlice b =>
    match s.hlth.bist.find b with
    | some t => { s with hlth := { s.hlth with bist := s.hlth.bist.set b { t with inSlice := true } } }
    | none => govEnd k s
  | _ => s

/-- A later slice of a self-test whose request found the queue full is requested again. -/
def retrySlices (s : State) : State :=
  s.hlth.bist.foldl (fun s e =>
    if e.2.inSlice ∨ govWaiting s (.bistSlice e.1) then s else (govRequest (.bistSlice e.1) s).2) s

/-- GOVERNOR_GRANT (R390, R391): the head of the queue, if it fits, once its supplies' pacing has passed. -/
def effGovernorGrant (s : State) : State :=
  match s.hlth.gov.queue with
  | [] => s
  | r :: rest =>
    if !govFits s r then s
    else
      let due := max (paceTick s s.hlth.gov.core r.core) (paceTick s s.hlth.gov.time r.time)
      let s := passTicks (due - s.ticks) s
      let now := s.ticks
      let r := { r with coreIn := r.core != 0, timeIn := r.time != 0 }
      retrySlices <| govStart r.kind (modGov (fun g => { g with
        queue := rest
        grants := g.grants ++ [r]
        core := if r.core = 0 then g.core else some ⟨now, r.core⟩
        time := if r.time = 0 then g.time else some ⟨now, r.time⟩ }) s)

/-- GOVERNOR_RELEASE (R390): the next ramp-out of an ended operation ends, the smaller step first; the grant ends with
the last. -/
def effGovernorRelease (id : Nat) (s : State) : State :=
  match s.hlth.gov.grants.find? (fun r => r.id == id && r.ending) with
  | none => s
  | some r =>
    let onCore := r.coreIn && (!r.timeIn || decide (r.core ≤ r.time))
    let r' := if onCore then { r with coreIn := false } else { r with timeIn := false }
    let now := s.ticks
    modGov (fun g => { g with
      grants := (g.grants.map (fun x => if x.id = id then r' else x)).filter (fun x => !(x.ending && !x.coreIn && !x.timeIn))
      core := if onCore then some ⟨now, r.core⟩ else g.core
      time := if onCore then g.time else some ⟨now, r.time⟩ }) s

/-- The oldest request not yet told starved. -/
def oldestWaiting : List GovReq → Option GovReq
  | [] => none
  | r :: l =>
    match oldestWaiting l with
    | none => if r.starved then none else some r
    | some q => if r.starved then some q else if r.id < q.id then some r else some q

/-- GRANT_STARVED (R391): raised once for a request, which keeps its place. -/
def effGrantStarved (s : State) : State :=
  match oldestWaiting s.hlth.gov.queue with
  | none => s
  | some r =>
    raise bHLTH 2 (modGov (fun g => { g with
      queue := g.queue.map (fun x => if x.id = r.id then { x with starved := true } else x)
      starves := (g.starves + 1) % 2 ^ 16 }) s)

/-- One word of POWER_BUDGET (R392). -/
def govWord (granted : Bool) (r : GovReq) : Word :=
  w32 (b2n granted * 2 ^ 31 + r.prio * 2 ^ 28 + r.block * 2 ^ 20 + r.core % 2 ^ 11 * 2 ^ 9 + r.time % 2 ^ 9)

/-- POWER_BUDGET (R392). -/
def bodyPowerBudget (s : State) : Resp :=
  let g := s.hlth.gov
  okWith ([w32 (parN s bHLTH 0 Par.hlGovCoreHeadroom * 65536 + coreInUse s),
           w32 (parN s bHLTH 0 Par.hlGovTimeHeadroom * 65536 + timeInUse s),
           w32 (min g.queue.length 255 * 2 ^ 24 + min g.grants.length 255 * 2 ^ 16 + g.starves)]
    ++ g.grants.map (govWord true) ++ g.queue.map (govWord false)) s

end Sys2Proof.Machine
end

