-- ==== Sys2Proof/Machine/Cmp.lean ====
section
/-! DEFINITION. The privileged comparators (R126 to R128, Table GT-7). -/

namespace Sys2Proof.Machine

/-- The counter at the start of the next tick. -/
def nextTick (s : State) : Int := ((s.c5 + 524288 + 2) / 5 : Nat)

/-- A target loaded now is not ahead (R127): by signed 32-bit difference of the nanosecond fields where that can express
its distance. -/
def targetLate (s : State) (due : Int) : Bool :=
  let d := due - (units s : Int)
  if d.natAbs < 2 ^ 31 * 65536 then decide (nsAhead s (wrapN 48 due) ≤ 0) else decide (d ≤ 0)

/-- Arms comparator `k` for an instant on the unwrapped counter; a target not ahead fires in the next tick, flagged
LATE (R127). -/
def armAt (k : Nat) (due : Int) (s : State) : State :=
  let late := targetLate s due
  let a : Armed := { target := wrapN 48 due, due := due, late := late, fires := if late then nextTick s else due }
  { s with guh := { s.guh with cmps := s.guh.cmps.set k a } }

/-- Arms comparator `k` for rolling time `t`. -/
def arm (k t : Nat) (s : State) : State := armAt k (dueOf s t) s

/-- Withdraws the target of comparator `k`. -/
def disarm (k : Nat) (s : State) : State := { s with guh := { s.guh with cmps := s.guh.cmps.del k } }

/-- 2 time ticks in 2^-16 ns, rounded up: after a firing a comparator accepts its next target so much later (R128). -/
abbrev rearmGap : Int := 209716

/-- Comparator `k` fires (R128): in the tick that contains its target, or in the first tick in which it is armed where
that is less than 3.2 ns after its previous firing, which raises CMP_OVERRUN.  The command says that the tick has come,
so the time up to it passes; the answer's `fires` is the instant of the firing. -/
def fireCmp (k : Nat) (s : State) : Option Armed × State :=
  match s.guh.cmps.find k with
  | none => (none, s)
  | some a =>
    let soon := match s.guh.lastFire.find k with
      | some f => decide (5 * (a.fires - f) < 5 * 3 * 65536 + 65536)
      | none => false
    let t := if soon then (s.guh.lastFire.get 0 k) + rearmGap else a.fires
    let s := passTo t s
    let s := { s with guh := { s.guh with cmps := s.guh.cmps.del k, lastFire := s.guh.lastFire.set k t } }
    (some { a with fires := t }, if soon then raise bGUH 3 s else s)

end Sys2Proof.Machine
end

