-- ==== Sys2Proof/Machine/Dpll.lean ====
section
/-! DEFINITION. The DPLLs of REFS: how a steered output moves and is clamped (R170), what a sample does to it (R149), and
its mean over a window (R139). -/

namespace Sys2Proof.Machine

/-- Changes REFS. -/
def modRefs (f : Refs → Refs) (s : State) : State := { s with refs := f s.refs }
/-- Selector `i`: 0 main, 1 AUX0, 2 AUX1. -/
def selOf (s : State) (i : Nat) : Selector := s.refs.sels.get Selector.reset i
/-- Changes selector `i`. -/
def modSel (i : Nat) (f : Selector → Selector) (s : State) : State :=
  modRefs (fun r => { r with sels := r.sels.set i (f (r.sels.get Selector.reset i)) }) s

/-- 100 ppm in 2^-48, rounded down: the clamp of every DPLL output (R170). -/
abbrev clampLimit : Int := 28147497671

/-- A DPLL output clamped to ±100 ppm (R170). -/
def clampOut (f : Int) : Int := max (-clampLimit) (min clampLimit f)

/-- How far an output moves in `n` time ticks of 1.6 ns at a SLEW_LIMIT of `lim` × 0.01 ppm/s (R170), rounded down. -/
def slewSpan (lim n : Nat) : Int := (lim * n * 2 ^ 48 / (10 ^ 8 * 625000000) : Nat)

/-- The output of a DPLL at tick `t` (R170). -/
def Dpll.at (lim t : Nat) (d : Dpll) : Int :=
  d.out + max (-slewSpan lim (t - d.since)) (min (slewSpan lim (t - d.since)) (d.goal - d.out))

/-- The tick at which a DPLL output reaches its goal. -/
def Dpll.reaches (lim : Nat) (d : Dpll) : Nat :=
  d.since + ((d.goal - d.out).natAbs * (10 ^ 8 * 625000000) + lim * 2 ^ 48 - 1) / (lim * 2 ^ 48)

/-- The bends of the output's course up to tick `t`, the newest first. -/
def Dpll.bends (lim t : Nat) (d : Dpll) : List (Nat × Int) :=
  if d.reaches lim < t then [(t, d.at lim t), (d.reaches lim, d.goal)] else [(t, d.at lim t)]

/-- A course kept as far back as the longest monitor window of 10 s. -/
def keepTrail (t : Nat) : List (Nat × Int) → List (Nat × Int)
  | [] => []
  | p :: r => if 6250000000 < t - p.1 then [p] else p :: keepTrail t r

/-- The DPLL as it stands at tick `t`, its course kept. -/
def Dpll.anchor (lim t : Nat) (d : Dpll) : Dpll :=
  { d with out := d.at lim t, since := t, trail := keepTrail t (d.bends lim t ++ d.trail) }

/-- Twice the area under a course from tick `a` on, newest point first; before its first point the output is taken as
it was there. -/
def trailArea (a : Nat) : List (Nat × Int) → Int
  | [] => 0
  | [p] => 2 * p.2 * ((p.1 - a : Nat) : Int)
  | p :: q :: r =>
    if q.1 ≤ a then
      if p.1 ≤ a then 0
      else
        let v := q.2 + (p.2 - q.2) * ((a - q.1 : Nat) : Int) / ((p.1 - q.1 : Nat) : Int)
        (p.2 + v) * ((p.1 - a : Nat) : Int)
    else (p.2 + q.2) * ((p.1 - q.1 : Nat) : Int) + trailArea a (q :: r)

/-- SLEW_LIMIT in effect. -/
def slewLimit (s : State) : Nat := parN s bCSYN 0xF0 Par.ckSlewLimit

/-- The output of DPLL `i` now. -/
def dpllNow (s : State) (i : Nat) : Int := (selOf s i).dpll.at (slewLimit s) s.ticks

/-- The mean output of DPLL `i` over the last `ms` milliseconds (R139). -/
def dpllMean (s : State) (i ms : Nat) : Int :=
  let n := min (ms * 625000) s.ticks
  let d := (selOf s i).dpll
  if n = 0 then dpllNow s i
  else trailArea (s.ticks - n) (d.bends (slewLimit s) s.ticks ++ (d.since, d.out) :: d.trail) / (2 * (n : Int))

/-- Steers DPLL `i` from where its output now is. -/
def steer (i : Nat) (f : Dpll → Dpll) (s : State) : State :=
  modSel i (fun x => { x with dpll := f (x.dpll.anchor (slewLimit s) s.ticks) }) s

/-- A DPLL output moves at the slew limit to a frequency. -/
def goTo (i : Nat) (f : Int) (s : State) : State := steer i (fun d => { d with goal := clampOut f }) s

/-- The proportional path is reset and the integrator kept (R118, R148); a DPLL that holds stays where it holds. -/
def propReset (i : Nat) (s : State) : State :=
  if (selOf s i).hold then s else steer i (fun d => { d with prop := 0, goal := clampOut d.int }) s

/-- The local oscillator is plant master: the main DPLL output is 0 (R149). -/
def steerZero (i : Nat) (s : State) : State := steer i (fun d => { d with goal := 0, int := 0, prop := 0 }) s

/-- A sample goes to DPLL `i`.  The spec gives the loop by its bandwidth and peaking only (R149), so integrator and
proportional path take open values, and the output moves to their sum.  A DPLL that holds takes no sample; with the local
oscillator as plant master the output is 0. -/
def toDpll (i : Nat) (s : State) : State :=
  let x := selOf s i
  if x.hold then s
  else if x.sel = 0xFE then steerZero i s
  else
    let a := drawInt s
    let b := drawInt a.2
    steer i (fun d => { d with int := a.1, prop := b.1, goal := clampOut (a.1 + b.1) }) b.2

/-- Bit i set: the output of DPLL `i` (0 main, 1 AUX0, 2 AUX1) is held at the clamp (R170). -/
def clampMask (s : State) : Nat := packBits 3 (fun i => decide ((dpllNow s i).natAbs = clampLimit.natAbs))

/-- CLAMPED and DPLL_CLAMP follow the outputs (R170). -/
def reviewClamp (s : State) : State :=
  if clampMask s = s.clk.clamped then s
  else
    let m := clampMask s
    let s := { s with clk := { s.clk with clamped := m } }
    if m = 0 then endCause bCSYN 9 s else beginCause bCSYN 9 s

/-- SLEW_LIMIT has changed from `old`: the outputs have moved so far at the old limit (R170). -/
def slewChanged (old : Int) (s : State) : State :=
  [0, 1, 2].foldl (fun s i => modSel i (fun x => { x with dpll := x.dpll.anchor old.toNat s.ticks }) s) s

/-- DPLL `i` tracks again after holding: it goes on from the frequency held. -/
def endHold (i : Nat) (s : State) : State :=
  let s := modSel i (fun x => { x with hold := false }) s
  if (selOf s i).sel = 0xFE then steerZero i s
  else steer i (fun d => { d with int := d.out, prop := 0, goal := d.out }) s

end Sys2Proof.Machine
end

