-- ==== Sys2Proof/Machine/Outputs.lean ====
section
/-! DEFINITION. Clock outputs and pulse outputs (chapter 07, R171 to R181, R449). -/

namespace Sys2Proof.Machine

/-- Clock output `o`. -/
def clkOut (s : State) (o : Nat) : ClkOut := s.clk.outs.get ClkOut.reset o
/-- Changes clock output `o`. -/
def modOut (o : Nat) (f : ClkOut → ClkOut) (s : State) : State :=
  { s with clk := { s.clk with outs := s.clk.outs.set o (f (clkOut s o)) } }
/-- Pulse output `n`. -/
def pulse (s : State) (n : Nat) : PulseOut := s.clk.pulses.get PulseOut.reset n
/-- Changes pulse output `n`. -/
def modPulse (n : Nat) (f : PulseOut → PulseOut) (s : State) : State :=
  { s with clk := { s.clk with pulses := s.clk.pulses.set n (f (pulse s n)) } }

/-- Nanoseconds in 2^-16 ns. -/
def nsU (n : Nat) : Int := (n * 65536 : Nat)

/-- A duration in whole ps, rounded to the nearest. -/
def toPs (d : Int) : Int := roundDiv (d * 1000) 65536

/-- ps in 2^-16 ns, rounded to the nearest. -/
def ofPs (d : Int) : Int := roundDiv (d * 65536) 1000

/-- The last counted edge of REF_INk on the unwrapped counter. -/
def refEdgeAt (s : State) (k : Nat) : Int := ((s.refs.cands.get Cand.reset k).edge).getD 0

/-- The input edge that a schedule aligned to `align` is counted from (R172, R178): the newest of REF_INk as the settings
take effect, or Guhild time 0. -/
def alignEdge (s : State) (align : Nat) : Int := if 1 ≤ align ∧ align ≤ 12 then refEdgeAt s (align - 1) else 0

/-- The first instant of a schedule later than `t`. -/
def schedNext (base per t : Int) : Int := base + ((t - base) / per + 1) * per

/-- Timing outputs are held low: no time PLL locked, or Standby Light mode (R181). -/
def dark (s : State) : Bool := !rTimePll s || s.boot.phase == .standbyLight

/-! ## Pulse outputs -/

/-- PULSE_CLAIMED in effect. -/
def pulseClaimed (s : State) (n : Nat) : Bool := par s bCSYN (0x20 + n) Par.ckPulseClaimed == 1

/-- A claimed output that a switchover in progress has released (R311). -/
def switchReleased (s : State) (n : Nat) : Bool :=
  match s.pair.switching with
  | some w => !w.outs.contains n
  | none => false

/-- The level driven at a pulse pin, none where it is released to its bus keeper (R163, R179, R181, R308, R311); until
software configures it a pin is released (R420), but low in Standby Light mode (R181). -/
def pulsePin (s : State) (n : Nat) : Option Bool :=
  let p := pulse s n
  let e := p.held.getD p.set
  if p.configured && pulseClaimed s n then
    if dark s || !s.pair.grant || switchReleased s n then none
    else some (if e.mode = 0 then false else p.high != e.polarity)
  else if s.boot.phase = .standbyLight then some false
  else if !p.configured then none
  else if dark s then some false
  else some (if e.mode = 0 then false else p.high != e.polarity)

/-- Drives a pulse pin where its level or its release has changed. -/
def drivePulse (n : Nat) (s : State) : State :=
  let v := pulsePin s n
  if (pulse s n).pin = v then s
  else
    let s := modPulse n (fun p => { p with pin := v }) s
    match v with
    | some l => emit (.pin (.pulse n) l) s
    | none => emit (.release (.pulse n)) s

/-- Drives every pulse pin again. -/
def drivePulses (s : State) : State := (List.range 24).foldl (fun s n => drivePulse n s) s

/-- Every pulse pin is at the level it is to be driven at, or released. -/
def pinsSettled (s : State) : Bool := (List.range 24).all (fun n => (pulse s n).pin == pulsePin s n)

/-- 20 ns, the shortest phase of a pulse output. -/
abbrev pulseGap : Int := 20 * 65536

/-- What a pulse schedule's multiples of its period are added to (R172, R174, R178). -/
def pulseBase (s : State) (n : Nat) : Int :=
  (pulse s n).anchor + par s bCSYN (0x20 + n) Par.ckPulseOffset + (pulse s n).move

/-- The last rising edge fired, on the schedule as it now lies, or `t` where none has. -/
def lastEdge (edge : Option Int) (base t : Int) : Int := (edge.map (· + base)).getD t

/-- The first rising edge of a PERIODIC schedule after the last one fired and not before its floor; one less than 20 ns
after the last falling edge is dropped and reported (R179). -/
def pulseRise (n : Nat) (s : State) : Int × State :=
  let p := pulse s n
  let per := nsU p.set.period
  let base := pulseBase s n
  let t := max (units s : Int) (p.floor - 1)
  let r := schedNext base per (max t (lastEdge p.edge base t))
  match p.fall with
  | some f =>
    if r - f < pulseGap then (r + per, report bCSYN 0x07 ([w32 (0x20 + n)] ++ w64 (wrapN 48 r)) s) else (r, s)
  | none => (r, s)

/-- PULSE_DROPPED for each of some targets. -/
def pulseDropped (n : Nat) : List (Int × Option Nat) → State → State
  | [], s => s
  | q :: r, s => pulseDropped n r (report bCSYN 0x07 ([w32 (0x20 + n)] ++ w64 (wrapN 48 q.1)) s)

/-- Pairs that rise before the output's floor are dropped and reported (R180, R449). -/
def dropEarly (n : Nat) (s : State) : State :=
  let p := pulse s n
  let early := p.queue.filter (fun q => decide (q.1 < p.floor))
  if early.isEmpty then s
  else pulseDropped n early (modPulse n (fun p => { p with queue := p.queue.filter (fun q => !decide (q.1 < p.floor)) }) s)

/-- Loads the next edge of a pulse output into C28 + n. -/
def armPulse (n : Nat) (s : State) : State :=
  let p := pulse s n
  let e := p.held.getD p.set
  if !rGuhRun s then disarm (28 + n) s
  else if p.high then
    if e.mode = 1 ∨ e.mode = 2 then armAt (28 + n) (p.rise + nsU e.width) s else disarm (28 + n) s
  else if p.set.mode = 1 then
    let (r, s) := pulseRise n s
    armAt (28 + n) r (modPulse n (fun p => { p with armed := r - pulseBase s n }) s)
  else if p.set.mode = 2 then
    let s := dropEarly n s
    match (pulse s n).queue with
    | q :: _ => armAt (28 + n) q.1 s
    | [] => disarm (28 + n) s
  else if p.set.mode = 3 ∧ par s bCSYN (0x20 + n) Par.ckPulseLevel = 1 then armAt (28 + n) (max p.floor (units s)) s
  else disarm (28 + n) s

/-- PULSE_EDGE (R179, R449): the comparator's edge; a change that waited for the falling edge takes effect there. -/
def effPulseEdge (n : Nat) (s : State) : State :=
  match fireCmp (28 + n) s with
  | (none, s) => s
  | (some a, s) =>
    let p := pulse s n
    let p' :=
      if p.high then
        { p with high := false, fall := some a.fires, held := none,
                 floor := if p.held.isSome then a.fires + pulseGap else p.floor }
      else
        { p with high := true, rise := a.fires, edge := some p.armed, queue := if p.set.mode = 2 then p.queue.drop 1 else p.queue }
    armPulse n (drivePulse n (modPulse n (fun _ => p') s))

/-- Inserts a rising target in time order. -/
def insertRise (q : Int × Option Nat) : List (Int × Option Nat) → List (Int × Option Nat)
  | [] => [q]
  | x :: r => if q.1 < x.1 then q :: x :: r else x :: insertRise q r

/-- A pair of an owner leaves the list of those cancelled and not yet replanned: the first of that owner. -/
def unstale (o : Option Nat) : List (Int × Option Nat) → List (Int × Option Nat)
  | [] => []
  | x :: r => if x.2 = o then r else x :: unstale o r

/-- A cancelled pair of sector slot `slot` is not replanned: it is discarded and reported (R180). -/
def staleDropped (n slot : Nat) (s : State) : State :=
  match (pulse s n).stale.find? (fun x => x.2 == some slot) with
  | none => s
  | some q => pulseDropped n [q] (modPulse n (fun p => { p with stale := unstale (some slot) p.stale }) s)

/-- A pair arrives at an EVENT output (R179): refused where the output is not in EVENT mode or the queue of 16 is
full; of two pairs less than 20 ns apart the later is dropped and reported, and so is one before the output's floor.  The
request is answered with whether its pair is in the queue. -/
def pulseEvent (n : Nat) (due : Int) (owner : Option Nat) (s : State) : Bool × State :=
  let p := pulse s n
  let w := nsU p.set.width + pulseGap
  if p.set.mode ≠ 2 ∨ 16 ≤ p.queue.length ∨ !rGuhRun s then (false, s)
  else
    let near := p.queue.filter (fun x => decide (|due - x.1| < w))
    let before := near.any (fun x => decide (x.1 ≤ due)) || (p.high && decide (due - p.rise < w))
      || (match p.fall with | some f => decide (due - f < pulseGap) | none => false)
    let s := modPulse n (fun p => { p with stale := unstale owner p.stale }) s
    if before ∨ due < p.floor then (false, pulseDropped n [(due, owner)] s)
    else
      let keep := p.queue.filter (fun x => !decide (|due - x.1| < w))
      let s := modPulse n (fun p => { p with queue := insertRise (due, owner) keep }) s
      let s := pulseDropped n near s
      (true, if p.high then s else armPulse n s)

/-- A pair not yet begun is withdrawn (R218). -/
def pulseWithdraw (n : Nat) (due : Int) (s : State) : State :=
  let p := pulse s n
  let s := modPulse n (fun p => { p with queue := p.queue.filter (fun x => x.1 ≠ due) }) s
  if p.high then s else armPulse n s

/-- The settings of a pulse output as its parameters now stand. -/
def pulseSet (s : State) (n : Nat) : PulseSet :=
  let g := fun k => parN s bCSYN (0x20 + n) k
  { mode := g Par.ckPulseMode, period := g Par.ckPulsePeriod, width := g Par.ckPulseWidth, align := g Par.ckPulseAlign,
    polarity := g Par.ckPulsePolarity == 1 }

/-- A COMMIT or a start applies the settings of a pulse output (R449); parameters other than the five that the rule
names change nothing of its waveform. -/
def applyPulse (n : Nat) (s : State) : State :=
  let p := pulse s n
  let new := pulseSet s n
  if new = p.set then drivePulse n (modPulse n (fun p => { p with configured := true }) s)
  else
    let old := p.held.getD p.set
    let now := (units s : Int)
    let dropped := if new.mode = 2 then [] else p.queue ++ p.stale
    let p1 := { p with
      configured := true
      set := new
      queue := if new.mode = 2 then p.queue else []
      stale := if new.mode = 2 then p.stale else []
      anchor := alignEdge s new.align
      move := 0
      edge := none }
    let p2 :=
      if p.high ∧ (old.mode = 1 ∨ old.mode = 2) then { p1 with held := some old }
      else if p.high then
        { p1 with high := false, fall := some now, held := none, floor := max p1.floor (now + pulseGap) }
      else { p1 with held := none, floor := max p1.floor (now + pulseGap) }
    armPulse n (drivePulse n (pulseDropped n dropped (modPulse n (fun _ => p2) s)))

/-- PULSE_LEVEL of an output in LEVEL mode changes (R179): at once, but no rise before its floor (R180, R449). -/
def pulseLevel (n : Nat) (s : State) : State :=
  let p := pulse s n
  if p.set.mode = 3 ∧ p.held.isNone then
    let on := par s bCSYN (0x20 + n) Par.ckPulseLevel == 1
    if on ∧ (units s : Int) < p.floor then armPulse n (modPulse n (fun p => { p with configured := true }) s)
    else drivePulse n (disarm (28 + n) (modPulse n (fun p => { p with configured := true, high := on }) s))
  else s

/-! ## Clock outputs -/

/-- The settings of a clock output as its parameters now stand. -/
def outParam (s : State) (o n : Nat) : Nat := parN s bCSYN o n

/-- The lowest free generator of C52 to C59. -/
def freeGen (s : State) : Option Nat :=
  (List.range 8).find? (fun g => !s.clk.outs.any (fun e => e.2.gen == some g))

/-- What a clock output's multiples of its period are added to (R172, R174, R178). -/
def clkBase (s : State) (o : Nat) : Int := (clkOut s o).anchor + par s bCSYN o Par.ckOutOffset + (clkOut s o).move

/-- The next rising edge of a FRAME output: after the last one fired and not before its floor. -/
def frameRise (o : Nat) (s : State) : Int :=
  let c := clkOut s o
  let base := clkBase s o
  let t := max (units s : Int) (c.floor - 1)
  schedNext base (nsU c.period) (max t (lastEdge c.edge base t))

/-- Loads a FRAME output's next rising edge into its generator. -/
def armFrame (o : Nat) (s : State) : State :=
  let c := clkOut s o
  match c.gen with
  | none => s
  | some g =>
    if rGuhRun s && c.mode == 2 then
      let r := frameRise o s
      armAt (52 + g) r (modOut o (fun c => { c with armed := r - clkBase s o }) s)
    else disarm (52 + g) s

/-- The settings that parameters now give a clock output. -/
def clkSetOf (s : State) (o : Nat) : ClkSet :=
  let g := outParam s o
  { mode := g Par.ckOutMode, source := g Par.ckOutSource, div := g Par.ckOutDiv, period := g Par.ckOutPeriod,
    width := g Par.ckOutWidth, align := g Par.ckOutAlign }

/-- A source's cycle in fs: 100 ps of the time PLL, or that of an AUX synthesiser, rounded down. -/
def sourceFs (s : State) (source : Nat) : Nat :=
  if source = 0 then 100000
  else 10 ^ 12 / parN s bCSYN 0xF0 (if source = 1 then Par.ckAux0Freq else Par.ckAux1Freq)

/-- The period of settings in fs (R171). -/
def ClkSet.periodFs (s : State) (x : ClkSet) : Nat :=
  if x.mode = 2 then x.period * 1000000 else x.div * sourceFs s x.source

/-- fs in 2^-16 ns, rounded up. -/
def fsU (n : Nat) : Int := ((n * 65536 + 999999) / 1000000 : Nat)

/-- The first rising edge of a CLOCK output's aligned schedule later than `t`: a whole multiple of its period after
Guhild time 0 or its input edge, moved by OUT_OFFSET (R172, R178). -/
def clockRise (base t : Int) (perFs : Nat) : Int :=
  let m := (t - base) * 1000000 / ((perFs * 65536 : Nat) : Int) + 1
  base + m * ((perFs * 65536 : Nat) : Int) / 1000000

/-- A CLOCK output's waveform runs: a time PLL is locked, and the stop of a restart or a change is over. -/
def clockRuns (s : State) (o : Nat) : Bool :=
  let c := clkOut s o
  c.mode == 1 && !c.stopped && (!rGuhRun s || decide (c.resume ≤ (units s : Int)))

/-- The next falling edge of a CLOCK output's waveform: half a period after a rising edge; of an output that is free or
without a counter, whose phase is not defined, now. -/
def clockFall (s : State) (o : Nat) (x : ClkSet) : Int :=
  let now := (units s : Int)
  if !clockRuns s o || x.align = 15 || !rGuhRun s then now
  else
    let half := fsU (x.periodFs s / 2)
    clockRise (clkBase s o) (now - half) (x.periodFs s) + half

/-- The settings `x` take effect at a falling edge `fall` of the old waveform (R176): the output stays low until the first
rising edge of the new schedule at least half a new period later. -/
def takeSet (o : Nat) (x : ClkSet) (fall : Int) (s : State) : State :=
  let half := fsU (x.periodFs s / 2)
  let s := modOut o (fun c => { c with
    mode := x.mode
    source := x.source
    div := x.div
    period := x.period
    width := x.width
    align := x.align
    gen := if x.mode = 2 then c.gen else none
    high := false
    pending := 0
    held := none
    stopped := dark s || x.mode == 0
    anchor := alignEdge s x.align
    move := 0
    edge := none
    floor := fall + half }) s
  emit (.pin (.clk o) false) (modOut o (fun c => { c with
    resume := if x.align = 15 then fall + half else clockRise (clkBase s o) (fall + half - 1) (x.periodFs s) }) s)

/-- FRAME outputs without a generator get the free ones, the lowest output first (R171). -/
def giveGens (s : State) : State :=
  (List.range 16).foldl (fun s o =>
    if (clkOut s o).mode = 2 ∧ (clkOut s o).gen = none then armFrame o (modOut o (fun c => { c with gen := freeGen s }) s)
    else s) s

/-- A generator that its output no longer needs is released. -/
def dropGen (o : Nat) (s : State) : State :=
  match (clkOut s o).gen with
  | some g => modOut o (fun c => { c with gen := none }) (disarm (52 + g) s)
  | none => s

/-- The high phase of a FRAME output has ended at `fall`: settings that waited for it take effect (R176), or its next
rising edge is loaded. -/
def frameFell (o : Nat) (fall : Int) (s : State) : State :=
  match (clkOut s o).held with
  | some x => giveGens (armFrame o (takeSet o x fall (if x.mode = 2 then s else dropGen o s)))
  | none => armFrame o s

/-- The output that generator `g` serves. -/
def genOut (s : State) (g : Nat) : Option Nat := (s.clk.outs.find? (fun e => e.2.gen == some g)).map (·.1)

/-- FRAME_OUTPUT_EDGE (R171): the generator's edge; a falling edge follows OUT_WIDTH after its rising edge. -/
def effFrameOutputEdge (g : Nat) (s : State) : State :=
  match genOut s g with
  | none => s
  | some o =>
    match fireCmp (52 + g) s with
    | (none, s) => s
    | (some a, s) =>
      let c := clkOut s o
      if c.high then
        frameFell o a.fires (emit (.pin (.clk o) false) (modOut o (fun c => { c with high := false }) s))
      else
        armAt (52 + g) (a.fires + nsU c.width) (emit (.pin (.clk o) true)
          (modOut o (fun c => { c with high := true, edge := some c.armed }) s))

/-- Adds to a CLOCK output's pending count (R173); a free output is never stepped (R172). -/
def addPending (o : Nat) (d : Int) (s : State) : State :=
  let c := clkOut s o
  if c.mode = 1 ∧ c.align ≠ 15 then modOut o (fun c => { c with pending := c.pending + d }) s else s

/-- The pending count has reached OUT_RESTART (R175). -/
def restartDue (s : State) (o : Nat) : Bool :=
  decide (par s bCSYN o Par.ckOutRestart * 1000 ≤ |(clkOut s o).pending| * 65536)

/-- OUT_STEP (R173): one step of 1 ps towards zero at a falling edge; past the end of the 100 ps source cycle the
divider moves by a cycle and the line resets by as much. -/
def effOutStep (o : Nat) (s : State) : State :=
  let c := clkOut s o
  if !clockRuns s o ∨ c.pending = 0 ∨ restartDue s o then s
  else
    let p := if 0 < c.pending then c.pending - 1 else c.pending + 1
    let line := if 0 < c.pending then (if c.line + 1 = 100 then 0 else c.line + 1)
      else (if c.line = 0 then 99 else c.line - 1)
    let s := modOut o (fun c => { c with pending := p, line := line }) s
    if p = 0 then report bCSYN 0x05 [w32 o] s else s

/-- OUT_RESTARTED (R175): the output stops low at its next falling edge, its count is cleared, and it resumes at the
first rising edge of its aligned schedule at least one period later. -/
def effOutRestarted (o : Nat) (s : State) : State :=
  let c := clkOut s o
  if c.mode = 1 ∧ restartDue s o then
    let x : ClkSet := ⟨c.mode, c.source, c.div, c.period, c.width, c.align⟩
    let per := x.periodFs s
    let at_ := clockRise (clkBase s o) (clockFall s o x + fsU per - 1) per
    report bCSYN 0x04 ([w32 o] ++ w64i c.pending)
      (emit (.pin (.clk o) false) (modOut o (fun c => { c with pending := 0, resume := at_ }) s))
  else s

/-- ALIGN_LOST as a lasting condition of any output (R178, R373). -/
def reviewAlign (s : State) : State :=
  if s.clk.outs.any (fun e => e.2.lost) || s.clk.pulses.any (fun e => e.2.lost) then beginCause bCSYN 10 s else endCause bCSYN 10 s

/-- The alignment to an input is lost or found again. -/
def setAlignLost (o : Nat) (v : Bool) (s : State) : State :=
  reviewAlign (if o < 16 then modOut o (fun c => { c with lost := v }) s
    else modPulse (o - 0x20) (fun p => { p with lost := v }) s)

/-- ALIGN_WINDOW of an output; a pulse output has no such parameter and uses its reset value of 10 ns. -/
def alignWindow (s : State) (o : Nat) : Int := if o < 16 then par s bCSYN o Par.ckAlignWindow else 655360

/-- The OUT_ALIGN or PULSE_ALIGN in effect. -/
def alignOf (s : State) (o : Nat) : Nat := if o < 16 then (clkOut s o).align else (pulse s (o - 0x20)).set.align

/-- Moves the next edge not yet armed of a FRAME or pulse output (R174); a free output is never stepped (R172). -/
def moveEdge (o : Nat) (d : Int) (s : State) : State :=
  if o < 16 ∧ (clkOut s o).align = 15 then s
  else if o < 16 then modOut o (fun c => { c with move := c.move + d }) s
  else modPulse (o - 0x20) (fun p => { p with move := p.move + d }) s

/-- OUT_ALIGN_EDGE (R178). -/
def effOutAlignEdge (o : Nat) (dist : Int) (s : State) : State :=
  let a := alignOf s o
  if a = 0 ∨ 12 < a then s
  else if |dist| ≤ alignWindow s o then
    let s := setAlignLost o false s
    if o < 16 ∧ (clkOut s o).mode = 1 then addPending o (toPs dist) s else moveEdge o dist s
  else setAlignLost o true s

/-- OUT_PHASE_STEP (R173, R174). -/
def bodyOutPhaseStep (out : Nat) (d : Int) (s : State) : Resp :=
  if 10 ^ 12 < |d| ∨ ¬(out < 16 ∨ (0x20 ≤ out ∧ out < 0x38)) then refuse stOutOfRange s
  else if out < 16 then
    if !rTimePll s then refuse stNotReady s
    else if (clkOut s out).mode = 2 then
      okWith (w64 0) (setAlignLost out false (moveEdge out (ofPs d) s))
    else
      let s := addPending out d s
      okWith (w64i (if (clkOut s out).mode = 1 then (clkOut s out).pending else 0)) (setAlignLost out false s)
  else if !rGuhRun s then refuse stNotReady s
  else okWith (w64 0) (setAlignLost out false (moveEdge out (ofPs d) s))

/-- OUT_OFFSET or PULSE_OFFSET has changed from `old` (R173, R174): a FRAME or pulse schedule takes it from the
parameter at its next edge. -/
def offsetChanged (o : Nat) (old : Int) (s : State) : State :=
  if o < 16 then addPending o (toPs (par s bCSYN o Par.ckOutOffset - old)) s else s

/-- OUT_DRIVE of a clock output: at a change the output is squelched for 10 µs (Table CK-4). -/
def applyDrive (o : Nat) (s : State) : State :=
  let v := parN s bCSYN o Par.ckOutDrive
  if v = (clkOut s o).drive then s
  else
    let t := (units s : Int) + 655360000
    modOut o (fun c => { c with drive := v, floor := max c.floor t, resume := max c.resume t }) s

/-- A COMMIT or a start applies the settings of a clock output (R171, R176).  A change of mode, source, divisor or period
waits for the falling edge of the old waveform: that of a FRAME output's high phase when its generator fires it, that of a
CLOCK output by its schedule; an output that is low takes it at once. -/
def applyOut (o : Nat) (s : State) : State :=
  let s := applyDrive o s
  let c := clkOut s o
  let x := clkSetOf s o
  let moved := c.mode != x.mode || c.source != x.source || c.div != x.div || c.period != x.period
  if moved then
    if c.high then modOut o (fun c => { c with held := some x }) s
    else
      let fall := if c.mode = 1 then clockFall s o ⟨c.mode, c.source, c.div, c.period, c.width, c.align⟩ else (units s : Int)
      armFrame o (takeSet o x fall s)
  else
    let s := modOut o (fun c => { c with
      width := x.width
      align := x.align
      anchor := if c.align = x.align then c.anchor else alignEdge s x.align
      edge := if c.align = x.align then c.edge else none
      held := none
      stopped := dark s || x.mode == 0 }) s
    if x.mode = 2 ∧ !c.high then armFrame o s else s

/-! ## What time and the time PLLs do to outputs -/

/-- Settings that waited for a high phase take effect as the output goes low. -/
def frameDark (o : Nat) (s : State) : State := if (clkOut s o).held.isSome then frameFell o (units s) s else s

/-- Every clock output low and every pulse pin driven again, as TIMEPLL clears (R163, R181, R448). -/
def outputsDark (s : State) : State :=
  let low := fun (s : State) (e : Nat × ClkOut) =>
    if e.2.mode = 0 ∨ e.2.stopped then s
    else frameDark e.1 (emit (.pin (.clk e.1) false) (modOut e.1 (fun c => { c with high := false, stopped := true }) s))
  drivePulses (s.clk.outs.foldl low s)

/-- Outputs run again as TIMEPLL and GUH_RUN set. -/
def outputsLight (s : State) : State :=
  let s := s.clk.outs.foldl (fun s e => armFrame e.1 (modOut e.1 (fun c => { c with stopped := c.mode == 0 }) s)) s
  let s := s.clk.pulses.foldl (fun s e => if (pulse s e.1).high then s else armPulse e.1 s) s
  drivePulses s

/-- A Guhild step moves the edges of CLOCK outputs with the counter (R173). -/
def outputsFollow (d : Int) (s : State) : State :=
  s.clk.outs.foldl (fun s e => addPending e.1 (-(toPs d)) s) s

/-- Armed targets are cancelled (R180): FRAME and pulse outputs at high level go low at once.  Pairs of an EVENT queue
that the planner is to replan wait for that; the others are discarded and reported. -/
def outputsCancelled (s : State) : State :=
  let frame := fun (s : State) (e : Nat × ClkOut) =>
    let s := modOut e.1 (fun c => { c with edge := none }) s
    if e.2.high then frameDark e.1 (emit (.pin (.clk e.1) false) (modOut e.1 (fun c => { c with high := false }) s)) else s
  let plans := rShaft s
  let pulse1 := fun (s : State) (e : Nat × PulseOut) =>
    let all := e.2.stale ++ e.2.queue
    let keep := fun (q : Int × Option Nat) => plans && q.2.isSome
    let s := pulseDropped e.1 (all.filter (fun q => !keep q)) s
    drivePulse e.1 (modPulse e.1 (fun p => { p with
      high := false, held := none, queue := [], stale := all.filter keep, fall := none, edge := none }) s)
  s.clk.pulses.foldl pulse1 (s.clk.outs.foldl frame s)

/-- After a cancellation the schedules resume at least a width after the new counter value (R180). -/
def outputsResume (s : State) : State :=
  let now := (units s : Int)
  let s := s.clk.outs.foldl (fun s e =>
    armFrame e.1 (modOut e.1 (fun c => { c with floor := now + nsU c.width }) s)) s
  s.clk.pulses.foldl (fun s e => armPulse e.1 (modPulse e.1 (fun p => { p with floor := now + nsU p.set.width }) s)) s

/-! ## Checks of a COMMIT of CSYN (R171, R172, R178, R179) -/

/-- A period in ns divides 10^9 × 2^k for some k (R172): its odd part divides 5^9. -/
def wholeOnSeconds (per : Nat) : Bool :=
  (List.range 32).any (fun k => decide (10 ^ 9 * 2 ^ k % per = 0))

/-- The alignment of a clock output to be applied is allowed. -/
def outAlignOk (s : State) (o : Nat) : Bool :=
  let g := afterN s bCSYN o
  let a := g Par.ckOutAlign
  let mode := g Par.ckOutMode
  if mode = 0 then true
  else if g Par.ckOutSource ≠ 0 then a == 15
  else if a = 15 then true
  else if a = 0 then (if mode = 1 then 10 ^ 10 % g Par.ckOutDiv == 0 else wholeOnSeconds (g Par.ckOutPeriod))
  else
    let f := afterN s bREFS (a - 1) Par.rfRefFreq
    if mode = 1 then 10 ^ 10 % (g Par.ckOutDiv * f) == 0 else 10 ^ 9 % (g Par.ckOutPeriod * f) == 0

/-- One clock output to be applied is allowed. -/
def outOk (s : State) (o : Nat) : Bool :=
  let g := afterN s bCSYN o
  let aux := afterN s bCSYN 0xF0 (if g Par.ckOutSource = 1 then Par.ckAux0Freq else Par.ckAux1Freq)
  let modeOk :=
    match g Par.ckOutMode with
    | 1 => g Par.ckOutSource == 0 || decide (aux ≤ 1250000 * g Par.ckOutDiv)
    | 2 => decide (500 ≤ g Par.ckOutWidth) && decide (g Par.ckOutWidth + 500 ≤ g Par.ckOutPeriod)
    | _ => true
  modeOk && outAlignOk s o

/-- One pulse output to be applied is allowed. -/
def pulseOk (s : State) (n : Nat) : Bool :=
  let g := afterN s bCSYN (0x20 + n)
  let per := g Par.ckPulsePeriod
  let a := g Par.ckPulseAlign
  decide (g Par.ckPulseWidth + 20 ≤ per)
    && (g Par.ckPulseMode != 1 || (if a = 0 then wholeOnSeconds per
        else 10 ^ 9 % (per * afterN s bREFS (a - 1) Par.rfRefFreq) == 0))

/-- The check of CSYN's staged set: the status that refuses it, if any. -/
def checkCsyn (s : State) : Option Nat :=
  let frames := ((List.range 16).filter (fun o => afterN s bCSYN o Par.ckOutMode == 2)).length
  if !(List.range 16).all (outOk s) ∨ !(List.range 24).all (pulseOk s) then some stOutOfRange
  else if 8 < frames then some stNoResource
  else none

/-- Whether a staged set names instance `i` of block `b`. -/
def touches (ids : List Nat) (b i : Nat) : Bool := ids.any (fun id => id / 2 ^ 16 == b * 256 + i)

/-- CSYN's outputs take the parameters just applied: those of the instances named.  Generators of outputs that leave
FRAME mode are free before any is allocated (R171); that of an output at high level is free once it has fallen. -/
def applyCsyn (ids : List Nat) (s : State) : State :=
  let s := { s with clk := { s.clk with ssc := parN s bCSYN 0xF0 Par.ckSscMode } }
  let outs := (List.range 16).filter (touches ids bCSYN)
  let s := outs.foldl (fun s o => if outParam s o Par.ckOutMode ≠ 2 ∧ !(clkOut s o).high then dropGen o s else s) s
  let s := giveGens (outs.foldl (fun s o => applyOut o s) s)
  ((List.range 24).filter (fun n => touches ids bCSYN (0x20 + n))).foldl (fun s n => applyPulse n s) s

end Sys2Proof.Machine
end

