-- ==== Sys2Proof/Machine/Guhild.lean ====
section
/-! DEFINITION. The Guhild timebase (chapter 05): states, samples, steps, the jump threshold, comparators and the
commands that set time. -/

namespace Sys2Proof.Machine

/-- JUMP_THRESHOLD. -/
def jumpThreshold (s : State) : Int := par s bGUH 0 Par.gtJumpThreshold

/-- The quality the device serves (Table GT-6). -/
def servedQuality (s : State) : Nat :=
  match s.guh.state with
  | .free => 0xF0
  | .acquiring => 0xFF
  | .locked => if s.guh.refId = 0xFE then 0x20 else s.guh.refQl
  | .holdover => if (if s.guh.fromRefused then s.guh.sinceLock else s.guh.holdHour) then 0x60 else 0x40
  | .refused => if s.guh.sinceLock then 0x60 else 0x40

/-- Enters a Guhild state (R119, R120): STATE_CHANGED, PROTECT on LOCKED, the faults of Table GT-13. -/
def enterG (st : GState) (s : State) : State :=
  let old := s.guh.state
  if old = st then s
  else
    let s := { s with guh := { s.guh with
      state := st, held := none, lockRun := false, unlockRun := false, refusedIn := false,
      protect := s.guh.protect || st == .locked,
      refusedDiff := if old = .refused then 0 else s.guh.refusedDiff,
      leftLocked := if old = .locked then s.ticks else s.guh.leftLocked,
      holdHour := false,
      sinceLock := s.guh.sinceLock && st != .locked,
      fromRefused := old == .refused && st == .holdover } }
    let s := report bGUH 0x01 [w32 st.code, w32 old.code] s
    let s := if old = .holdover then endCause bGUH 1 s else if old = .refused then endCause bGUH 0 s else s
    if st = .holdover then beginCause bGUH 1 s
    else if st = .refused then beginCause bGUH 0 s
    else if old = .locked ∧ st = .acquiring then raise bGUH 2 s
    else s

/-- Comparators below 61, which a large step cancels (R130). -/
def keeperCmps (m : Tab Armed) : Tab Armed := m.filter (fun e => 61 ≤ e.1)

/-- The targets of the Keeper's own comparators are armed anew after a large step or as GUH_RUN sets (R107, R130): a
pending TIME_ADJUST at its rolling time. -/
def rearmAdjust (s : State) : State :=
  match s.guh.adjust with
  | some a => arm 61 a.target s
  | none => s

/-- The instant at which the announced leap is due (R131): the end of the current UTC day, a second later where one is
inserted and a second earlier where one is left out. -/
def leapDue (s : State) : Int :=
  let off := par s bGUH 0 Par.gtUtcOffset + s.guh.leapAdj
  let sec : Int := units s / 65536 / 1000000000
  let l := parN s bGUH 0 Par.gtLeap
  (((sec - off) / 86400 + 1) * 86400 + off + (if l = 1 then 1 else -1)) * 65536000000000

/-- C63 holds the end of the UTC day while a leap is announced (R126, R131). -/
def armLeap (s : State) : State :=
  if parN s bGUH 0 Par.gtLeap ≠ 0 ∧ rGuhRun s then armAt 63 (leapDue s) s else disarm 63 s

/-- C62 holds the earliest instant at which a port in MASTER sends its next Sync (R126). -/
def armSyncs (s : State) : State :=
  match s.guh.syncs.foldl (fun m e => match m with | some v => some (min v e.2) | none => some e.2) (none : Option Int) with
  | some v => if rGuhRun s then armAt 62 v s else disarm 62 s
  | none => disarm 62 s

/-- C62 fires: the ports that are due send (PTP_SYNC_SEND), and the next earliest instant is loaded (R126). -/
def fireSyncs (s : State) : State :=
  match fireCmp 62 s with
  | (none, s) => s
  | (some a, s) =>
    armSyncs { s with guh := { s.guh with syncs := s.guh.syncs.filter (fun e => decide (a.due < e.2)) } }

/-- Every armed target of C0 to C60 is cancelled (R130); a COMMIT on C60 is cancelled with it (R340). -/
def cancelTargets (s : State) : State :=
  let on60 := (s.guh.cmps.find 60).isSome
  let s := { s with guh := { s.guh with cmps := keeperCmps s.guh.cmps, cancelled := true } }
  let s := report bGUH 0x05 [] (outputsCancelled s)
  if on60 then cancelCommit 3 s else s

/-- Adds a duration to the counter. -/
def addCounter (d : Int) (s : State) : State :=
  { s with c5 := (((s.c5 : Int) + 5 * d) % ((5 * guhWrap : Nat) : Int)).toNat }

/-- A comparator put in the order of its target. -/
def byTarget (e : Nat × Armed) : List (Nat × Armed) → List (Nat × Armed)
  | [] => [e]
  | x :: r => if e.2.due < x.2.due then e :: x :: r else x :: byTarget e r

/-- Comparators whose targets a forward step `d` passes over, in target order (R129). -/
def passed (s : State) (d : Int) : List Nat :=
  ((s.guh.cmps.filter (fun e => decide ((units s : Int) < e.2.due) && decide (e.2.due ≤ (units s : Int) + d))).foldr
    byTarget []).map (·.1)

/-- The comparators `ks` fire in the tick of the step, with r = 0 (R129). -/
def fireInStep (ks : List Nat) (s : State) : State :=
  { s with guh := { s.guh with
      cmps := s.guh.cmps.map (fun e => if ks.contains e.1 then (e.1, { e.2 with fires := (units s : Int) }) else e)
      fires := s.guh.fires ++ ks } }

/-- The instants of earlier edges are counted on the stepped counter (R140). -/
def edgesFollow (d : Int) (s : State) : State :=
  modRefs (fun r => { r with cands := r.cands.map (fun e => (e.1, { e.2 with edge := e.2.edge.map (· + d) })) }) s

/-- The counter moves by `d`; outputs and the planner follow it (R173, R180, R220), and the instants of the last firings
and of the last edges are counted on the stepped counter (R128, R140). -/
def moveCounter (d : Int) (cancelled : Bool) (s : State) : State :=
  let s := addCounter d { s with guh := { s.guh with
    stepLast := d, stepCount := min (s.guh.stepCount + 1) 255, steppedNow := true, stepSum := s.guh.stepSum + d,
    lastFire := s.guh.lastFire.map (fun e => (e.1, e.2 + d)) } }
  let s := outputsFollow d (edgesFollow d s)
  if cancelled then outputsResume s else s

/-- Planned targets that a forward step passes over fire early and carry STEPPED (R220). -/
def markStepped (d : Int) (s : State) : State :=
  let v : Int := units s
  let mark := fun (p : Planned) => if v < p.fire ∧ p.fire ≤ v + d then { p with flags := p.flags ||| 8 } else p
  { s with shaft := { s.shaft with tq := s.shaft.tq.map mark } }

/-- A step of the counter (R112, R129, R130) with a cause of Table GT-14. -/
def takeStep (d : Int) (cause : Nat) (s : State) : State :=
  let big := decide (jumpThreshold s < |d|)
  let ks := if big then [] else passed s d
  let s :=
    if big then cancelTargets s
    else
      let s := markStepped d s
      if ks.isEmpty then s
      else
        let m := ks.foldl (fun a k => setBit a k) 0
        report bGUH 0x04 [w32 (m >>> 32), w32 m]
          { s with guh := { s.guh with cmpStepped := s.guh.cmpStepped ||| m } }
  report bGUH 0x02 (w64i d ++ [w32 cause]) (fireInStep ks (moveCounter d big s))

/-- A step beyond JUMP_THRESHOLD with PROTECT = 1 is refused (R121). -/
def refuseJump (e : Int) (s : State) : State :=
  let s := { s with guh := { s.guh with refusedDiff := e, held := none, switching := false } }
  report bGUH 0x03 (w64i e) (enterG .refused s)

/-- Whether a step of size `e` may be taken (R120, R121). -/
def stepAllowed (s : State) (e : Int) : Bool := !s.guh.protect || decide (|e| ≤ jumpThreshold s)

/-- A phase error sample goes to the main DPLL. -/
def sampleIn (e : Int) (s : State) : State := toDpll 0 { s with guh := { s.guh with dpllIn := e } }

/-- A value clamped to ±lim. -/
def clampTo (lim e : Int) : Int := max (-lim) (min lim e)

/-- A sample while the reference stays the same, in ACQUIRING or LOCKED (R118). -/
def steadySample (e : Int) (s : State) : State :=
  let sd := par s bGUH 0 Par.gtStepDetect
  if |e| ≤ sd then
    let s := match s.guh.held with
      | some h => sampleIn (clampTo sd h) { s with guh := { s.guh with held := none } }
      | none => s
    sampleIn e s
  else match s.guh.held with
  | none => { s with guh := { s.guh with held := some e } }
  | some _ =>
    if stepAllowed s e then propReset 0 (takeStep e 3 { s with guh := { s.guh with held := none } })
    else refuseJump e s

/-- The runs of samples within and beyond LOCK_THRESHOLD (Table GT-6). -/
def trackLock (e : Int) (s : State) : State :=
  let within := decide (|e| ≤ par s bGUH 0 Par.gtLockThreshold)
  { s with guh := { s.guh with lockRun := within, unlockRun := !within } }

/-- A sample of the selected time reference, by state (R118, R119, R121, R122). -/
def sampleBody (e : Int) (s : State) : State :=
  let s := { s with guh := { s.guh with phaseErr := e } }
  match s.guh.state with
  | .free | .holdover =>
    let s := { s with guh := { s.guh with switching := false } }
    if stepAllowed s e then enterG .acquiring (takeStep e 1 s) else refuseJump e s
  | .refused =>
    if s.guh.switching then
      let s := { s with guh := { s.guh with switching := false, refusedIn := false } }
      if |e| ≤ jumpThreshold s then enterG .acquiring (takeStep e 2 { s with guh := { s.guh with refusedDiff := 0 } })
      else { s with guh := { s.guh with refusedDiff := e } }
    else if |e| ≤ jumpThreshold s then
      if s.guh.refusedIn then enterG .acquiring (takeStep e 4 { s with guh := { s.guh with refusedDiff := 0 } })
      else { s with guh := { s.guh with refusedIn := true, refusedDiff := e } }
    else { s with guh := { s.guh with refusedIn := false, refusedDiff := e } }
  | .acquiring | .locked =>
    if s.guh.switching then
      let s := { s with guh := { s.guh with switching := false, held := none } }
      if stepAllowed s e then trackLock e (takeStep e 2 s) else refuseJump e s
    else trackLock e (steadySample e s)

/-- A sample of candidate `ref`: of another reference, or without GUH_RUN, it does not reach Guhild; that of the local
oscillator is defined as 0 (Table GT-5). -/
def effGuhSample (ref : Nat) (e : Int) (s : State) : State :=
  if rGuhRun s ∧ s.guh.refTime ∧ ref = s.guh.refId then sampleBody (if ref = 0xFE then 0 else e) s else s

/-- LOCK_TIME_ELAPSED (Table GT-6). -/
def effLockTimeElapsed (s : State) : State :=
  if s.guh.state = .acquiring ∧ s.guh.lockRun then enterG .locked s else s

/-- UNLOCK_TIME_ELAPSED (Table GT-6). -/
def effUnlockTimeElapsed (s : State) : State :=
  if s.guh.state = .locked ∧ s.guh.unlockRun then enterG .acquiring s else s

/-- The time reference is deselected with no replacement (Table GT-6). -/
def guhLoss (s : State) : State :=
  let s := { s with guh := { s.guh with switching := false, held := none } }
  match s.guh.state with
  | .acquiring => enterG (if s.guh.mooringOk then .holdover else .free) s
  | .locked => enterG .holdover s
  | .refused => enterG .holdover s
  | _ => s

/-- REFS selects candidate `id` for the main selector, a time reference or one of frequency only, of quality `ql`
(R117, R119, R122). -/
def guhSelect (id : Nat) (isTime : Bool) (ql : Nat) (s : State) : State :=
  let was := s.guh.refTime
  let s := { s with guh := { s.guh with refId := id, refTime := isTime, refQl := ql, freqOnly := id != 0xFF && !isTime } }
  if isTime then { s with guh := { s.guh with switching := was || s.guh.switching, held := none } }
  else if was then guhLoss s else s

/-- SWITCH_SAMPLE_TIMEOUT (R122): the switch becomes a loss followed by a new selection; from ACQUIRING or LOCKED the
holdover frequency is taken anew, as at a loss. -/
def effSwitchSampleTimeout (s : State) : State :=
  if !s.guh.switching then s
  else if s.guh.state = .acquiring ∨ s.guh.state = .locked then guhLoss (modSel 0 (fun x => { x with hold := false }) s)
  else guhLoss s

/-- HOLDOVER_HOUR (Table GT-6): in HOLDOVER, an hour has passed in it, and with that since the last time in LOCKED; in
another state but LOCKED, an hour since the last time in LOCKED. -/
def effHoldoverHour (s : State) : State :=
  if s.guh.state = .locked then s
  else { s with guh := { s.guh with sinceLock := true, holdHour := s.guh.holdHour || s.guh.state == .holdover } }

/-- LEAP_DONE (R131): the leap is applied to the UTC_OFFSET fields sent, and LEAP is cleared; the counter never steps. -/
def effLeapDone (s : State) : State :=
  let l := parN s bGUH 0 Par.gtLeap
  if l = 0 then s
  else
    let s := disarm 63 s
    let s := { s with guh := { s.guh with leapAdj := s.guh.leapAdj + (if l = 1 then 1 else -1) } }
    report bGUH 0x06 [w32 l] (setPar bGUH 0 Par.gtLeap 0 s)

/-- LEAP or UTC_OFFSET has been written (R131): a UTC_OFFSET that software writes after the leap holds it already. -/
def utcWritten (n : Nat) (s : State) : State :=
  armLeap (if n = Par.gtUtcOffset then { s with guh := { s.guh with leapAdj := 0 } } else s)

/-- COUNTER_CHECK (Table GT-13): the counter and its shadow disagree, or agree again. -/
def effCounterCheck (agree : Bool) (s : State) : State :=
  if agree then endCause bGUH 5 s else beginCause bGUH 5 s

/-! ## Commands that set time (R107, R123 to R125) -/

/-- No time reference is selected, or the local oscillator is (R123). -/
def mayTouchTime (s : State) : Bool := !s.guh.refTime || s.guh.refId == 0xFE

/-- A Guhild time is well formed (R107). -/
def guhTimeOk (sec ns frac : Nat) : Bool :=
  decide (ns ≤ 999999999) && decide (sec < 2 ^ 48) && decide (frac < 2 ^ 16)

/-- TIME_SET (R123). -/
def bodyTimeSet (sec ns frac : Nat) (s : State) : Resp :=
  if !rGuhRun s then refuse stNotReady s
  else if !guhTimeOk sec ns frac then refuse stOutOfRange s
  else if !mayTouchTime s then refuse stBusy s
  else
    let new := (sec * 1000000000 + ns) * 65536 + frac
    let d : Int := (new : Int) - (units s : Int)
    let s := cancelTargets s
    let s := moveCounter d true { s with guh := { s.guh with protect := false, refusedDiff := 0, timeSet := true } }
    let s := { s with c5 := 5 * new }
    ok (enterG .free (report bGUH 0x02 (w64i d ++ [6]) s))

/-- TIME_ADJUST (R124): at once, or on C61. -/
def bodyTimeAdjust (h : CmdHdr) (when_ : Nat) (d : Int) (target : Nat) (s : State) : Resp :=
  if !rGuhRun s then refuse stNotReady s
  else if 2 ≤ when_ then refuse stOutOfRange s
  else if !mayTouchTime s then refuse stBusy s
  else if s.guh.protect ∧ jumpThreshold s < |d| then refuse stOutOfRange s
  else if when_ = 0 then ok (takeStep d 7 s)
  else if s.guh.adjust.isSome then refuse stBusy s
  else if nsAhead s target ≤ 0 then refuse stOutOfRange s
  else accepted 0x0802 0 h (arm 61 target { s with guh := { s.guh with adjust := some ⟨h, d, target⟩ } })

/-- The pending TIME_ADJUST fires on C61 (R124). -/
def fireAdjust (s : State) : State :=
  match s.guh.adjust with
  | none => s
  | some a => completeDone 0x0802 0 stOk (takeStep a.d 7 { s with guh := { s.guh with adjust := none } })

/-- TIME_ACCEPT_JUMP (R125). -/
def bodyTimeAcceptJump (s : State) : Resp :=
  if !rGuhRun s then refuse stNotReady s
  else if s.guh.state ≠ .refused then refuse stBusy s
  else
    let d := s.guh.refusedDiff
    okWith (w64i d) (enterG .acquiring
      (takeStep d 5 { s with guh := { s.guh with refusedDiff := 0 } }))

/-- TIME_READ (R353): a Guhild time, the rolling time of the same tick, the Guhild state. -/
def bodyTimeRead (s : State) : Resp :=
  if !rGuhRun s then refuse stNotReady s
  else okWith (guhWords s ++ w64 (rolling s) ++ w64 s.guh.state.code) s

/-- GUH_CMP_STEPPED_CLEAR: W1C (R129). -/
def effGuhCmpSteppedClear (mask : Word64) (s : State) : State :=
  if (hdr s bGUH).state = .off then s
  else { s with guh := { s.guh with cmpStepped := clrMask 64 s.guh.cmpStepped mask.toNat } }

/-- Core cycles in the next tick: on the harbour clock 1.0 GHz against 625 MHz, 8 in every 5 ticks (R166), else open. -/
def tickCycles (s : State) : Nat :=
  if s.clk.coreSource = 1 then harbourCycles s.ticks 1 else Config.coreCycles s.ticks

/-- One time tick: 8 ns every 5 ticks while GUH_RUN is set (R110); ticks do not count while no time PLL is locked. -/
def tick (s : State) : State :=
  coreTime (tickCycles s) { s with
    ticks := s.ticks + 1
    c5 := if rGuhRun s then (s.c5 + 524288) % (5 * guhWrap) else s.c5
    guh := { s.guh with steppedNow := false } }

end Sys2Proof.Machine
end

