-- ==== Sys2Proof/Machine/Pairing.lean ====
section
/-! DEFINITION. Pair redundancy (chapter 13): heartbeats, claims, roles, the grant and its interlock, takeover and
switchover. -/

namespace Sys2Proof.Machine

/-- A PAIR parameter. -/
def pairPar (s : State) (n : Nat) : Nat := parN s bPAIR 0 n

/-- The unit's own claim (R303); 0 while PAIR is not ready (R315). -/
def ownClaim (s : State) : Nat :=
  match s.pair.state with
  | none => 0
  | some st =>
    if !rPair s then 0
    else b2n (st == .unpaired || st == .active) * 2 ^ 15 + pairPar s Par.prPrio % 128 * 2 ^ 8 + s.pair.epoch % 256

/-- The ROLE sent (Table PR-2). -/
def roleSent (s : State) : Nat :=
  if !rPair s then 0
  else match s.pair.state with
  | some .active => 1
  | some .unpaired | none => 0
  | some _ => 2

/-- PAIRED as sent (R315). -/
def pairedSent (s : State) : Bool := rPair s && pairPar s Par.prPairMode == 1

/-- The partner's heard claim (R302). -/
def heardClaim (s : State) : Nat :=
  max (if s.pair.hb.silent then 0 else s.pair.hb.claim) (if s.pair.trunk.silent then 0 else s.pair.trunk.claim)

/-- Bits 59:16 of a HEART word (Table DF-10). -/
def heartFields (s : State) : Nat :=
  ownClaim s * 2 ^ 28 + s.pair.epoch % 2 ^ 16 * 2 ^ 12 + roleSent s * 2 ^ 10 + b2n s.pair.fatal * 2 ^ 9
    + b2n (pairedSent s) * 2 ^ 8 + pairPar s Par.prPairId % 256

/-- Whether epoch `a` is newer than `b` (R304). -/
def newerEpoch (a b : Nat) : Bool := decide (0 < sext 16 ((a + 2 ^ 16 - b % 2 ^ 16) % 2 ^ 16))

/-- The partner's last heard epoch: the newer of the paths'. -/
def partnerEpoch (s : State) : Nat :=
  if newerEpoch s.pair.trunk.epoch s.pair.hb.epoch then s.pair.trunk.epoch else s.pair.hb.epoch

/-! ## The grant (R307) -/

/-- The conditions of the grant other than the interlock. -/
def grantConds (s : State) : Bool :=
  rPair s && !s.pair.fatal &&
    (match s.pair.state with
     | some .unpaired => true
     | some .active => decide (heardClaim s < ownClaim s)
     | _ => false)

/-- Sets the grant, reporting a change. -/
def setGrant (g : Bool) (s : State) : State :=
  if s.pair.grant = g then s
  else report bPAIR 0x05 [w32 (b2n g)] { s with pair := { s.pair with grant := g, hbDirty := true } }

/-- PAIR_HB_ACT_OUT: high while the unit holds the grant or makes the interlock test (R307). -/
def actOut (s : State) : Bool := s.pair.grant || s.pair.testing

/-- Re-evaluates the grant after any change (R307): without its conditions it is false; with them an unpaired unit and
a unit with ACT_CHECK = 0 take it, and any other unit begins the interlock test. -/
def evalGrant (s : State) : State :=
  if !grantConds s then setGrant false { s with pair := { s.pair with testing := false, conflict := false } }
  else if s.pair.grant then s
  else if s.pair.state = some .unpaired ∨ pairPar s Par.prActCheck = 0 then
    setGrant true { s with pair := { s.pair with testing := false, conflict := false } }
  else if s.pair.testing ∨ s.pair.conflict then s
  else { s with pair := { s.pair with testing := true } }

/-- INTERLOCK_TEST: PAIR_HB_ACT_IN after the 2 µs wait (R307). -/
def effInterlockTest (actIn : Bool) (s : State) : State :=
  let s := { s with pair := { s.pair with actIn := actIn } }
  if !s.pair.testing then s
  else if !grantConds s then evalGrant s
  else if actIn then
    raise bPAIR 6 { s with pair := { s.pair with testing := false, conflict := true } }
  else setGrant true { s with pair := { s.pair with testing := false } }

/-- INTERLOCK_RETRY (R307): the test again, for as long as the other conditions hold. -/
def effInterlockRetry (s : State) : State :=
  if !s.pair.conflict then s
  else if grantConds s then { s with pair := { s.pair with conflict := false, testing := true } }
  else { s with pair := { s.pair with conflict := false } }

/-! ## Roles (R304, R305) -/

/-- Enters a pair state with an epoch, reported with its cause (Table PR-10). -/
def enterRole (r : PairRole) (epoch cause : Nat) (s : State) : State :=
  let old := (s.pair.state.map PairRole.code).getD 0
  let s := { s with pair := { s.pair with state := some r, epoch := epoch % 2 ^ 16, hbDirty := true } }
  evalGrant (report bPAIR 0x02 [w32 r.code, w32 old, w32 s.pair.epoch, w32 cause] s)

/-- Becomes ACTIVE by election or takeover: EPOCH is the newer of both plus 1 (R304); a switchover that waits for the
partner ends. -/
def becomeActive (cause : Nat) (takeover : Bool) (s : State) : State :=
  let e := if newerEpoch (partnerEpoch s) s.pair.epoch then partnerEpoch s else s.pair.epoch
  endSwitch stNotReady (enterRole .active (e + 1) cause
    (if takeover then { s with pair := { s.pair with takeover := some s.ticks } } else s))

/-- HOLD_STANDBY = 0. -/
def mayBeActive (s : State) : Bool := pairPar s Par.prHoldStandby == 0

/-- PRIO_CLASH: in LISTENING a partner not ACTIVE is heard with this unit's PRIO (Table PR-2). -/
def reviewClash (v : HbPath) (s : State) : State :=
  if s.pair.state = some .listening ∧ !v.fatal ∧ v.paired ∧ v.role ≠ 1 ∧ v.claim / 2 ^ 8 % 128 = pairPar s Par.prPrio then
    beginCause bPAIR 3 s
  else endCause bPAIR 3 s

/-- What an accepted heartbeat does to the role (Table PR-2). -/
def roleOnHeartbeat (v : HbPath) (s : State) : State :=
  let s := reviewClash v s
  let failed := v.fatal || !v.paired
  let cause := if v.fatal then 3 else 11
  let prio := v.claim / 2 ^ 8 % 128
  let own := pairPar s Par.prPrio
  match s.pair.state with
  | some .listening =>
    if s.pair.fatal then enterRole .failed s.pair.epoch 7 s
    else if failed then (if mayBeActive s then becomeActive cause false s else s)
    else if v.role = 1 then enterRole .standby v.epoch 1 s
    else if prio < own ∧ mayBeActive s then becomeActive 1 false s
    else s
  | some .standby =>
    if failed then (if mayBeActive s then becomeActive cause true s else s)
    else if v.role = 2 ∧ newerEpoch v.epoch s.pair.epoch then endSwitch stNotReady (enterRole .active v.epoch 5 s)
    else s
  | some .active =>
    if v.role = 1 ∧ ownClaim s < v.claim then endSwitch stNotReady (enterRole .standby v.epoch 6 s) else s
  | _ => s

/-- The conditions of the path faults (R301, R302). -/
def pathFaults (s : State) : State :=
  let h := s.pair.hb
  let t := s.pair.trunk
  let s := if h.silent != t.silent then beginCause bPAIR 0 s else endCause bPAIR 0 s
  let s := if h.wrongId || t.wrongId then beginCause bPAIR 4 s else endCause bPAIR 4 s
  let alarm := (trunk s (pairPar s Par.prPairTrunk)).rx.alarm
  let dev := alarm / 2 ^ 14 % 2 ^ 32
  let s := if !h.silent && !t.silent && h.at_.isSome && t.at_.isSome && s.pair.hbDevice != dev && alarm != 0 then beginCause bPAIR 5 s else endCause bPAIR 5 s
  let s := if h.silent && t.silent then endCause bPAIR 3 s else s
  let s := if (h.silent && t.silent) || (!h.silent && !h.paired) || (!t.silent && !t.paired)
    then beginCause bPAIR 1 s else endCause bPAIR 1 s
  if (!h.silent && h.fatal) || (!t.silent && t.fatal) then beginCause bPAIR 2 s else endCause bPAIR 2 s

/-- A heartbeat accepted on a path (R301, R302). -/
def acceptHb (onTrunk : Bool) (v : HbPath) (s : State) : State :=
  let old := if onTrunk then s.pair.trunk else s.pair.hb
  let s := { s with pair := if onTrunk then { s.pair with trunk := v } else { s.pair with hb := v } }
  let s := if old.silent then report bPAIR 0x03 [w32 (b2n onTrunk), 1] s else s
  let s := if old.claim ≠ v.claim ∨ old.epoch ≠ v.epoch ∨ old.role ≠ v.role then
    report bPAIR 0x04 [w32 v.claim, w32 v.epoch, w32 v.role] s else s
  evalGrant (roleOnHeartbeat v (pathFaults s))

/-- A message or word with another PAIR_ID (R301). -/
def wrongPairId (onTrunk : Bool) (id : Nat) (s : State) : State :=
  let p := s.pair
  let s := { s with pair :=
    if onTrunk then { p with lastId := id, trunk := { p.trunk with wrongId := true } }
    else { p with lastId := id, hb := { p.hb with wrongId := true } } }
  pathFaults s

/-- CRC-16 of a PAIR_HB message over bytes 0 to 13 (Table PR-1). -/
def hbCrc (l : List Byte) : Nat := crcMsb 16 0x1021 0xFFFF (byteBitsMsb (l.take 14))

/-- PAIR_HB_RECEIVED (R301): discarded unless CRC and VER are good. -/
def effPairHbReceived (l : List Byte) (s : State) : State :=
  if !blkRun s bPAIR || l.length != 16 || hbCrc l != beAt l 14 2 || beAt l 0 1 / 16 != 1 then s
  else
    let id := beAt l 1 1
    if id ≠ pairPar s Par.prPairId then wrongPairId false id s
    else
      let b0 := beAt l 0 1
      let v : HbPath := { silent := false, claim := beAt l 2 2, epoch := beAt l 4 2, role := b0 / 4 % 4,
                          fatal := b0.testBit 1, paired := b0.testBit 0, at_ := some s.ticks, wrongId := false }
      let s := { s with pair := { s.pair with hbBits := beAt l 7 1, hbDevice := beAt l 8 4, lastId := id } }
      acceptHb false v s

/-- The highest claim heard under a PAIR_ID on trunks in ALIGNED or above with PAIRED = 1 (R313). -/
def highestClaim (s : State) (id : Nat) : Nat :=
  s.trunks.foldl (fun a e =>
    let w := e.2.rx.heart
    if 2 ≤ e.2.link.code ∧ w.testBit 24 ∧ w / 2 ^ 16 % 256 = id then max a (w / 2 ^ 44 % 2 ^ 16) else a) 0

/-- A HEART word accepted on port `p` as a heartbeat, if `p` is the pair trunk (R301). -/
def heartPath (p v : Nat) (s : State) : State :=
  if !blkRun s bPAIR || pairPar s Par.prPairTrunk != p then s
  else
    let id := v / 2 ^ 16 % 256
    if id ≠ pairPar s Par.prPairId then wrongPairId true id s
    else
      acceptHb true
        { silent := false, claim := v / 2 ^ 44 % 2 ^ 16, epoch := v / 2 ^ 28 % 2 ^ 16, role := v / 2 ^ 26 % 4,
          fatal := v.testBit 25, paired := v.testBit 24, at_ := some s.ticks, wrongId := false }
        { s with pair := { s.pair with lastId := id } }

/-- PATH_SILENT (R302). -/
def effPathSilent (onTrunk : Bool) (s : State) : State :=
  if !blkRun s bPAIR then s
  else
    let p := s.pair
    let was := if onTrunk then p.trunk.silent else p.hb.silent
    if was then s
    else
      let s := { s with pair :=
        if onTrunk then { p with trunk := { p.trunk with silent := true, wrongId := false } }
        else { p with hb := { p.hb with silent := true, wrongId := false } } }
      let s := report bPAIR 0x03 [w32 (b2n onTrunk), 0] s
      let s := pathFaults s
      let both := s.pair.hb.silent && s.pair.trunk.silent
      if both ∧ s.pair.state = some .standby ∧ mayBeActive s then becomeActive 2 true s else evalGrant s

/-- HOLD_STANDBY changed: a unit in STANDBY whose partner is silent takes over once it may (R302, Table PR-2). -/
def holdChanged (s : State) : State :=
  if s.pair.hb.silent ∧ s.pair.trunk.silent ∧ s.pair.state = some .standby ∧ mayBeActive s then becomeActive 2 true s else s

/-- Nothing is heard on a path. -/
def HbPath.quiet (v : HbPath) : Bool := v.silent || v.at_.isNone

/-- LISTENING_TIMEOUT (Table PR-2): nothing heard, HOLD_STANDBY = 0 and the interlock satisfied. -/
def effListeningTimeout (s : State) : State :=
  if s.pair.state = some .listening ∧ s.pair.hb.quiet ∧ s.pair.trunk.quiet ∧ mayBeActive s
      ∧ (pairPar s Par.prActCheck = 0 ∨ !s.pair.actIn) then becomeActive 1 false s
  else s

/-! ## Sending (R300, R315) -/

/-- The 16 bytes of a PAIR_HB message (Table PR-1). -/
def hbMessage (s : State) : List Byte :=
  let b0 := 0x10 + roleSent s * 4 + b2n s.pair.fatal * 2 + b2n (pairedSent s)
  let b7 := b2n (rGuhLocked s) * 128 + b2n (rCore s) * 64 + b2n (rShaft s) * 32
    + b2n (pairPar s Par.prHoldStandby == 1) * 16 + b2n s.pair.grant * 8
  let l := bytesBE 1 b0 ++ bytesBE 1 (pairPar s Par.prPairId) ++ bytesBE 2 (ownClaim s) ++ bytesBE 2 s.pair.epoch
    ++ bytesBE 1 s.pair.hbCount ++ bytesBE 1 b7 ++ bytesBE 4 s.boot.serial ++ bytesBE 2 0
  l ++ bytesBE 2 (hbCrc l)

/-- PAIR_HB_SEND: nothing is sent before the first BLOCK_START of PAIR or in Standby Light mode (R315, R372). -/
def effPairHbSend (s : State) : State :=
  if s.pair.started ∧ s.boot.phase = .started then
    emit (.pairHb (hbMessage s)) { s with pair := { s.pair with hbCount := (s.pair.hbCount + 1) % 256, hbDirty := false } }
  else s

/-! ## PAIR starts and stops (R305) -/

/-- PAIR reaches RUN after a BLOCK_START. -/
def pairStart (s : State) : State :=
  let s := { s with pair := { s.pair with started := true, hb := .fresh, trunk := .fresh, switching := none,
                                          takeover := none, testing := false, conflict := false } }
  if pairPar s Par.prPairMode = 0 then enterRole .unpaired s.pair.epoch 9 s
  else
    let s := enterRole .listening s.pair.epoch 9 s
    if s.pair.fatal then enterRole .failed s.pair.epoch 7 s else s

/-- PAIR stops: no state is in force and the grant is false; a switchover ends, and so do the conditions of the paths,
which nothing evaluates any more. -/
def pairStop (s : State) : State :=
  match s.pair.state with
  | none => s
  | some st =>
    let s := { s with pair := { s.pair with state := none, testing := false, conflict := false, takeover := none,
                                            hbDirty := true } }
    let s := endSwitch stNotReady (setGrant false (report bPAIR 0x02 [0, w32 st.code, w32 s.pair.epoch, 10] s))
    [0, 1, 2, 3, 4, 5].foldl (fun s i => endCause bPAIR i s) s

/-! ## Switchover and takeover (R310, R311) -/

/-- The unit demotes (Table PR-5): grant false, EPOCH + 1, STANDBY. -/
def demote (s : State) : State :=
  match s.pair.switching with
  | none => s
  | some w =>
    let s := { s with pair := { s.pair with switching := some { w with outs := [], demoted := true } } }
    enterRole .standby (s.pair.epoch + 1) 4 (setGrant false s)

/-- The claimed pulse outputs to be released in turn: those in LEVEL mode are released at once (R311). -/
def claimedOuts (s : State) : List Nat :=
  (List.range 24).filter (fun n => pulseClaimed s n && ((pulse s n).held.getD (pulse s n).set).mode != 3)

/-- SWITCHOVER (R311).  Its completion is SWITCHOVER_DONE. -/
def bodySwitchover (h : CmdHdr) (force : Bool) (s : State) : Resp :=
  let p := s.pair
  let both := !p.hb.silent && !p.trunk.silent
  let standby := p.hb.role == 2 && p.trunk.role == 2
  let noFatal := !p.hb.fatal && !p.trunk.fatal
  let rest := !p.hbBits.testBit 4 && p.hbBits.testBit 7 && p.hbBits.testBit 6 && p.hbBits.testBit 5
  if p.switching.isSome then refuse stBusy s
  else if p.state ≠ some .active then refuse stNotActive s
  else if !(both && standby && noFatal) || (!force && !rest) then refuse stNotReady s
  else
    let s := { s with pair := { p with switching := some { hdr := h, outs := claimedOuts s, demoted := false } } }
    let r := accepted 0x0D02 0 h s
    if (claimedOuts s).isEmpty then { r with state := demote r.state } else r

/-- SWITCHOVER_RELEASE: claimed output `n` is at a low level and is released; after the last the unit demotes. -/
def effSwitchoverRelease (n : Nat) (s : State) : State :=
  match s.pair.switching with
  | none => s
  | some w =>
    if w.demoted ∨ !w.outs.contains n ∨ pulsePin s n = some true then s
    else
      let outs := w.outs.erase n
      let s := { s with pair := { s.pair with switching := some { w with outs := outs } } }
      if outs.isEmpty then demote s else s

/-- SWITCH_TIMEOUT (R311): outputs still high are released high and raise the fault. -/
def effSwitchTimeout (s : State) : State :=
  match s.pair.switching with
  | none => s
  | some w => if w.demoted ∨ w.outs.isEmpty then s else
    demote (if w.outs.any (fun n => pulsePin s n == some true) then raise bPAIR 7 s else s)

/-- The partner is heard to hold the grant: ACTIVE, with ACT set in its PAIR_HB messages where they are heard. -/
def partnerDrives (s : State) : Bool :=
  let v := if s.pair.hb.silent then s.pair.trunk else s.pair.hb
  !v.silent && v.role == 1 && !v.fatal && (s.pair.hb.silent || s.pair.hbBits.testBit 3)

/-- The partner fell silent or reports FATAL. -/
def partnerFailed (s : State) : Bool :=
  (s.pair.hb.silent && s.pair.trunk.silent) || (!s.pair.hb.silent && s.pair.hb.fatal)
    || (!s.pair.trunk.silent && s.pair.trunk.fatal)

/-- SWITCHOVER_DONE (R311): OK once the partner has taken the grant, NOT_READY once it has failed first. -/
def effSwitchoverDone (s : State) : State :=
  match s.pair.switching with
  | none => s
  | some w =>
    if !w.demoted then s
    else if partnerDrives s then endSwitch stOk s
    else if partnerFailed s then endSwitch stNotReady s
    else s

/-- ROLE_SET (R315, R338): four HALTED parameters together, only while PAIR is stopped. -/
def bodyRoleSet (mode pairId prio tr : Nat) (s : State) : Resp :=
  if !blkStopped s bPAIR then refuse stBadClass s
  else if 1 < mode ∨ pairId < 1 ∨ 255 < pairId ∨ prio < 1 ∨ 127 < prio ∨ (63 < tr ∧ tr ≠ 255) then
    refuse stOutOfRange s
  else ok (setPar bPAIR 0 Par.prPairMode mode (setPar bPAIR 0 Par.prPairId pairId
    (setPar bPAIR 0 Par.prPrio prio (setPar bPAIR 0 Par.prPairTrunk tr s))))

end Sys2Proof.Machine
end

