-- ==== Sys2Proof/Machine/Refs.lean ====
section
/-! DEFINITION. Reference selection (chapter 06): candidates and their monitors, quality, selection, disputes, the
mooring record and holdover. -/

namespace Sys2Proof.Machine

/-- Candidate `c`. -/
def cand (s : State) (c : Nat) : Cand := s.refs.cands.get Cand.reset c
/-- Changes candidate `c`. -/
def modCand (c : Nat) (f : Cand → Cand) (s : State) : State :=
  modRefs (fun r => { r with cands := r.cands.set c (f (r.cands.get Cand.reset c)) }) s
/-- A parameter of a candidate. -/
def candPar (s : State) (c n : Nat) : Nat := parN s bREFS c n
/-- A global parameter (unit 0xF0). -/
def refPar (s : State) (n : Nat) : Nat := parN s bREFS 0xF0 n

/-- |f| in 2^-48 is at least `num`/`den` of `ppb`. -/
def reaches (f : Int) (num den ppb : Nat) : Bool := decide (num * ppb * 2 ^ 48 ≤ den * f.natAbs * 10 ^ 9)

/-! ## Kinds, presence and quality (R135 to R137) -/

/-- KIND of a candidate as the main selector sees it: 0 PPS, 1 frequency, 2 trunk, 3 PTP, 4 SyncE.  An edge port that
could be both is a PTP candidate in SLAVE only, and a SyncE candidate otherwise (Table RF-1). -/
def candKind (s : State) (c : Nat) : Nat :=
  if c < 0x0C then (if candPar s c Par.rfRefType = 0 then 0 else 1)
  else if isTrunk s (c - 0x20) then 2
  else
    let p := c - 0x20
    if parN s (bP p) 0 Par.epPtpRole = 1
        ∧ ((s.edges.get Edge.reset p).ptp.state = 9 ∨ parN s (bP p) 0 Par.epSynceRx ≠ 1) then 3 else 4

/-- A time candidate. -/
def timeCand (s : State) (c : Nat) : Bool := c == 0xFE || candKind s c == 0 || candKind s c == 2 || candKind s c == 3

/-- SYNCE_RX = 1 and link UP. -/
def syncePresent (s : State) (p : Nat) : Bool :=
  isEdge s p && parN s (bP p) 0 Par.epSynceRx == 1 && (s.edges.get Edge.reset p).link == .up

/-- A port is present as a candidate (Table RF-1). -/
def portPresent (s : State) (c : Nat) : Bool :=
  let p := c - 0x20
  if isTrunk s p then (trunk s p).time.timeOk
  else (isEdge s p && parN s (bP p) 0 Par.epPtpRole == 1 && (s.edges.get Edge.reset p).ptp.state == 9) || syncePresent s p

/-- Table RF-2, received clockClass to quality code. -/
def classQl (k : Nat) : Nat :=
  if k = 6 then 0x10
  else if k = 13 then 0x20
  else if [7, 14, 135].contains k then 0x40
  else if [52, 58, 140, 150, 160, 165, 187, 193].contains k then 0x60
  else if k = 248 then 0xF0
  else 0xFF

/-- Table RF-2, quality code to the clockClass sent; `prof` is PTP_PROFILE, `arb` a TIMESCALE of ARB. -/
def qlClass (prof : Nat) (arb : Bool) (q : Nat) : Nat :=
  match q with
  | 0x10 => if prof = 3 then 6 else if arb then 13 else 6
  | 0x20 => if prof = 3 then 248 else 13
  | 0x40 => if prof = 3 then 135 else if arb then 14 else 7
  | 0x60 => if prof = 3 then 165 else if arb then 58 else 52
  | 0xF0 => 248
  | _ => 255

/-- Table RF-3, received SSM code to quality code: a code below 0x10 is the SSM; 0x20 PRTC, 0x21 ePRTC, 0x22 eEEC and
0x23 ePRC are the extended levels (PRESUMED, ITU-T G.8264). -/
def ssmQl (opt k : Nat) : Nat :=
  if opt = 1 then
    if [0x2, 0x20, 0x21, 0x23].contains k then 0x10
    else if k = 0x4 then 0x40 else if k = 0x8 then 0x60 else if k = 0xB ∨ k = 0x22 then 0xF0 else 0xFF
  else
    if [0x1, 0x20, 0x21].contains k then 0x10
    else if k = 0x7 ∨ k = 0x4 then 0x40 else if k = 0xD then 0x60
    else if [0x0, 0xA, 0xC, 0xE, 0x22].contains k then 0xF0 else 0xFF

/-- Table RF-3, quality code to the SSM sent. -/
def qlSsm (opt q : Nat) : Nat :=
  if opt = 1 then
    match q with | 0x10 => 0x2 | 0x20 | 0x40 => 0x4 | 0x60 => 0x8 | 0xF0 => 0xB | _ => 0xF
  else
    match q with | 0x10 => 0x1 | 0x20 => 0x7 | 0x40 => 0x4 | 0x60 => 0xD | 0xF0 => 0xA | _ => 0xF

/-- QL of the last accepted QUALITY word of a trunk (Table DF-11); do not use while none has been accepted. -/
def wordQl (v : Nat) : Nat := if v = 0 then 0xFF else v / 2 ^ 52 % 256
/-- HOPS of a QUALITY word. -/
def wordHops (v : Nat) : Nat := v / 2 ^ 44 % 256
/-- SOURCE_ID of a QUALITY word. -/
def wordSource (v : Nat) : Nat := v % 2 ^ 32

/-- The effective quality of a candidate of a kind (R137). -/
def qlAs (s : State) (kind c : Nat) : Nat :=
  let ql := candPar s c Par.rfRefQl
  let p := c - 0x20
  if c = 0xFE then 0x20
  else if ql ≠ 0 then ql
  else match kind with
  | 2 => wordQl (trunk s p).rx.quality
  | 3 => classQl (s.edges.get Edge.reset p).ptp.parent
  | 4 => ssmQl (refPar s Par.rfEecOption) (s.edges.get Edge.reset p).qlRx
  | _ => 0xFF

/-- The effective quality of a candidate. -/
def candQl (s : State) (c : Nat) : Nat := qlAs s (candKind s c) c

/-- The kind under which selector `i` takes a candidate: an edge port that is both is a SyncE candidate to the
auxiliary selectors (R135). -/
def kindFor (s : State) (i c : Nat) : Nat :=
  if i ≠ 0 ∧ 0x20 ≤ c ∧ candKind s c = 3 then 4 else candKind s c

/-! ## Eligibility and rank (R145, R146) -/

/-- A candidate is QUALIFIED or WARNED. -/
def candGood (s : State) (c : Nat) : Bool := (cand s c).state == .qualified || (cand s c).state == .warned

/-- CLAIM, PAIR_ID and PAIRED of a HEART word. -/
def claimOf (v : Nat) : Nat × Nat × Bool := (v / 2 ^ 44 % 2 ^ 16, v / 2 ^ 16 % 256, v.testBit 24)

/-- The CLAIM, PAIR_ID and PAIRED of a trunk's accepted HEART. -/
def heartClaim (s : State) (p : Nat) : Nat × Nat × Bool := claimOf (trunk s p).rx.heart

/-- The extra conditions on a trunk for the main selector (R145). -/
def trunkEligible (s : State) (p : Nat) : Bool :=
  let q := (trunk s p).rx.quality
  let h := heartClaim s p
  decide (wordHops q < refPar s Par.rfHopsMax) && (wordSource q != s.boot.serial % 2 ^ 32) &&
    (!h.2.2 || (s.refs.cands.all (fun e =>
      let k := heartClaim s (e.1 - 0x20)
      !(decide (0x20 ≤ e.1) && isTrunk s (e.1 - 0x20) && candGood s e.1 && k.2.2 && k.2.1 == h.2.1)
        || decide (k.1 ≤ h.1))))

/-- Candidate `c` is eligible for selector `i` (R145); the local oscillator enters with LO_MASTER (R146). -/
def eligible (s : State) (i c : Nat) : Bool :=
  if c = 0xFE then i == 0 && refPar s Par.rfLoMaster == 1
  else if !candExists c then false
  else
    let k := kindFor s i c
    (candPar s c Par.rfSelMask).testBit i && candGood s c && qlAs s k c != 0xFF
      && (if i = 0 then (if k = 2 then trunkEligible s (c - 0x20) else true)
          else (k == 1 || k == 2 || (k == 4 && syncePresent s (c - 0x20))))

/-- The rank of a candidate: quality, priority, ID (R146). -/
def rankKey (s : State) (i c : Nat) : Nat :=
  qlAs s (kindFor s i c) c * 2 ^ 24
    + (if c = 0xFE then refPar s Par.rfLoPriority else candPar s c Par.rfPriority) * 2 ^ 16 + c

/-- The candidates that a selector may consider. -/
def candIds (s : State) : List Nat := s.refs.cands.map (·.1) ++ [0xFE]

/-- The eligible candidates of a selector. -/
def eligibles (s : State) (i : Nat) : List Nat := (candIds s).filter (eligible s i)

/-- The first-ranked of a list. -/
def firstRanked (s : State) (i : Nat) : List Nat → Option Nat
  | [] => none
  | c :: r => match firstRanked s i r with
    | none => some c
    | some d => if rankKey s i c ≤ rankKey s i d then some c else some d

/-- A selector runs: the main one always, an auxiliary one with AUX_EN = 1. -/
def selOn (s : State) (i : Nat) : Bool := i == 0 || parN s bREFS (0xF0 + i) Par.rfAuxEn == 1

/-- The candidate that selector `i` uses (R146, R147); 0xFF none.  While DISPUTED it keeps its selection (R151, R154),
unless a force names another candidate or the one in use is no longer eligible. -/
def choice (s : State) (i : Nat) : Nat :=
  let x := selOf s i
  let el := if selOn s i then eligibles s i else []
  if x.force.isNone ∧ el.contains x.sel ∧ x.disputes.any (fun e => e.2.disputed) then x.sel
  else match x.force with
  | some f => if el.contains f then f else (firstRanked s i el).getD 0xFF
  | none =>
    match firstRanked s i el with
    | none => 0xFF
    | some b =>
      if parN s bREFS (0xF0 + i) Par.rfSelMode = 1 ∧ el.contains x.sel
          ∧ qlAs s (kindFor s i x.sel) x.sel ≤ qlAs s (kindFor s i b) b then x.sel else b

/-! ## Bandwidth (R149, R150) -/

/-- The main DPLL, or an auxiliary one, is on its tracking bandwidth. -/
def tracking (s : State) (i : Nat) : Bool :=
  if i = 0 ∧ s.guh.refTime then s.guh.state == .locked else (selOf s i).acquired

/-- The configured bandwidth in mHz for a kind, and whether one twentieth of the phase sample rate caps it (R149): the
rate is a window of 2^EXCH_AVG_LOG2 exchanges for a trunk, the Sync interval for PTP, 1 Hz for PPS; the other kinds
sample faster than any configured value asks for. -/
def capped (s : State) (i c : Nat) : Bool :=
  let track := tracking s i
  let k := kindFor s i c
  let bw := fun (acq trk : Nat) => refPar s (if track then trk else acq)
  let p := c - 0x20
  if c = 0xFE then false
  else match k with
  | 0 => decide (50 < bw Par.rfBwAcqPps Par.rfBwTrkPps)
  | 2 =>
    let tsb : Nat := if portMode s p = 6 then 291271 else 116508
    decide (1000 * 10 ^ 11 < bw Par.rfBwAcqTrunk Par.rfBwTrkTrunk * 20 * (tsb * 2 ^ parN s (bP p) 0 Par.gxExchAvgLog2))
  | 3 =>
    let l := par s (bP p) 0 Par.epPtpLogSync
    decide (1000 * 2 ^ (7 - l).toNat < bw Par.rfBwAcqPtp Par.rfBwTrkPtp * 20 * 128)
  | _ => false

/-! ## The mooring record (R155, R156) -/

/-- The recorded seconds of a span. -/
def recorded (l : List (Option Int)) : List Int := l.filterMap id

/-- The mean of recorded values, floored. -/
def meanInt (l : List Int) : Int := if l.isEmpty then 0 else l.foldl (· + ·) 0 / (l.length : Int)

/-- The mean of the recorded seconds in the span that ends MOOR_GUARD ago and is MOOR_AVG long, if it holds MOOR_MIN. -/
def mooringMean (s : State) : Option Int :=
  let span := recorded ((s.refs.secs.drop (refPar s Par.rfMoorGuard)).take (refPar s Par.rfMoorAvg))
  if span.length < refPar s Par.rfMoorMin then none else some (meanInt span)

/-- Hourly averages with their hours, the newest at 0 and older ones negative. -/
def hourPoints : Int → List (Option Int) → List (Int × Int)
  | _, [] => []
  | x, none :: r => hourPoints (x - 1) r
  | x, some y :: r => (x, y) :: hourPoints (x - 1) r

/-- The least-squares drift per hour as a fraction; zero with DRIFT_COMP = 0 or fewer than 24 averages. -/
def drift (s : State) : Int × Nat :=
  let pts := hourPoints 0 s.refs.hours
  if refPar s Par.rfDriftComp = 0 ∨ pts.length < 24 then (0, 1) else (lsSlope pts).getD (0, 1)

/-- The frequency held now: the value at the loss and the drift over the seconds in holdover. -/
def heldFreq (r : Refs) : Int := r.holdFreq + r.driftN * (r.elapsed : Int) / ((r.driftD * 3600 : Nat) : Int)

/-- The holdover frequency that the mooring record would give now (MOORING_FREQ). -/
def holdoverFreq (s : State) : Int :=
  if (selOf s 0).hold then heldFreq s.refs else (mooringMean s).getD 0

/-- What the mooring record gives at this moment (R152): in holdover what it gave at the loss with its drift. -/
def mooringNow (s : State) : Option Int :=
  if (selOf s 0).hold then (if s.refs.holdMoor then some (heldFreq s.refs) else none) else mooringMean s

/-- The main DPLL has to hold: it has no candidate, or Guhild is in REFUSED or in HOLDOVER with no reference of frequency
only to steer it, or a reference switch waits for its first sample (R117, R119, R121, R122, R156). -/
def mustHold (s : State) : Bool :=
  let x := selOf s 0
  x.lost || (x.sel != 0xFE && (s.guh.state == .refused || (s.guh.state == .holdover && !s.guh.freqOnly)
    || (s.guh.switching && s.guh.state != .free)))

/-- The main DPLL begins to hold (R156): it moves to the mooring value, or to its integrator with MOORING_INVALID raised
but for a reference switch, which is no loss (R122). -/
def beginHold (s : State) : State :=
  let x := selOf s 0
  let v := mooringMean s
  let d := if v.isSome then drift s else (0, 1)
  let f := v.getD x.dpll.int
  let s1 := goTo 0 f (modSel 0 (fun x => { x with hold := true }) (modRefs (fun r => { r with
    holdFreq := f, holdMoor := v.isSome, driftN := d.1, driftD := d.2, elapsed := 0 }) s))
  if v.isNone && (x.lost || s.guh.state == .refused || s.guh.state == .holdover) then raise bREFS 7 s1 else s1

/-- The main DPLL holds exactly while it has to. -/
def holdSettled (s : State) : Bool := !rRefs s || (selOf s 0).hold == mustHold s

/-- The main DPLL begins or ceases to hold as Guhild's state and the selection now ask (R119, R121, R122, R156): a holding
that goes on for another cause keeps its trajectory. -/
def reviewHold (s : State) : State :=
  if holdSettled s then s else if mustHold s then beginHold s else endHold 0 s

/-! ## Selection (R147, R148) -/

/-- The cause of a selector's change from `old` (Table RF-10). -/
def selCause (s : State) (forced lapsed : Bool) (old : Nat) : Nat :=
  if forced then 5
  else if lapsed then 6
  else if old = 0xFF ∨ old = 0xFE then 1
  else match (cand s old).state with
  | .off => 2
  | .disqualified => if (cand s old).cause = 4 then 4 else 3
  | _ => 1

/-- An auxiliary selector is lost. -/
def auxLost (s : State) : Bool := (selOf s 1).lost || (selOf s 2).lost

/-- The mean of an auxiliary output over the 10 s that ended 1 s before now, by its values at whole seconds (R157). -/
def auxMean (s : State) (i : Nat) : Int :=
  let l := ((selOf s i).hist.drop 1).take 10
  if l.isEmpty then dpllNow s i else meanInt l

/-- A selector is left with none (R156, R157): the main DPLL comes to hold with the command, an auxiliary one holds the
mean of its output. -/
def selLost (i : Nat) (s : State) : State :=
  let s := modSel i (fun x => { x with lost := true, acquired := false }) s
  if i = 0 then beginCause bREFS 0 s
  else beginCause bREFS 5 (goTo i (auxMean s i) (modSel i (fun x => { x with hold := true }) s))

/-- A selector has a candidate: its DPLL keeps its integrator and resets its proportional path (R148), acquisition
begins, and an auxiliary one no longer holds. -/
def selFound (i : Nat) (s : State) : State :=
  let s := modSel i (fun x => { x with lost := false, acquired := false }) s
  let s := if (selOf s i).sel = 0xFE then steerZero i s else propReset i s
  if i = 0 then endCause bREFS 0 s
  else
    let s := if (selOf s i).hold then endHold i s else s
    if auxLost s then s else endCause bREFS 5 s

/-- DISPUTED is a lasting condition of any selector. -/
def anyDisputed (s : State) : Bool := s.refs.sels.any (fun e => e.2.disputes.any (fun d => d.2.disputed))

/-- The difference of two candidates' FREQ_MEAS. -/
def freqDiff (s : State) (a b : Nat) : Int := (cand s a).freq - (cand s b).freq

/-- DISPUTE is reported, entered or cleared. -/
def reportDispute (i a b : Nat) (entered : Bool) (s : State) : State :=
  report bREFS 0x04 ([w32 i, w32 a, w32 b] ++ w64i (freqDiff s a b) ++ [w32 (b2n entered)]) s

/-- The dispute test of selector `i` against `o` ends. -/
def endDispute (i o : Nat) (s : State) : State :=
  let was := match (selOf s i).disputes.find o with
    | some d => d.disputed
    | none => false
  let s := modSel i (fun x => { x with disputes := x.disputes.del o }) s
  let s := if was then reportDispute i (selOf s i).sel o false s else s
  if anyDisputed s then s else endCause bREFS 3 s

/-- Every dispute test of selector `i` ends, as its selection changes. -/
def endDisputes (i : Nat) (s : State) : State := ((selOf s i).disputes.map (·.1)).foldl (fun s o => endDispute i o s) s

/-- Evaluates selector `i`: a change is reported, the main one's is handed to Guhild (R148, R122). -/
def evalSel (i : Nat) (s : State) : State :=
  let x := selOf s i
  let lapsed := match x.force with
    | some f => !eligible s i f
    | none => false
  let s := if lapsed then modSel i (fun x => { x with force := none }) s else s
  let new := choice s i
  let old := x.sel
  if new = old then
    if i = 0 ∧ new ≠ 0xFF then { s with guh := { s.guh with refQl := candQl s new } } else s
  else
    let forced := (selOf s i).force.isSome
    let cause := selCause s forced lapsed old
    let s := modSel i (fun x => { x with sel := new }) (endDisputes i s)
    let s := if i = 0 ∧ new < 0xFE then modCand new (fun x => { x with badPhase := 0 }) s else s
    let s := if new = 0xFF then selLost i s else selFound i s
    let s := report bREFS 0x01 [w32 i, w32 old, w32 new, w32 cause, w32 (b2n (new != 0xFF && capped s i new))] s
    if i ≠ 0 then s
    else guhSelect new (new != 0xFF && timeCand s new) (if new = 0xFF then 0xFF else candQl s new) s

/-- Tests whose other candidate is no longer an eligible equal end (R154). -/
def pruneDisputes (i : Nat) (s : State) : State :=
  let u := (selOf s i).sel
  ((selOf s i).disputes.map (·.1)).foldl (fun s o =>
    if eligible s i o && eligible s i u && rankKey s i o / 2 ^ 16 == rankKey s i u / 2 ^ 16 then s
    else endDispute i o s) s

/-- Evaluates all selectors. -/
def evaluate (s : State) : State :=
  let s := [0, 1, 2].foldl (fun s i => pruneDisputes i s) s
  [0, 1, 2].foldl (fun s i => evalSel i s) s

/-! ## Candidate states (Table RF-4) -/

/-- A candidate changes state, reported with a cause. -/
def setCand (c : Nat) (st : CandState) (cause : Nat) (s : State) : State :=
  let old := (cand s c).state
  if old = st then s
  else report bREFS 0x02 [w32 c, w32 old.code, w32 st.code, w32 cause] (modCand c (fun x => { x with state := st }) s)

/-- A candidate is disqualified (R143, R144), by a dispute of selector `sel`: pending until it completes its
wait-to-restore. -/
def disqualify (c cause referee sel : Nat) (s : State) : State :=
  let s := modCand c (fun x => { x with cause := cause, pend := some (cause, referee, sel) }) s
  raise bREFS 1 (setCand c .disqualified cause s)

/-- The phase monitor passes: fewer than three bad samples in a row (R141). -/
def Cand.phaseOk (x : Cand) : Bool := decide (x.badPhase < 3)

/-- The local time that monitor series are kept in: the counter without its steps (R139, R198). -/
def bareTime (s : State) : Int := (units s : Int) - s.guh.stepSum

/-- A candidate becomes present (R140, R144): its monitors begin. -/
def candArrives (c : Nat) (s : State) : State :=
  let s := modCand c (fun x => { x with
    present := true, kind := candKind s c, refits := 0, badPhase := 0, wtrFrom := 0, clock := 0, series := [],
    since := bareTime s, tol := par s bREFS c Par.rfPhaseTol }) s
  if candPar s c Par.rfSelMask = 0 ∨ (cand s c).state ≠ .off then s
  else if candKind s c = 2 ∧ (cand s c).pend.isNone then setCand c .qualified 0 s
  else setCand c .qualifying 0 s

/-- A candidate is lost (R140). -/
def candLost (c : Nat) (s : State) : State :=
  let s := modCand c (fun x => { x with present := false, near := 0, refits := 0,
                                        cause := if x.state = .off then x.cause else 1 }) s
  setCand c .off 1 s

/-- Back to OFF so that it qualifies from the start (R158), at once on its way again if present. -/
def candRestart (c : Nat) (s : State) : State :=
  let here := (cand s c).present
  let s := setCand c .off 0 (modCand c (fun x => { x with refits := 0, near := 0 }) s)
  if here ∧ 0x20 ≤ c then candArrives c s else modCand c (fun x => { x with present := false, edge := none }) s

/-- SEL_MASK has been written: 0 puts the candidate in OFF and it forgets its history (R144).  DESIGN CHOICE (log entry
29): a trunk whose TIME_OK is set when SEL_MASK becomes nonzero leaves OFF as one whose TIME_OK sets. -/
def selMaskChanged (c : Nat) (s : State) : State :=
  if candPar s c Par.rfSelMask = 0 then
    setCand c .off 0 (modCand c (fun x => { x with pend := none, cause := 0, refits := 0, badPhase := 0 }) s)
  else if (cand s c).state = .off ∧ (cand s c).present then candArrives c s
  else s

/-- The value of a referee, if it is still available. -/
def refereeValue (s : State) (r : Nat) : Option Int :=
  if r = 0xFE then (if refPar s Par.rfLoReferee = 1 ∧ s.refs.valid then mooringNow s else none)
  else if (cand s r).state = .qualified ∧ 0 < (cand s r).refits then some (cand s r).freq else none

/-- Two values lie within DISPUTE_THRESHOLD. -/
def close (s : State) (a b : Int) : Bool :=
  !decide (refPar s Par.rfDisputeThreshold * 2 ^ 48 < (a - b).natAbs * 10 ^ 9)

/-- The restore condition of a candidate with a pending disqualification (R143, R153).  DESIGN CHOICE (log entry 29):
with the referee gone, the selected candidate is that of the selector whose dispute was lost, and the local oscillator as
selected candidate counts with a FREQ_MEAS of 0. -/
def restoreOk (s : State) (c : Nat) : Bool :=
  let x := cand s c
  match x.pend with
  | some (4, r, i) =>
    match refereeValue s r with
    | some v => close s x.freq v
    | none =>
      let u := (selOf s i).sel
      if u = 0xFF then false else if u = 0xFE then close s x.freq 0
      else decide (0 < (cand s u).refits) && close s x.freq (cand s u).freq
  | _ => !reaches x.freq 1 2 (candPar s c Par.rfFreqTol) && (!timeCand s c || x.phaseOk)

/-- The wait-to-restore at a refit. -/
def waitRestore (c : Nat) (s : State) : State :=
  let x := cand s c
  if !restoreOk s c then setCand c .disqualified x.cause s
  else if candPar s c Par.rfWtr * 4000 ≤ x.clock - x.wtrFrom then
    setCand c .qualified 0 (modCand c (fun x => { x with pend := none }) s)
  else s

/-- Enters WTR, which a WTR of 0 completes at once. -/
def enterWtr (c : Nat) (s : State) : State :=
  waitRestore c (setCand c .wtr 0 (modCand c (fun x => { x with wtrFrom := x.clock }) s))

/-- The band and phase steps of a refit (R141 to R144, R148). -/
def bandPhase (c : Nat) (s : State) : State :=
  let x := cand s c
  let tol := candPar s c Par.rfFreqTol
  let half := reaches x.freq 1 2 tol
  let phaseBad := timeCand s c && !x.phaseOk
  match x.state with
  | .qualifying =>
    if 4 ≤ x.refits ∧ !half ∧ !phaseBad then (if x.pend.isSome then enterWtr c s else setCand c .qualified 0 s) else s
  | .qualified | .warned =>
    if reaches x.freq 1 1 tol then disqualify c 2 0xFF 0 s
    else if phaseBad then disqualify c 3 0xFF 0 s
    else if half ∧ x.state = .qualified then
      report bREFS 0x03 ([w32 c] ++ w64i x.freq) (raise bREFS 2 (setCand c .warned 0 s))
    else if !half ∧ x.state = .warned then setCand c .qualified 0 s
    else s
  | .disqualified => if restoreOk s c then enterWtr c s else s
  | .wtr => waitRestore c s
  | .off => s

/-! ## Disputes (R151 to R154) -/

/-- The referees of a dispute in rank order: QUALIFIED candidates of the selector below both, then the local
oscillator. -/
def refereesBelow (s : State) (i a b : Nat) : Nat → List Nat → List Nat
  | 0, _ => []
  | n + 1, l =>
    match firstRanked s i l with
    | none => []
    | some c => c :: refereesBelow s i a b n (l.erase c)

/-- The referees of a dispute between `a` and `b`. -/
def referees (s : State) (i a b : Nat) : List Nat :=
  let l := (eligibles s i).filter (fun c => c != 0xFE && (cand s c).state == .qualified
    && decide (rankKey s i a < rankKey s i c) && decide (rankKey s i b < rankKey s i c))
  refereesBelow s i a b l.length l ++ (if refPar s Par.rfLoReferee = 1 ∧ s.refs.valid then [0xFE] else [])

/-- The first referee that agrees with exactly one: winner, loser, referee; with the last referee tried. -/
def decide3 (s : State) (a b : Nat) : List Nat → Nat → Option (Nat × Nat) × Nat
  | [], last => (none, last)
  | r :: l, _ =>
    match refereeValue s r with
    | none => decide3 s a b l r
    | some v =>
      let na := close s (cand s a).freq v
      let nb := close s (cand s b).freq v
      if na && !nb then (some (a, b), r) else if nb && !na then (some (b, a), r) else decide3 s a b l r

/-- The search for a referee in a dispute of selector `i` with `o` (R152, R154). -/
def seekReferee (i o : Nat) (s : State) : State :=
  let u := (selOf s i).sel
  let x := decide3 s u o (referees s i u o) 0xFF
  let s := modRefs (fun r => { r with dispA := u, dispB := o, dispRef := x.2, dispSel := i }) s
  match x.1 with
  | some (w, l) =>
    let s := modSel i (fun y => { y with disputes := y.disputes.del o }) s
    let s := if anyDisputed s then s else endCause bREFS 3 s
    report bREFS 0x05 [w32 w, w32 l, w32 x.2] (disqualify l 4 x.2 i s)
  | none =>
    match (selOf s i).disputes.find o with
    | some d =>
      if d.told then s
      else raise bREFS 4 (modSel i (fun y => { y with disputes := y.disputes.set o { d with told := true } }) s)
    | none => s

/-- One dispute test at a refit; time is counted at the refits of the other candidate `o`, by `tick` quarters of a
millisecond.  The search for a referee follows for every test that is DISPUTED. -/
def disputeTest (i o : Nat) (tick : Nat) (s : State) : State :=
  let u := (selOf s i).sel
  let apart := !close s (cand s u).freq (cand s o).freq
  let put := fun (d : Dispute) (s : State) => modSel i (fun x => { x with disputes := x.disputes.set o d }) s
  let need := refPar s Par.rfDisputeTime * 4
  match (selOf s i).disputes.find o with
  | none => if apart ∧ 0 < tick then put ⟨0, none, false, false⟩ s else s
  | some d =>
    if !d.disputed then
      if !apart then endDispute i o s
      else
        let d := { d with beyond := d.beyond + tick }
        if d.beyond < need then put d s
        else beginCause bREFS 3 (reportDispute i u o true (put { d with disputed := true } s))
    else if apart then put { d with within := none } s
    else
      let w := match d.within with
        | none => 0
        | some w => w + tick
      if need ≤ w then endDispute i o s else put { d with within := some w } s

/-- The search for a referee in every dispute of selector `i` that is DISPUTED (R152, R154). -/
def seekReferees (i : Nat) (s : State) : State :=
  (((selOf s i).disputes.filter (fun e => e.2.disputed)).map (·.1)).foldl (fun s o =>
    if ((selOf s i).disputes.find o).isSome then seekReferee i o s else s) s

/-- The dispute step of a refit of `c` for selector `i` (R148, R151, R154). -/
def disputeStep (c i : Nat) (s : State) : State :=
  let u := (selOf s i).sel
  let s := pruneDisputes i s
  let s :=
    if u = 0xFF ∨ u = 0xFE ∨ (cand s u).refits = 0 then s
    else if c = u then ((selOf s i).disputes.map (·.1)).foldl (fun s o => disputeTest i o 0 s) s
    else if eligible s i c && rankKey s i c / 2 ^ 16 == rankKey s i u / 2 ^ 16 then
      disputeTest i c (candPar s c Par.rfMonWindow) s
    else s
  seekReferees i s

/-! ## Monitors (R139, R141) -/

/-- A second in 2^-16 ns. -/
abbrev perSecU : Nat := 65536000000000

/-- The nominal frequency in Hz of the edges that a monitor source counts: REF_FREQ of an input, the lane word rate of a
port's recovered clock (DEDUCED), as numerator and denominator. -/
def sourceHz (s : State) (c : Nat) : Nat × Nat :=
  if c < 0x0C then (candPar s c Par.rfRefFreq, 1)
  else
    let w := baudWidth (portMode s (c - 0x20))
    (w.1 * 1000, w.2)

/-- Where the last MON_WINDOW of a candidate's phase series begins (R139). -/
def windowFrom (s : State) (c : Nat) : Int :=
  max (cand s c).since (bareTime s - (candPar s c Par.rfMonWindow * 65536000000 : Nat))

/-- A value in 2^-48 from a fraction, rounded to the nearest. -/
def in48 (num : Int) (den : Nat) : Int := roundDiv (num * 2 ^ 48) den

/-- The frequency against the time tick, in 2^-48, that counted edges of nominal frequency `hz` give, as counts and stamps
with Guhild steps removed. -/
def marksFreq (hz : Nat × Nat) (pts : List (Nat × Int)) : Option Int :=
  (lsSlope (pts.map (fun q => (q.2, (q.1 : Int))))).map (fun q =>
    in48 (q.1 * perSecU * hz.2 - hz.1 * q.2) (hz.1 * q.2))

/-- The frequency of a candidate against the time tick, in 2^-48 (R139): the slope of its phase series, from the marks of
TIC for REF_IN and SyncE candidates (counted edges against stamps), from window offsets for trunks and from
offsetFromMaster for PTP ports (far time minus local time). -/
def tickFreq (s : State) (c : Nat) : Option Int :=
  if (cand s c).kind = 2 ∨ (cand s c).kind = 3 then
    (lsSlope ((cand s c).series.filter (fun q => decide (windowFrom s c ≤ q.1)))).map (fun q => in48 q.1 q.2)
  else
    marksFreq (sourceHz s c) ((s.tic.mons.get Mon.reset c).marks.filter (fun q => decide (windowFrom s c ≤ q.2)))

/-- FREQ_MEAS of a refit: the frequency against the tick plus the mean DPLL output over the window (R139). -/
def measure (s : State) (c : Nat) : Option Int :=
  (tickFreq s c).map (· + dpllMean s 0 (candPar s c Par.rfMonWindow))

/-- A phase sample of a candidate that is not the selected main reference: the third beyond PHASE_TOL in a row
disqualifies it (R141). -/
def phaseMonitor (c : Nat) (e : Int) (s : State) : State :=
  let x := cand s c
  if !timeCand s c || (selOf s 0).sel == c then s
  else
    let bad := if x.tol < |e| then min 3 (x.badPhase + 1) else 0
    let s := modCand c (fun x => { x with phase := e, badPhase := bad }) s
    if bad = 3 ∧ candGood s c then evaluate (disqualify c 3 0xFF 0 s) else s

/-- A phase sample `e`, far time minus local time, of a present candidate: a point of its series, and what its phase
monitor makes of it (R139, R141). -/
def phaseSample (c : Nat) (e : Int) (s : State) : State :=
  if !rRefs s || !(cand s c).present then s
  else
    let t := bareTime s
    phaseMonitor c e (modCand c (fun x => { x with
      series := (t, e + s.guh.stepSum) :: x.series.filter (fun q => decide (t - 10 * (perSecU : Int) ≤ q.1)) }) s)

/-! ## The rows -/

/-- The selected candidate steers the DPLLs that take its frequency: a main DPLL without a time reference (R117), and the
auxiliary ones (R157). -/
def steerByFreq (c : Nat) (s : State) : State :=
  [0, 1, 2].foldl (fun s i => if (selOf s i).sel = c ∧ (i ≠ 0 ∨ s.guh.freqOnly) then toDpll i s else s) s

/-- A refit of candidate `c` now: activity, band, phase, dispute, selection, in that order (R148).  Without two points in
the window there is nothing to fit, and no refit takes place. -/
def refitNow (c : Nat) (s : State) : State :=
  if !rRefs s || !(cand s c).present || (cand s c).state == .off then s
  else match measure s c with
  | none => s
  | some f =>
    let s := modCand c (fun x => { x with
      freq := f, refits := x.refits + 1, tol := par s bREFS c Par.rfPhaseTol,
      clock := x.clock + candPar s c Par.rfMonWindow }) s
    let s := bandPhase c s
    let s := [0, 1, 2].foldl (fun s i => disputeStep c i s) s
    evaluate (steerByFreq c s)

/-- MONITOR_REFIT of candidate `c` at the rolling time of nanoseconds `ns` and fraction `frac`. -/
def effMonitorRefit (c ns frac : Nat) (s : State) : State := refitNow c (passTo (dueOf s (65536 * ns + frac)) s)

/-- An interval of REF_IN input `k` lies within the loss interval (R140). -/
def withinLoss (s : State) (k : Nat) (d : Int) : Bool :=
  if candPar s k Par.rfRefType = 0 then decide (10 * d ≤ 11 * (perSecU : Int))
  else decide (d ≤ 65536000) || decide (d * (candPar s k Par.rfRefFreq : Int) ≤ 4 * (perSecU : Int))

/-- The distance from a PPS edge to the nearest whole second of Guhild time (Table GT-5). -/
def secondOff (t : Int) : Int :=
  let r := t % (perSecU : Int)
  if (perSecU : Int) ≤ 2 * r then perSecU - r else -r

/-- The phase sample of a PPS input's mark (R136, R141), its cable delay removed. -/
def ppsSample (k : Nat) (t : Int) (s : State) : State :=
  if !rRefs s || !(cand s k).present then s
  else phaseMonitor k (secondOff (t - par s bREFS k Par.rfCableDelay)) s

/-- REF_EDGE (R140): presence of a REF_IN input, from the time of its edges; a PPS edge less than 0.9 s after the previous
is ignored. -/
def effRefEdge (k stamp : Nat) (s : State) : State :=
  if !rRefs s || 12 ≤ k then s
  else
    let pps := candPar s k Par.rfRefType = 0
    let t := dueOf s stamp
    let x := cand s k
    match x.edge with
    | none => modCand k (fun x => { x with edge := some t, near := 0 }) s
    | some e =>
      if pps ∧ 10 * (t - e) < 9 * 65536000000000 then
        modRefs (fun r => { r with ppsExtra := (r.ppsExtra + 1) % 2 ^ 32 }) s
      else
        let n := if withinLoss s k (t - e) then x.near + 1 else 0
        let s' := modCand k (fun x => { x with edge := some t, near := n }) s
        if x.present ∨ n = 0 then s' else evaluate (candArrives k s')

/-- REF_LOST (R140). -/
def effRefLost (k : Nat) (s : State) : State :=
  if !rRefs s || 12 ≤ k || !(cand s k).present then s
  else (evaluate (candLost k s))

/-- CANDIDATE_PRESENCE_CHANGE (R135, R148): a port's presence as its own state gives it; a port that turns from a PTP
candidate to a SyncE candidate or back is lost as the one and arrives as the other (R140). -/
def effCandidatePresenceChange (c : Nat) (here : Bool) (s : State) : State :=
  if !rRefs s || c < 0x20 || !candExists c || portPresent s c != here then s
  else if here && (cand s c).present && (cand s c).kind != candKind s c then evaluate (candArrives c (candLost c s))
  else if (cand s c).present == here then s
  else (evaluate (if here then candArrives c s else candLost c s))

/-- MONITOR_FAIL (Table RF-9): no refit for two windows. -/
def effMonitorFail (c : Nat) (s : State) : State :=
  if !rRefs s || !candGood s c then s
  else (evaluate (disqualify c 5 0xFF 0 (raise bREFS 6 s)))

/-- MAIN_LOST (R156): the main selector has no eligible candidate. -/
def effMainLost (s : State) : State :=
  if !rRefs s || (selOn s 0 && !(eligibles s 0).isEmpty) then s else (evaluate s)

/-- AUX_DPLL_LOST (R157). -/
def effAuxDpllLost (k : Nat) (s : State) : State :=
  if !rRefs s || 2 ≤ k || (selOn s (k + 1) && !(eligibles s (k + 1)).isEmpty) then s else (evaluate s)

/-- ACQUISITION_END (R150): of a frequency-only reference or of an auxiliary DPLL. -/
def effAcquisitionEnd (i : Nat) (s : State) : State :=
  if !rRefs s || 3 ≤ i || (selOf s i).sel == 0xFF || (i == 0 && s.guh.refTime) then s
  else modSel i (fun x => { x with acquired := true }) s

/-- The second is recorded (R155). -/
def moorRecords (s : State) : Bool :=
  let u := (selOf s 0).sel
  (s.guh.state == .locked || (s.guh.freqOnly && (selOf s 0).acquired)) && u != 0xFF && u != 0xFE
    && (cand s u).state == .qualified

/-- The hour's average is closed after 3,600 seconds. -/
def closeHour (r : Refs) : Refs :=
  if r.hourSec < 3600 then r
  else { r with hours := ((if r.hourN = 0 then none else some (r.hourSum / (r.hourN : Int))) :: r.hours).take 48,
                hourSum := 0, hourN := 0, hourSec := 0 }

/-- MOORING_SECOND (R155, R156): one second's average; MOORING_VALID sets once MOOR_MIN are recorded. -/
def effMooringSecond (freq : Int) (s : State) : State :=
  if !rRefs s then s
  else
    let yes := moorRecords s
    let keep := refPar s Par.rfMoorAvg + refPar s Par.rfMoorGuard
    let hold := (selOf s 0).hold
    let s := modRefs (fun r => closeHour { r with
      secs := ((if yes then some freq else none) :: r.secs).take keep
      hourSum := if yes then r.hourSum + freq else r.hourSum
      hourN := if yes then r.hourN + 1 else r.hourN
      hourSec := r.hourSec + 1
      recorded := if yes then r.recorded + 1 else r.recorded
      elapsed := if hold then r.elapsed + 1 else r.elapsed }) s
    let s := [1, 2].foldl (fun s i => modSel i (fun x => { x with hist := (dpllNow s i :: x.hist).take 11 }) s) s
    let s := if hold then goTo 0 (heldFreq s.refs) s else s
    if !s.refs.valid ∧ refPar s Par.rfMoorMin ≤ s.refs.recorded then
      let s := modRefs (fun r => { r with valid := true }) s
      report bREFS 0x06 [1] { s with guh := { s.guh with mooringOk := true } }
    else s

/-- The selectors as REFS stops or starts anew: a DPLL stays at the output it has. -/
def selsFreeze (s : State) : Tab Selector :=
  s.refs.sels.map (fun e =>
    let d := e.2.dpll.anchor (slewLimit s) s.ticks
    (e.1, { Selector.reset with dpll := { d with goal := d.out, int := d.out, prop := 0 }, hist := e.2.hist }))

/-- REFS re-initialised: the mooring record is cleared (R155). -/
def refsReset (s : State) : State :=
  let was := s.refs.valid
  let s := { s with refs := { Refs.reset with sels := selsFreeze s }, guh := { s.guh with mooringOk := false } }
  let s := if was then report bREFS 0x06 [0] s else s
  guhSelect 0xFF false 0xFF s

/-- REF_FORCE (R147): a candidate that is not eligible is refused; ID 0xFF, which is never eligible, makes a force
lapse. -/
def bodyRefForce (i c : Nat) (s : State) : Resp :=
  if !rRefs s then refuse stNotReady s
  else if 3 ≤ i then refuse stOutOfRange s
  else if c = 0xFF then
    ok (if (selOf s i).force.isSome then evaluate (modSel i (fun x => { x with force := some 0xFF }) s) else s)
  else if !selOn s i || !eligible s i c then refuse stNotReady s
  else ok ((evaluate (modSel i (fun x => { x with force := some c }) s)))

/-- A change of DISPUTE_THRESHOLD or DISPUTE_TIME restarts any test in progress (R158); a selector that is DISPUTED stays
so until R152 or R154 ends it. -/
def disputesRestart (s : State) : State :=
  [0, 1, 2].foldl (fun s i => modSel i (fun x => { x with
    disputes := (x.disputes.filter (fun e => e.2.disputed)).map (fun e => (e.1, { e.2 with within := none })) }) s) s

/-! ## What trunks send (R138) -/

/-- The QUALITY word of trunk `p` (Table DF-11, R138). -/
def qualityWord (s : State) (p : Nat) : Nat :=
  let u := (selOf s 0).sel
  let isT := decide (0x20 ≤ u) && decide (u < 0x60) && isTrunk s (u - 0x20)
  let q := (trunk s (u - 0x20)).rx.quality
  let ql := if isT ∧ u = 0x20 + p then 0xFF else servedQuality s
  let hops := if isT then min 255 (wordHops q + 1) else 0
  let src := if isT then wordSource q else s.boot.serial % 2 ^ 32
  let freqOk := u != 0xFF && candQl s u == 0x10
  4 * 2 ^ 60 + ql * 2 ^ 52 + hops * 2 ^ 44 + b2n freqOk * 2 ^ 43 + b2n (rGuhLocked s) * 2 ^ 42 + src

end Sys2Proof.Machine
end

