-- ==== Sys2Proof/Machine/Desc.lean ====
section
/-! DEFINITION. Channel descriptors: the fields of Table SW-4, the 802.1CB recovery function (R76) and the meter
(R295). -/

namespace Sys2Proof.Machine

/-- Word `i` of a descriptor. -/
def Chan.w (c : Chan) (i : Nat) : Nat := (c.words.getD i 0).toNat

/-- Sets word `i`. -/
def Chan.setW (i v : Nat) (c : Chan) : Chan := { c with words := c.words.set i (w32 v) }

/-- Adds to word `i`, wrapping. -/
def Chan.addW (i d : Nat) (c : Chan) : Chan := c.setW i (c.w i + d)

/-- Adds to the field hi..lo of word `i`, wrapping within the field. -/
def Chan.addF (i hi lo d : Nat) (c : Chan) : Chan :=
  let v := fld (c.w i) hi lo
  let n := (v + d) % 2 ^ (hi + 1 - lo)
  c.setW i (c.w i - v * 2 ^ lo + n * 2 ^ lo)

/-- Sets the field hi..lo of word `i`. -/
def Chan.setF (i hi lo n : Nat) (c : Chan) : Chan :=
  c.setW i (c.w i - fld (c.w i) hi lo * 2 ^ lo + n % 2 ^ (hi + 1 - lo) * 2 ^ lo)

/-! Fields of word 0x00. -/
/-- VALID. -/
def Chan.valid (c : Chan) : Bool := (c.w 0).testBit 31
/-- PIN_REQ. -/
def Chan.pinReq (c : Chan) : Bool := (c.w 0).testBit 29
/-- SCHED_KIND. -/
def Chan.schedKind (c : Chan) : Nat := fld (c.w 0) 28 27
/-- SHAFT. -/
def Chan.shaftNo (c : Chan) : Nat := fld (c.w 0) 26 21
/-- CLASS. -/
def Chan.cls (c : Chan) : Nat := fld (c.w 0) 20 18
/-- CLASS_FROM_DESC. -/
def Chan.clsFromDesc (c : Chan) : Bool := (c.w 0).testBit 17
/-- COLOUR_AWARE. -/
def Chan.colourAware (c : Chan) : Bool := (c.w 0).testBit 16
/-- POLICE_EN. -/
def Chan.policeEn (c : Chan) : Bool := (c.w 0).testBit 15
/-- GEN_EN. -/
def Chan.genEn (c : Chan) : Bool := (c.w 0).testBit 14
/-- RCVY_EN. -/
def Chan.rcvyEn (c : Chan) : Bool := (c.w 0).testBit 13
/-- RTAG_OUT. -/
def Chan.rtagOut (c : Chan) : Bool := (c.w 0).testBit 12
/-- LAUNCH_EN. -/
def Chan.launchEn (c : Chan) : Bool := (c.w 0).testBit 11
/-- HOLD_REPEAT_EN. -/
def Chan.holdRepeat (c : Chan) : Bool := (c.w 0).testBit 10
/-- CLAIM_MODE. -/
def Chan.claimMode (c : Chan) : Nat := fld (c.w 0) 9 8
/-- CT_DENY. -/
def Chan.ctDeny (c : Chan) : Bool := (c.w 0).testBit 7
/-- EXPRESS_OUT. -/
def Chan.expressOut (c : Chan) : Bool := (c.w 0).testBit 6
/-- EGRESS_HI and EGRESS_LO as one mask of ports. -/
def Chan.egress (c : Chan) : Nat := c.w 2 * 2 ^ 32 + c.w 1
/-- VLAN_OP. -/
def Chan.vlanOp (c : Chan) : Nat := fld (c.w 3) 31 30
/-- VID. -/
def Chan.vid (c : Chan) : Nat := fld (c.w 3) 29 18
/-- PCP. -/
def Chan.pcp (c : Chan) : Nat := fld (c.w 3) 17 15
/-- CIR. -/
def Chan.cir (c : Chan) : Nat := c.w 4
/-- PIR. -/
def Chan.pir (c : Chan) : Nat := c.w 5
/-- CBS. -/
def Chan.cbs (c : Chan) : Nat := fld (c.w 6) 23 0
/-- PBS. -/
def Chan.pbs (c : Chan) : Nat := fld (c.w 7) 23 0
/-- LAUNCH_SLOT. -/
def Chan.launchSlot (c : Chan) : Nat := fld (c.w 11) 31 22
/-- HR_LIMIT. -/
def Chan.hrLimit (c : Chan) : Nat := fld (c.w 11) 21 18
/-- HR_COUNT. -/
def Chan.hrCount (c : Chan) : Nat := fld (c.w 11) 17 14
/-- HR_PERIOD. -/
def Chan.hrPeriod (c : Chan) : Nat := c.w 12
/-- RCVY_RESET. -/
def Chan.rcvyReset (c : Chan) : Nat := fld (c.w 13) 31 20
/-- TAKE_ANY. -/
def Chan.takeAny (c : Chan) : Bool := (c.w 13).testBit 19
/-- PAIR_ID. -/
def Chan.pairId (c : Chan) : Nat := fld (c.w 13) 7 0
/-- HIST, 256 bits, hist[0] in bit 0. -/
def Chan.hist (c : Chan) : Nat := (List.range 8).foldl (fun a i => a + c.w (16 + i) * 2 ^ (32 * i)) 0

/-- Writes HIST. -/
def Chan.setHist (h : Nat) (c : Chan) : Chan :=
  (List.range 8).foldl (fun c i => c.setW (16 + i) (h / 2 ^ (32 * i))) c

/-- The channel's descriptor, if its number has one with VALID = 1. -/
def chanOf (s : State) (ch : Nat) : Option Chan :=
  match s.core.chans.find ch with
  | some c => if c.valid then some c else none
  | none => none

/-- Changes the core. -/
def modCore (f : Core → Core) (s : State) : State := { s with core := f s.core }

/-- Changes a channel's descriptor. -/
def modChan (ch : Nat) (f : Chan → Chan) (s : State) : State :=
  match s.core.chans.find ch with
  | some c => modCore (fun k => { k with chans := k.chans.set ch (f c) }) s
  | none => s

/-! ## Sequence recovery (R76) -/

/-- The reset timer has expired (Table SW-4): once for each restart of it. -/
def Chan.expired (now : Nat) (c : Chan) : Bool := c.rcvyEn && !c.idle && !c.takeAny && decide (0 ≤ signed32 now (c.w 15))

/-- Reset timer expiry: TAKE_ANY sets, CB_RESETS counts. -/
def Chan.recoveryReset (c : Chan) : Chan := { (c.setF 13 19 19 1).addF 31 23 16 1 with idle := true }

/-- What recovery does to a frame with sequence number `seq`, if it has one: whether it passes, and the descriptor
after it.  The reset timer restarts with every frame but one that TAKE_ANY takes, as the pseudocode returns there; after
an expiry it stands still until then. -/
def recover (now : Nat) (seq : Option Nat) (c : Chan) : Bool × Chan :=
  let timer := fun (c : Chan) => { c.setW 15 (now + c.rcvyReset * 1000000) with idle := false }
  match seq with
  | none => (false, c.addF 31 31 24 1)
  | some q =>
    if c.takeAny then (true, ((c.setF 14 15 0 q).setHist 1).setF 13 19 19 0)
    else
      let d := sext 16 (q + 2 ^ 16 - fld (c.w 14) 15 0)
      if 256 ≤ d ∨ d ≤ -256 then (false, timer (c.addF 30 15 0 1))
      else if 0 < d then
        let n := d.toNat
        let out := c.hist >>> (256 - n)
        let lost := n - popCount n out
        (true, timer (((c.addW 29 lost).setHist ((c.hist <<< n) % 2 ^ 256 ||| 1)).setF 14 15 0 q))
      else
        let i := (-d).toNat
        if c.hist.testBit i then (false, timer (c.addW 28 1))
        else (true, timer ((c.setHist (setBit c.hist i)).addF 30 31 16 1))

/-! ## The meter (R295) -/

/-- A bucket pair with its rates: everything in 2^-13 bytes but the rates (kb/s) and times (ns). -/
structure Meter where
  cir  : Nat
  pir  : Nat
  cbs  : Nat
  pbs  : Nat
  tc   : Int
  tp   : Int
  time : Nat
  deriving DecidableEq, Repr

/-- Refills up to the frame's ingress stamp (R295). -/
def Meter.refill (now : Nat) (m : Meter) : Meter :=
  let dt := signed32 now m.time
  if 0 < dt then
    { m with tc := min (m.tc + (m.cir : Int) * dt * 8192 / 8000000) ((m.cbs * 8192 : Nat) : Int)
             tp := min (m.tp + (m.pir : Int) * dt * 8192 / 8000000) ((m.pbs * 8192 : Nat) : Int)
             time := now % 2 ^ 32 }
  else m

/-- Meters `n` bytes of input colour `inCol`: the colour and the buckets (R295). -/
def Meter.meter (n inCol : Nat) (m : Meter) : Nat × Meter :=
  let d : Int := (n * 8192 : Nat)
  if inCol = 2 ∨ m.tp - d < 0 then (2, m)
  else if inCol = 1 ∨ m.tc - d < 0 then (1, { m with tp := m.tp - d })
  else (0, { m with tp := m.tp - d, tc := m.tc - d })

/-- Charges the rest of a frame at its end to the buckets its colour debited (R295). -/
def Meter.rest (n col : Nat) (m : Meter) : Meter :=
  let d : Int := (n * 8192 : Nat)
  if col = 2 then m else if col = 1 then { m with tp := m.tp - d } else { m with tp := m.tp - d, tc := m.tc - d }

/-- A channel's meter. -/
def Chan.meter (c : Chan) : Meter :=
  { cir := c.cir, pir := c.pir, cbs := c.cbs, pbs := c.pbs, tc := sext 32 (c.w 8) * 8192 + c.tcFrac,
    tp := sext 32 (c.w 9) * 8192 + c.tpFrac, time := c.w 10 }

/-- A channel's descriptor with its meter's state written back to it. -/
def Chan.setMeter (m : Meter) (c : Chan) : Chan :=
  { (((c.setW 8 (wrapN 32 (m.tc / 8192))).setW 9 (wrapN 32 (m.tp / 8192))).setW 10 m.time) with
    tcFrac := (m.tc % 8192).toNat, tpFrac := (m.tp % 8192).toNat }

/-- Policer `k` of R297. -/
def policer (s : State) (k : Nat) : Policer := s.sched.policers.get Policer.reset k

/-- Changes policer `k`. -/
def modPolicer (k : Nat) (f : Policer → Policer) (s : State) : State :=
  { s with sched := { s.sched with policers := s.sched.policers.set k (f (policer s k)) } }

/-- A port-class policer's meter. -/
def Policer.meter (p : Policer) : Meter :=
  { cir := p.cir, pir := p.pir, cbs := p.cbs, pbs := p.pbs, tc := p.tc, tp := p.tp, time := p.time }

/-- A port-class policer with its meter's state. -/
def Policer.setMeter (m : Meter) (p : Policer) : Policer := { p with tc := m.tc, tp := m.tp, time := m.time }

/-! ## Scheduled channels and pinning (R239, R240) -/

/-- A channel that schedules something by its descriptor alone. -/
def Chan.sched (c : Chan) : Bool := c.schedKind != 0 || c.launchEn || c.holdRepeat

/-- A booking names the channel. -/
def booked (s : State) (ch : Nat) : Bool := s.core.bookings.any (fun e => e.2.channel == ch)

/-- The channel must be pinned: it is scheduled, or PIN_REQ is set (R239). -/
def mustPin (s : State) (ch : Nat) (c : Chan) : Bool := c.sched || booked s ch || c.pinReq

/-- Descriptors pinned. -/
def pinnedCount (s : State) : Nat :=
  (s.core.chans.filter (fun e => e.2.valid && mustPin s e.1 e.2)).length

/-- Sets PINNED as the channel's state demands. -/
def updatePin (ch : Nat) (s : State) : State :=
  match chanOf s ch with
  | none => s
  | some c => modChan ch (Chan.setF 0 30 30 (b2n (mustPin s ch c))) s

/-- The least recently used cached channel that is not pinned. -/
def lruUnpinned (s : State) : Option Nat :=
  s.core.cache.reverse.find? (fun ch => match chanOf s ch with | some c => !mustPin s ch c | none => true)

/-- A descriptor's bucket fractions are dropped as it goes back to Store (R295). -/
def Chan.toStore (c : Chan) : Chan := { c with tcFrac := 0, tpFrac := 0 }

/-- Brings a descriptor into the cache of 4,096, displacing the least recently used unpinned one (R242); the channel is
the most recently used. -/
def cacheIn (ch : Nat) (s : State) : State :=
  if s.core.cache.contains ch then modCore (fun k => { k with cache := ch :: k.cache.erase ch }) s
  else
    let s := if s.core.cache.length < 4096 then s else
      match lruUnpinned s with
      | some v => modChan v Chan.toStore (modCore (fun k => { k with cache := k.cache.erase v }) s)
      | none => s
    modCore (fun k => { k with cache := ch :: k.cache }) s

end Sys2Proof.Machine
end

