-- ==== Sys2Proof/Machine/Lookup.lean ====
section
/-! DEFINITION. Parsing and lookup (R229 to R236): tags and headers in the 64-byte parse window, the VLAN table, the
forwarding database with learning, and stream identification. -/

namespace Sys2Proof.Machine

/-! ## Parse (R229) -/

/-- What the parser finds: addresses, C-VLAN tag, R-TAG, EtherType and the offset of what follows it. -/
structure Parsed where
  dst   : Nat
  src   : Nat
  tci   : Option Nat
  rtag  : Option Nat
  etype : Nat
  off   : Nat
  deriving DecidableEq, Repr

/-- Parses a frame's first bytes. -/
def parse (l : List Byte) : Parsed :=
  let vlan := beAt l 12 2 == 0x8100
  let o := if vlan then 16 else 12
  let r := beAt l o 2 == 0xF1C1
  let o2 := if r then o + 6 else o
  { dst := beAt l 0 6, src := beAt l 6 6, tci := if vlan then some (beAt l 14 2) else none,
    rtag := if r then some (beAt l (o + 4) 2) else none, etype := beAt l o2 2, off := o2 + 2 }

/-- The group bit of a MAC address. -/
def groupMac (m : Nat) : Bool := m.testBit 40

/-- A field of `n` bytes at `i`, absent beyond the 64-byte parse window (R229). -/
def inWindow (l : List Byte) (i n : Nat) : Option Nat := if i + n ≤ min 64 l.length then some (beAt l i n) else none

/-- What IP identification reads: addresses, DSCP, protocol, and the ports where the header has them. -/
structure IpKey where
  wide  : Nat
  sip   : Nat
  dip   : Nat
  dscp  : Nat
  proto : Nat
  sport : Option Nat
  dport : Option Nat
  deriving DecidableEq, Repr

/-- The IP fields of a frame: IPv4 or IPv6. -/
def ipKey (l : List Byte) (x : Parsed) : Option IpKey :=
  let o := x.off
  let ports := fun (pr i : Nat) =>
    if pr = 6 ∨ pr = 17 then (inWindow l i 2, inWindow l (i + 2) 2) else (none, none)
  if x.etype = 0x0800 then
    match inWindow l (o + 12) 4, inWindow l (o + 16) 4 with
    | some a, some b =>
      let pr := beAt l (o + 9) 1
      let pt := ports pr (o + 4 * (beAt l o 1 % 16))
      some ⟨4, a, b, beAt l (o + 1) 1 / 4, pr, pt.1, pt.2⟩
    | _, _ => none
  else if x.etype = 0x86DD then
    match inWindow l (o + 8) 16, inWindow l (o + 24) 16 with
    | some a, some b =>
      let pr := beAt l (o + 6) 1
      let pt := ports pr (o + 40)
      some ⟨16, a, b, beAt l o 2 / 64 % 64, pr, pt.1, pt.2⟩
    | _, _ => none
  else none

/-! ## Hash sets (R235) -/

/-- The set index of a forwarding database entry. -/
def fdbSet (fid mac : Nat) : Nat := crc32c (bytesBE 2 (fid % 4096) ++ bytesBE 6 mac) % 8192

/-- The set index of a stream identification key, with its method byte. -/
def streamSet (method : Nat) (key : List Byte) : Nat := crc32c (bytesBE 1 method ++ key) % 4096

/-- The key of an IP entry or frame under mask profile `k` (R235): a wildcarded field is zeros. -/
def ipKeyBytes (k mask wide dst vid sip dip dscp proto sport dport : Nat) : List Byte :=
  let z := fun (b v : Nat) => if mask.testBit b then 0 else v
  bytesBE 1 k ++ bytesBE 6 (z 7 dst) ++ bytesBE 2 (z 6 vid) ++ bytesBE wide (z 5 sip) ++ bytesBE wide (z 4 dip)
    ++ bytesBE 1 (z 3 dscp) ++ bytesBE 1 (z 2 proto) ++ bytesBE 2 (z 1 sport) ++ bytesBE 2 (z 0 dport)

/-- STREAM_MASK_k. -/
def streamMask (s : State) (k : Nat) : Nat := parN s bLKP 0 (Par.lkStreamMask0 + k)

/-! ## VLAN and forwarding database (R232, R233) -/

/-- The VID of a frame: its tag's, or PVID for an untagged or priority-tagged one. -/
def frameVid (s : State) (p : Nat) (x : Parsed) : Nat :=
  let v := (x.tci.getD 0) % 4096
  if v = 0 then parN s (bP p) 0 Par.swPvid else v

/-- The VLAN entry a frame uses, none where the frame is dropped (R232). -/
def vlanOf (s : State) (p vid : Nat) : Option VlanEntry :=
  if vid = 4095 then none
  else match s.core.vlan.find vid with
  | none => none
  | some v => if parN s (bP p) 0 Par.swIngressFilter = 1 ∧ !v.member.testBit p then none else some v

/-- The time ticks of `n` seconds. -/
def secTicks (n : Nat) : Nat := n * 625000000

/-- The forwarding database's entry of an address. -/
def fdbFind (s : State) (fid mac : Nat) : Option FdbEntry :=
  s.core.fdb.find? (fun e => e.fid == fid && e.mac == mac)

/-- The egress mask of the forwarding database (R233), before the ingress port is removed. -/
def fdbMask (s : State) (v : VlanEntry) (dst : Nat) : Nat :=
  if dst = 2 ^ 48 - 1 then v.member
  else match fdbFind s v.fid dst with
  | none => v.member
  | some e => if e.group then s.core.groups.get 0 e.target else 2 ^ e.target

/-- Learns a source address (R233): a new address in a free way of its set, a moved one, a refreshed one. -/
def learn (p : Nat) (v : VlanEntry) (src cls : Nat) (s : State) : State :=
  if !v.learn || parN s (bP p) 0 Par.swLearn == 0 || groupMac src then s
  else match fdbFind s v.fid src with
  | some e =>
    if e.static_ then s
    else modCore (fun k => { k with fdb := k.fdb.map (fun x =>
      if x.fid = v.fid ∧ x.mac = src then { x with group := false, target := p, age := s.ticks } else x) }) s
  | none =>
    let set := fdbSet v.fid src
    if 8 ≤ (s.core.fdb.filter (fun e => fdbSet e.fid e.mac == set)).length then
      raise bLKP 3 (report bLKP 0x05 ([w32 v.fid] ++ w64 src) s)
    else
      count bLKP 0x023 1 ⟨p, cls, none, 0⟩ (modCore (fun k => { k with fdb := k.fdb ++ [{ fid := v.fid, mac := src, group := false, target := p, static_ := false, age := s.ticks }] }) s)

/-! ## Stream identification (R234, R235) -/

/-- An entry of a method and key that takes frames of port `p`: one naming the port before one naming any. -/
def streamFind (s : State) (method p : Nat) (key : List Byte) : Option Nat :=
  match s.core.streams.find? (fun e => e.method == method && e.key == key && e.inPort == p) with
  | some e => some e.channel
  | none =>
    match s.core.streams.find? (fun e => e.method == method && e.key == key && e.inPort == 64) with
    | some e => some e.channel
    | none => none

/-- Whether a frame has every port field that profile mask needs (R229). -/
def portsThere (mask : Nat) (k : IpKey) : Bool :=
  (mask.testBit 1 || k.sport.isSome) && (mask.testBit 0 || k.dport.isSome)

/-- IP identification over the profiles that some entry uses, the lowest first. -/
def ipFind (s : State) (p dst vid : Nat) (k : IpKey) : List Nat → Option Nat
  | [] => none
  | i :: r =>
    let mask := streamMask s i
    let m := if k.wide = 4 then 2 else 3
    let hit := if portsThere mask k then
      streamFind s m p (ipKeyBytes i mask k.wide dst vid k.sip k.dip k.dscp k.proto (k.sport.getD 0) (k.dport.getD 0))
      else none
    match hit with
    | some c => some c
    | none => ipFind s p dst vid k r

/-- The channel that stream identification gives a frame (R234): IP before source MAC and VLAN before null. -/
def identify (s : State) (p : Nat) (l : List Byte) (x : Parsed) (vid : Nat) : Option Nat :=
  let ms := parN s (bP p) 0 Par.swStreamMethods
  let ip := match ipKey l x with
    | some k => if ms.testBit (if k.wide = 4 then 2 else 3) then ipFind s p x.dst vid k (List.range 8) else none
    | none => none
  match ip with
  | some c => some c
  | none =>
    let sm := if ms.testBit 1 then streamFind s 1 p (bytesBE 6 x.src ++ bytesBE 2 vid) else none
    match sm with
    | some c => some c
    | none => if ms.testBit 0 then streamFind s 0 p (bytesBE 6 x.dst ++ bytesBE 2 vid) else none

/-! ## Class and colour (R230) -/

/-- The class of a frame before its channel is known. -/
def frameClass (s : State) (p : Nat) (x : Parsed) (st : Option StartInfo) : Nat :=
  match st with
  | some i => i.cls
  | none =>
    let pcp := match x.tci with
      | some t => t / 2 ^ 13
      | none => parN s (bP p) 0 Par.swDefaultPcp
    parN s (bP p) 0 Par.swPcpMap / 2 ^ (3 * pcp) % 8

/-- The input colour of a frame. -/
def frameColour (s : State) (p : Nat) (x : Parsed) (st : Option StartInfo) : Nat :=
  match st with
  | some i => i.colour
  | none => match x.tci with
    | some t => if parN s (bP p) 0 Par.swDeiColour = 1 ∧ t.testBit 12 then 1 else 0
    | none => 0

/-! ## Consumed frames (R98, R99, R231) -/

/-- A link-local address (R231). -/
def linkLocal (dst : Nat) : Bool := dst / 16 == 0x0180C200000

/-- A PTP message: its offset in the frame, by transport. -/
def ptpOffset (l : List Byte) (x : Parsed) : Option (Nat × Nat) :=
  if x.etype = 0x88F7 then some (0, x.off)
  else match ipKey l x with
  | some k => match k.dport with
    | some d => if d = 319 ∨ d = 320 then some (if k.wide = 4 then 1 else 2, x.off + (if k.wide = 4 then 4 * (beAt l x.off 1 % 16) else 40) + 8) else none
    | none => none
  | none => none

/-- A frame that the port or the Keeper's PTP engine consumes (with PTP_ROLE = 3, peer delay messages), or that belongs to the Keeper's in-band transport. -/
def consumed (s : State) (p : Nat) (l : List Byte) (x : Parsed) : Bool :=
  let role := parN s (bP p) 0 Par.epPtpRole
  let ptp := match ptpOffset l x with
    | some (tr, o) =>
      isEdge s p && ((role == 1 && tr == parN s (bP p) 0 Par.epPtpTransport
        && beAt l (o + 4) 1 == parN s (bP p) 0 Par.epPtpDomain) || (role == 3 && (linkLocal x.dst || [2, 3, 10].contains (beAt l o 1 % 16))))
    | none => false
  (isEdge s p && x.dst == 0x0180C2000001 && x.etype == 0x8808) || ptp
    || (x.etype == 0x88B5 && x.dst == parN s bKEEP 0 Par.efMgmtMac)

end Sys2Proof.Machine
end

