-- ==== Sys2Proof/Machine/Records.lean ====
section
/-! DEFINITION. Header capture records and trace records with their rings in Store (R270 to R272, R412 to R416). -/

namespace Sys2Proof.Machine

/-- The pipeline of a port. -/
def pipeOf (p : Nat) : Nat := p / 16

/-- A frame's length as known: 0 until its end has been received. -/
def Frame.len (f : Frame) : Nat := if f.ended then f.bytes.length else 0

/-- Generates a record: it joins its pipeline's buffer of 64, or is lost while that is full or STORE is not ready. -/
def Ring.generate (ready : Bool) (pipe : Nat) (rec : List Word) (r : Ring) : Ring :=
  let q := r.queue.get [] pipe
  let r := { r with seq := (r.seq + 1) % 2 ^ 32 }
  if ready && decide (q.length < 64) then { r with queue := r.queue.set pipe (q ++ [rec]) }
  else { r with lost := (r.lost + 1) % 2 ^ 32, lostBefore := true }

/-- Whether a ring of `n` records is full (R272). -/
def Ring.full (n : Nat) (r : Ring) : Bool := (r.wr + 1) % n == r.rd

/-- Records held in a ring of `n`. -/
def Ring.level (n : Nat) (r : Ring) : Nat := (r.wr + n - r.rd) % n

/-- Writes a record into a ring of `n` under a policy: 0 keeps the oldest, 1 the newest (R272). -/
def Ring.put (n policy : Nat) (rec : List Word) (r : Ring) : Ring :=
  if r.full n ∧ policy = 0 then { r with lost := (r.lost + 1) % 2 ^ 32, lostBefore := true }
  else
    let lose := r.full n
    { r with slots := r.slots.set r.wr rec, wr := (r.wr + 1) % n,
             rd := if lose then (r.rd + 1) % n else r.rd,
             lost := if lose then (r.lost + 1) % 2 ^ 32 else r.lost }

/-- Takes up to `n` records from the read index of a ring of `size`. -/
def Ring.take (size : Nat) : Nat → Ring → List Word × Ring
  | 0, r => ([], r)
  | n + 1, r =>
    if r.rd = r.wr then ([], r)
    else
      let x := Ring.take size n { r with rd := (r.rd + 1) % size }
      (r.slots.get [] r.rd ++ x.1, x.2)

/-! ## Header capture -/

/-- Changes BUF. -/
def modBuf (f : Buf → Buf) (s : State) : State := { s with buf := f s.buf }

/-- CHANNEL and RSEQ of a record. -/
def chanWord (f : Frame) : Nat := (f.channel.getD 0) % 2 ^ 16 * 2 ^ 16 + (f.seq.getD 0) % 2 ^ 16

/-- A header capture record (Table BF-2). -/
def captureRec (s : State) (f : Frame) (out reason : Nat) (cut : Bool) : List Word :=
  let hd := f.bytes.take 128
  let q := if out < 64 then outQ s out f.cls else OutQ.empty
  bytesWords (hd ++ List.replicate (128 - hd.length) 0) ++
  [w32 (f.stamp / 65536), w32 (f.stamp % 65536 * 65536 + f.len),
   w32 (f.inPort * 2 ^ 26 + out * 2 ^ 20 + f.cls * 2 ^ 17 + f.colour * 2 ^ 15 + reason * 2 ^ 10 + b2n cut * 2 ^ 9
     + b2n f.multi * 2 ^ 8 + b2n (demoted s f.cls) * 2 ^ 7 + (hd.length - 1)),
   w32 (chanWord f),
   w32 (b2n f.channel.isSome * 2 ^ 31 + b2n f.seq.isSome * 2 ^ 30 + f.cells * 2 ^ 24),
   w32 (q.depth * 2 ^ 13), w32 ((inAcct s f.inPort f.cls).use * 2 ^ 13), w32 (q.avg / 256 * 2 ^ 13),
   w32 (poolFree s * 2 ^ 13), w32 s.buf.cap.seq, 0, 0, 0, 0, 0, 0]

/-- Generates a header capture record where CAP_MASK enables its reason (R270). -/
def capture (f : Frame) (out reason : Nat) (cut : Bool) (s : State) : State :=
  if (parN s bBUF 0 Par.bfCapMask).testBit reason then
    let rec' := captureRec s f out reason cut
    modBuf (fun b => { b with cap := b.cap.generate (rStore s) (pipeOf f.inPort) rec' }) s
  else s

/-- A ring of `bytes` from `base` of Store overlaps the Light List region: it writes nothing (R344). -/
def ringBlocked (s : State) (base bytes : Nat) : Bool :=
  decide (base < s.boot.llBase + s.boot.llBytes) && decide (s.boot.llBase < base + bytes)

/-- HEADER_CAPTURE: the oldest record of pipeline `k` goes to the ring in Store (R272). -/
def effHeaderCapture (k : Nat) (s : State) : State :=
  match s.buf.cap.queue.get [] k with
  | [] => s
  | r :: rest =>
    let s := modBuf (fun b => { b with cap := { b.cap with queue := b.cap.queue.set k rest } }) s
    if !rStore s || ringBlocked s (parN s bBUF 0 Par.bfCapBase) (192 * parN s bBUF 0 Par.bfCapRecords) then modBuf (fun b => { b with cap := { b.cap with lost := (b.cap.lost + 1) % 2 ^ 32 } }) s
    else
      let n := parN s bBUF 0 Par.bfCapRecords
      let full := s.buf.cap.full n
      let pol := parN s bBUF 0 Par.bfCapPolicy
      let s := if full ∧ pol = 0 then s else emit (.storeRecord 0 s.buf.cap.wr r) s
      let s := modBuf (fun b => { b with cap := b.cap.put n pol r }) s
      if full then raise bBUF 10 s else s

/-- CAPTURE_READ (R272): up to 64 records. -/
def bodyCaptureRead (h : CmdHdr) (n : Nat) (s : State) : Resp :=
  if n < 1 ∨ 64 < n then refuse stOutOfRange s
  else if !rBuf s ∨ !rStore s then refuse stNotReady s
  else
    let x := s.buf.cap.take (parN s bBUF 0 Par.bfCapRecords) (min n (roomFor h 48))
    okWith (w32 (x.1.length / 48) :: x.1) (modBuf (fun b => { b with cap := x.2 }) s)

/-! ## Random tagging (R412) -/

/-- One step of the Fibonacci LFSR x^32 + x^22 + x^2 + x + 1. -/
def lfsrStep (v : Nat) : Nat :=
  let b := (b2n (v.testBit 31) + b2n (v.testBit 21) + b2n (v.testBit 1) + b2n (v.testBit 0)) % 2
  (v * 2 + b) % 2 ^ 32

/-- A 32-bit value rotated left by `n`. -/
def rotl32 (v n : Nat) : Nat := (v * 2 ^ (n % 32) + v / 2 ^ (32 - n % 32)) % 2 ^ 32

/-- The seed of pipeline `k`. -/
def tagSeed (s : State) (k : Nat) : Nat := rotl32 (parN s bTRACE 0 Par.ctTagSeed) (8 * k)

/-- Changes TRACE. -/
def modTrace (f : Trace → Trace) (s : State) : State := { s with trace := f s.trace }

/-- A frame head of port `p` and channel `ch` is eligible for tagging (R412). -/
def tagEligible (s : State) (p : Nat) (ch : Option Nat) : Bool :=
  let g := fun n => parN s bTRACE 0 n
  rTrace s && g Par.ctTagEn == 1
    && (if p < 32 then (g Par.ctTagPortsLo).testBit p else (g Par.ctTagPortsHi).testBit (p - 32))
    && (g Par.ctTagChanEn == 0 ||
        (match ch with
         | some c => decide (g Par.ctTagChanLo ≤ c) && decide (c ≤ g Par.ctTagChanHi)
         | none => false))

/-- Steps the LFSR of an eligible head's pipeline: whether the frame is tagged (R412). -/
def tagHead (p : Nat) (ch : Option Nat) (s : State) : Bool × State :=
  if !tagEligible s p ch then (false, s)
  else
    let k := pipeOf p
    let v := lfsrStep ((s.trace.lfsr.find k).getD (tagSeed s k))
    let hit := v % 2 ^ parN s bTRACE 0 Par.ctTagLog2 == 0
    (hit, modTrace (fun t => { t with lfsr := t.lfsr.set k v, tagged := (t.tagged + b2n hit) % 2 ^ 32 }) s)

/-- A COMMIT of TRACE reseeds every LFSR and reports TAG_APPLIED (R412, R416). -/
def applyTrace (s : State) : State :=
  report bTRACE 0x03 [w32 (parN s bTRACE 0 Par.ctTagLog2)]
    (modTrace (fun t => { t with lfsr := (List.range 4).map (fun k => (k, tagSeed s k)) }) s)

/-! ## Trace records (R413, R414) -/

/-- What is known of one copy when its record is written. -/
structure CopyMarks where
  out     : Nat
  reason  : Nat
  cut     : Bool
  dropped : Bool
  slot    : Bool
  bad     : Bool
  egress  : Option Nat
  deq     : Option Nat
  depth   : Nat
  deriving DecidableEq, Repr

/-- The marks of a copy dropped at `out` with a reason of Table CT-4. -/
def droppedMarks (out reason : Nat) : CopyMarks :=
  { out := out, reason := reason, cut := false, dropped := true, slot := false, bad := false, egress := none,
    deq := none, depth := 0 }

/-- FLAGS (Table CT-3); LOST_BEFORE is set as the record is written. -/
def traceFlags (s : State) (f : Frame) (m : CopyMarks) : Nat :=
  b2n m.cut + b2n f.express.isSome * 2 + b2n f.multi * 4 + b2n m.dropped * 8 + b2n m.slot * 16 + b2n m.bad * 32
    + b2n (f.harbour || (m.deq.isSome && s.clk.coreSource == 1)) * 64 + b2n f.stampOk * 128
    + b2n m.egress.isSome * 256 + b2n f.lkpCyc.isSome * 512 + b2n f.enqCyc.isSome * 1024 + b2n m.deq.isSome * 2048
    + b2n f.channel.isSome * 4096 + b2n f.seq.isSome * 8192

/-- A trace record (Table CT-2). -/
def traceRec (s : State) (f : Frame) (m : CopyMarks) : List Word :=
  let e := m.egress.getD 0
  [w32 (f.stamp / 65536), w32 (f.stamp % 65536 * 65536 + f.len), w32 (e / 65536),
   w32 (e % 65536 * 65536 + traceFlags s f m), w32 f.intake, w32 (f.lkpCyc.getD 0), w32 (f.enqCyc.getD 0),
   w32 (m.deq.getD 0),
   w32 (f.inPort * 2 ^ 26 + m.out * 2 ^ 20 + f.cls * 2 ^ 17 + f.colour * 2 ^ 15 + m.reason * 2 ^ 10),
   w32 (chanWord f), w32 (m.depth * 2 ^ 13), w32 s.trace.ring.seq, 0, 0, 0, 0]

/-- Generates the record of one copy of a traced frame; one lost before the ring raises TRACE_DROP (R415). -/
def traceCopy (f : Frame) (m : CopyMarks) (s : State) : State :=
  if !f.traced then s
  else
    let rec' := traceRec s f m
    let lost := s.trace.ring.lost
    let s := modTrace (fun t => { t with ring := t.ring.generate (rStore s) (pipeOf f.inPort) rec' }) s
    if s.trace.ring.lost = lost then s else raise bTRACE 1 s

/-- A record with LOST_BEFORE set. -/
def withLost (r : List Word) : List Word := r.set 3 (w32 (setBit (r.getD 3 0).toNat 14))

/-- TRACE_RECORD: the oldest record of pipeline `k` goes to the ring in Store (R415). -/
def effTraceRecord (k : Nat) (s : State) : State :=
  match s.trace.ring.queue.get [] k with
  | [] => s
  | r :: rest =>
    let s := modTrace (fun t => { t with ring := { t.ring with queue := t.ring.queue.set k rest } }) s
    if !rStore s || ringBlocked s (parN s bTRACE 0 Par.ctTraceBase) (64 * parN s bTRACE 0 Par.ctTraceRecords) then
      raise bTRACE 1 (modTrace (fun t => { t with ring :=
        { t.ring with lost := (t.ring.lost + 1) % 2 ^ 32, lostBefore := true } }) s)
    else
      let n := parN s bTRACE 0 Par.ctTraceRecords
      let full := s.trace.ring.full n
      let pol := parN s bTRACE 0 Par.ctTracePolicy
      let skip := full && pol == 0
      let before := s.trace.ring.level n
      let r := if s.trace.ring.lostBefore && !skip then withLost r else r
      let s := if skip then s else emit (.storeRecord 1 s.trace.ring.wr r)
        (modTrace (fun t => { t with ring := { t.ring with lostBefore := false } }) s)
      let s := modTrace (fun t => { t with ring := t.ring.put n pol r }) s
      let s := if 2 * before < n ∧ n ≤ 2 * s.trace.ring.level n then report bTRACE 0x02 [] s else s
      if full then raise bTRACE 0 s else s

/-- TRACE_READ (R415): up to 32 records. -/
def bodyTraceRead (h : CmdHdr) (n : Nat) (s : State) : Resp :=
  if n < 1 ∨ 32 < n then refuse stOutOfRange s
  else if !rTrace s ∨ !rStore s then refuse stNotReady s
  else
    let x := s.trace.ring.take (parN s bTRACE 0 Par.ctTraceRecords) (min n (roomFor h 16))
    okWith (w32 (x.1.length / 16) :: x.1) (modTrace (fun t => { t with ring := x.2 }) s)

end Sys2Proof.Machine
end

