-- ==== Sys2Proof/Machine/Pool.lean ====
section
/-! DEFINITION. The shared packet buffer (chapter 11): admission (R258), accounts (R259), pause (R260), credit return
(R71, R262, R265), WRED (R267) and the egress queues. -/

namespace Sys2Proof.Machine

/-- Changes account in(p, c). -/
def modIn (p c : Nat) (f : InAcct → InAcct) (s : State) : State :=
  modBuf (fun b => { b with ins := b.ins.set (8 * p + c) (f (b.ins.get InAcct.empty (8 * p + c))) }) s
/-- Changes egress queue `q` of port `p`. -/
def modOutQ (p q : Nat) (f : OutQ → OutQ) (s : State) : State :=
  modBuf (fun b => { b with outs := b.outs.set (8 * p + q) (f (b.outs.get OutQ.empty (8 * p + q))) }) s
/-- Changes the BF counters of a port. -/
def modCnt (p : Nat) (f : BufCnt → BufCnt) (s : State) : State :=
  modBuf (fun b => { b with cnt := b.cnt.set p (f (b.cnt.get BufCnt.reset p)) }) s
/-- Changes the FWD counters of a port. -/
def modFwd (p : Nat) (f : FwdCnt → FwdCnt) (s : State) : State :=
  modCore (fun k => { k with fwd := k.fwd.set p (f (k.fwd.get FwdCnt.reset p)) }) s
/-- Frame `k`. -/
def frameOf (s : State) (k : Nat) : Option Frame := s.core.frames.find k
/-- Changes frame `k`. -/
def modFrame (k : Nat) (f : Frame → Frame) (s : State) : State :=
  match frameOf s k with
  | some x => modCore (fun c => { c with frames := c.frames.set k (f x) }) s
  | none => s
/-- Changes edge port `p`. -/
def modEdge (p : Nat) (f : Edge → Edge) (s : State) : State :=
  { s with edges := s.edges.set p (f (s.edges.get Edge.reset p)) }
/-- Edge port `p`. -/
def edge (s : State) (p : Nat) : Edge := s.edges.get Edge.reset p

/-- What a frame event is filtered by, at port `p`. -/
def frameKey (f : Frame) (p : Nat) : CntKey := ⟨p, f.cls, f.channel, f.colour⟩

/-! ## Pause (R260, R92) -/

/-- BUF asserts or releases pause for class `c` of port `p`; the port owes the partner a frame (R92). -/
def setPause (p c : Nat) (v : Bool) (s : State) : State :=
  if asserted s p c = v then s
  else modEdge p (fun e => { e with due := setBit e.due c })
    (modBuf (fun b => { b with asserted := if v then b.asserted.set (8 * p + c) true else b.asserted.del (8 * p + c) }) s)

/-- The account has fallen to its release level (R260). -/
def pauseReleased (s : State) (p c : Nat) : Bool :=
  let a := inAcct s p c
  a.head == 0 && belowThr (a.shared - a.lossy + parN s (bP p) c Par.bpPfcHyst) (par s (bP p) c Par.bpAlphaIn) (poolFree s)

/-- Releases every pause whose account has fallen to its release level. -/
def reviewPause (s : State) : State :=
  s.buf.asserted.foldl (fun s e => if pauseReleased s (e.1 / 8) (e.1 % 8) then setPause (e.1 / 8) (e.1 % 8) false s else s) s

/-! ## Credits of a received frame (R71, R262, R265) -/

/-- `n` cells of class `c` go back to the far end through COUNT. -/
def oweCredit (p c n : Nat) (s : State) : State :=
  if isTrunk s p then modTrunk p (fun t => { t with owe := t.owe.set c (t.owe.get 0 c + (n : Int)) }) s else s

/-! ## Charging and freeing cells (R258, R259) -/

/-- Charges `n` cells to a part. -/
def InAcct.charge (part : Part) (n : Nat) (lossy : Bool) (a : InAcct) : InAcct :=
  let a := if lossy then { a with lossy := a.lossy + n } else a
  match part with
  | .reserved => { a with reserved := a.reserved + n }
  | .shared => { a with shared := a.shared + n }
  | .headroom => { a with head := a.head + n }
  | .credit => { a with credit := a.credit + n }
  | _ => a

/-- Relieves `n` cells: headroom first, then shared, then reserved or credit (R259). -/
def InAcct.relieve (n : Nat) (lossy : Bool) (a : InAcct) : InAcct :=
  let h := min n a.head
  let sh := min (n - h) a.shared
  let r := min (n - h - sh) a.reserved
  { head := a.head - h, shared := a.shared - sh, reserved := a.reserved - r, credit := a.credit - (n - h - sh - r),
    lossy := if lossy then a.lossy - n else a.lossy }

/-- Charges `n` more cells of frame `k` to its account, or to the orphans, and to the queues of its copies; a frame admitted while its class was demoted
returns their credit now (R265). -/
def chargeCells (k n : Nat) (s : State) : State :=
  match frameOf s k with
  | none => s
  | some f =>
    let s := modFrame k (fun f => { f with cells := f.cells + n }) s
    let s := f.copies.foldl (fun s c => modOutQ c.1 f.cls (fun q => { q with
      frames := q.frames.map (fun x => if x.1 = k then (k, x.2 + n) else x) }) s) s
    let s := if f.part = .orphan then modBuf (fun b => { b with orphans := b.orphans + n }) s
      else modIn f.inPort f.cls (InAcct.charge f.part n f.lossy) s
    if 0 < f.returned then
      oweCredit f.inPort f.cls n (modFrame k (fun f => { f with returned := f.returned + n }) s)
    else s

/-- Frees the cells that frame `f` holds. -/
def freeCells (f : Frame) (s : State) : State :=
  reviewPause (match f.part with
    | .none_ => s
    | .orphan => modBuf (fun b => { b with orphans := b.orphans - f.cells }) s
    | _ => modIn f.inPort f.cls (InAcct.relieve f.cells f.lossy) s)

/-- Whether a frame's cells go back to the far end as they are freed: not those of an orphaned frame, nor of one beyond
the allocation; a frame of a demoted class returned its cells at admission (R262, R265, R268). -/
def Frame.returns (f : Frame) : Bool := f.part != .orphan && !(f.lossy && f.returned == 0)

/-- A frame with no copy owed and no wait left frees its cells; once its end has been received nothing of it is left,
and the cells of its whole length have been returned (R71, R254, R262). -/
def settle (k : Nat) (s : State) : State :=
  match frameOf s k with
  | none => s
  | some f =>
    if !f.copies.isEmpty || f.waits then s
    else
      let owed := if !f.returns then 0 else (if f.ended then cellsOf f.bytes.length else f.cells) - f.returned
      let s := oweCredit f.inPort f.cls owed (freeCells f s)
      if f.ended then modCore (fun c => { c with frames := c.frames.del k }) s
      else modFrame k (fun f => { f with
        part := if f.part = .orphan then .orphan else .none_, cells := 0, returned := f.returned + owed }) s

/-! ## Admission (R258) -/

/-- What admission answers at the head of a frame. -/
inductive Admit where
  | take (part : Part)
  | wait
  | lossy (excess : Bool)
  deriving DecidableEq, Repr

/-- Admission by the account of port `p` and class `c`, before the lossy rules. -/
def admission (s : State) (p c : Nat) : Admit :=
  let a := inAcct s p c
  let g := fun n => parN s (bP p) c n
  if demoted s c then .lossy false
  else if credited s p c then
    if a.use < g Par.bpCreditAlloc + 64 then .take .credit else .lossy true
  else if losslessEdge s p c then
    if a.use < g Par.bpMinIn then .take .reserved
    else if belowThr a.shared (par s (bP p) c Par.bpAlphaIn) (poolFree s) then .take .shared
    else if a.head < g Par.bpHeadroom then .take .headroom
    else .wait
  else .lossy false

/-- The part a lossy frame is admitted from, none where it is dropped at ingress. -/
def lossyPart (s : State) (p c : Nat) : Option Part :=
  let a := inAcct s p c
  if !credited s p c && decide (a.use < parN s (bP p) c Par.bpMinIn) then some .reserved
  else if belowThr a.shared (par s (bP p) c Par.bpAlphaIn) (poolFree s) then some .shared
  else none

/-- Takes a frame into a part with the cells it needs so far; a first refusal by the shared threshold asserts pause. -/
def takeIn (k : Nat) (part : Part) (lossy : Bool) (cells : Nat) (s : State) : State :=
  match frameOf s k with
  | none => s
  | some f =>
    let dem := lossy && demoted s f.cls
    let s := modFrame k (fun f => { f with part := part, lossy := lossy && (dem || credited s f.inPort f.cls) }) s
    let s := if dem ∧ isTrunk s f.inPort then
        oweCredit f.inPort f.cls cells (modFrame k (fun f => { f with returned := cells }) s)
      else s
    let s := modFrame k (fun f => { f with cells := cells }) s
    let s := modIn f.inPort f.cls (InAcct.charge part cells (lossy && dem)) s
    let s := count bBUF 0x030 1 (frameKey f f.inPort) s
    if part = .headroom then setPause f.inPort f.cls true s else s

/-! ## WRED (R267) -/

/-- The WRED parameters MIN, MAX and PMAX of a profile and colour. -/
def wredPar (s : State) (prof col : Nat) : Nat × Nat × Nat :=
  let g := fun n => parN s bBUF (0x10 + prof) n
  (g (Par.wrGMin + 3 * col), g (Par.wrGMax + 3 * col), g (Par.wrGPmax + 3 * col))

/-- The profile of a class of a port. -/
def wredProfile (s : State) (p c : Nat) : Nat := parN s (bP p) c Par.bpWredProfile

/-- Whether WRED drops a copy of colour `col` for queue `c` of port `p`; the pipeline's LFSR, whose sequence the spec
does not give, moves to an open state whose low 8 bits are rnd8. -/
def wredDrops (inPort p c col : Nat) (s : State) : Bool × State :=
  let prof := wredProfile s p c
  if 16 ≤ prof then (false, s)
  else
    let x := wredPar s prof col
    let avg := (outQ s p c).avg
    if avg < x.1 * 256 then (false, s)
    else if x.2.1 * 256 ≤ avg then (true, s)
    else
      let d := drawNat s
      let v := d.1 % 2 ^ 32
      let s := modBuf (fun b => { b with lfsr := b.lfsr.set (pipeOf inPort) v }) d.2
      (decide (v % 256 < x.2.2 * (avg - x.1 * 256) / ((x.2.1 - x.1) * 256)), s)

/-- The average follows the depth at an enqueue or dequeue. -/
def updateAvg (p c : Nat) (s : State) : State :=
  let prof := wredProfile s p c
  if 16 ≤ prof then s
  else modOutQ p c (fun q => { q with
    avg := ((q.avg : Int) + ((q.depth * 256 : Nat) - (q.avg : Int)) / (2 ^ parN s bBUF (0x10 + prof) Par.wrWeight : Nat)).toNat }) s

/-! ## Egress queues -/

/-- Counts a flushed copy: BF_FLUSH of its queue, and the flush counter of its channel (R268). -/
def countFlush (f : Frame) (p : Nat) (s : State) : State :=
  let s := modCnt p (fun c => { c with flush := c.flush.set f.cls ((c.flush.get 0 f.cls + 1) % 2 ^ 32) }) s
  match f.channel with
  | some ch => modCore (fun k => { k with flushes := k.flushes.set ch ((k.flushes.get 0 ch + 1) % 2 ^ 16) }) s
  | none => s

/-! ## The credit-based shaper (R285) -/

/-- The transmitter of port `p` is sending a frame of queue `q`. -/
def sends (s : State) (p q : Nat) : Bool :=
  match (portSched s p).tx with
  | some (.queued _ q' _ _ _) => q' == q
  | _ => false

/-- The shaper credit of queue `q` now, in bits with 16 fraction bits, rounded down. -/
def cbsNow (s : State) (p q : Nat) : Int :=
  let o := outQ s p q
  let dt : Int := max 0 ((units s : Int) - o.last)
  let slope : Int := par s (bP p) q Par.sdIdleSlope
  if !(gatesNow s p).testBit q then o.credit
  else if sends s p q then o.credit + (slope - (frameRate (portMode s p) : Int)) * dt / 1000000
  else if !o.frames.isEmpty || decide (o.credit < 0) then
    min (o.credit + slope * dt / 1000000) (par s (bP p) q Par.sdHiCredit * 65536)
  else 0

/-- Brings the credits of the shaped queues of port `p` up to now, before anything they depend on changes. -/
def shapePort (p : Nat) (s : State) : State :=
  (List.range 8).foldl (fun s q =>
    if parN s (bP p) q Par.sdCbsEn = 1 then
      let v := cbsNow s p q
      modOutQ p q (fun o => { o with credit := v, last := (units s : Int) }) s
    else s) s

/-- A copy of frame `k` for port `p` is dropped with a reason of Table BF-3. -/
def dropCopy (k p reason : Nat) (s : State) : State :=
  match frameOf s k with
  | none => s
  | some f =>
    traceCopy f (droppedMarks p reason) (capture f p reason false (count bBUF 0x031 1 (frameKey f p) s))

/-- Offers a copy of frame `k` to port `p` (R258, R268): dropped for a port that is not UP, checked where the frame was
admitted as lossy, else it joins its queue. -/
def offerCopy (k : Nat) (checked : Bool) (p : Nat) (s : State) : State :=
  match frameOf s k with
  | none => s
  | some f =>
    let q := outQ s p f.cls
    if !portUp s p then dropCopy k p 5 (countFlush f p s)
    else if checked ∧ parN s (bP p) f.cls Par.bpMinOut ≤ q.depth
        ∧ !belowThr q.depth (par s (bP p) f.cls Par.bpAlphaOut) (poolFree s) then
      dropCopy k p 2 (modCnt p (fun c => { c with egress := (c.egress + 1) % 2 ^ 32 }) s)
    else
      let w := if checked then wredDrops f.inPort p f.cls f.colour s else (false, s)
      if w.1 then dropCopy k p 1 (modCnt p (fun c => { c with wred := (c.wred + 1) % 2 ^ 32 }) w.2)
      else
        let s := modOutQ p f.cls (fun q => { q with frames := q.frames ++ [(k, f.cells)] }) (shapePort p w.2)
        let s := modFrame k (fun f => { f with copies := f.copies ++ [(p, q.depth)] }) s
        let s := updateAvg p f.cls s
        if f.tagged then capture f p 0 false s else s

/-- A copy leaves its queue or is discarded: its egress account is relieved (R259). -/
def removeCopy (k p : Nat) (s : State) : State :=
  match frameOf s k with
  | none => s
  | some f =>
    let s := modOutQ p f.cls (fun q => { q with frames := q.frames.filter (fun x => x.1 ≠ k) }) (shapePort p s)
    updateAvg p f.cls (modFrame k (fun f => { f with copies := f.copies.filter (fun x => x.1 ≠ p) }) s)

/-! ## Headroom and credit requirements (R261, R263) -/

/-- RX_in + TX_out of a port in hundredths of a ns (Table SW-7). -/
def portDelays (m fec : Nat) : Nat :=
  match m with
  | 1 => 21000
  | 2 => 10000
  | 3 => 3900
  | 4 => if fec = 1 then 10470 else if fec = 2 then 26970 else 1970
  | 5 => 26500
  | _ => 0

/-- HEADROOM_REQ of a class of an edge port (R261), over the exact rational value. -/
def headroomReq (s : State) (p c : Nat) : Nat :=
  let m := portMode s p
  let mtu := portMtu s p
  let rate := frameRate m
  let fixed := (10 * parN s (bP p) c Par.bpCableLen + parN s (bP p) c Par.bpPartnerDelay) * 100
    + portDelays m (parN s (bP p) 0 Par.epFecMode)
  (rate * fixed + (mtu + 104) * 800000000 + 84 * 800000000 - 1) / (84 * 800000000) + cellsOf mtu

/-- CREDIT_REQ of a class of a trunk in TIMED or UP (R263); 0 before. -/
def creditReq (s : State) (p : Nat) : Nat :=
  if (trunk s p).link.code < 4 then 0
  else
    let tsb : Nat := if portMode s p = 6 then 291271 else 116508
    let d2 := (2 * (trunk s p).time.meanDelay).toNat * 100
    45 * ((d2 + tsb * 65536 - 1) / (tsb * 65536) + 2) + cellsOf (portMtu s p)

/-- HEADROOM_LOW of each lossless-edge class of a port whose HEADROOM is short (R261). -/
def checkHeadroom (p : Nat) (s : State) : State :=
  (List.range 8).foldl (fun s c =>
    let h := parN s (bP p) c Par.bpHeadroom
    let r := headroomReq s p c
    if losslessEdge s p c ∧ h < r then
      raise bBUF 7 (report bBUF 0x07 [w32 p, w32 c, w32 h, w32 r] s) else s) s

/-- CREDIT_SHORT of each credited class of a trunk whose allocation is short (R263). -/
def checkCredit (p : Nat) (s : State) : State :=
  (List.range 8).foldl (fun s c =>
    let a := parN s (bP p) c Par.bpCreditAlloc
    let r := creditReq s p
    if credited s p c ∧ a < r then
      raise bBUF 6 (report bBUF 0x06 [w32 p, w32 c, w32 a, w32 r] s) else s) s

end Sys2Proof.Machine
end

