-- ==== Sys2Proof/Machine/Ptp.lean ====
section
/-! DEFINITION. What an edge port does to frames on the way: transparent clock correction (R99) and the FEC counts of
R83. -/

namespace Sys2Proof.Machine

/-- Changes the PTP side of edge port `p`. -/
def modPtp (p : Nat) (f : PtpPort → PtpPort) (s : State) : State := modEdge p (fun e => { e with ptp := f e.ptp }) s

/-- The key of a held correction: domain and sequenceId. -/
def ptpKey (dom seq : Nat) : Nat := dom % 256 * 65536 + seq % 65536

/-- PTP_ROLE of port `p`, 0 on a port that is no edge port. -/
def ptpRole (s : State) (p : Nat) : Nat := if isEdge s p then parN s (bP p) 0 Par.epPtpRole else 0

/-- delayAsymmetry of port `p` (R100). -/
def ptpAsym (s : State) (p : Nat) : Int := par s (bP p) 0 Par.epPtpAsym

/-- delayAsymmetry in the correctionField of an event message on its way through (R100; IEEE 1588-2019, 11.6): added for
its ingress port to a Sync and a Pdelay_Resp, taken off for its egress port from a Delay_Req and a Pdelay_Req. -/
def tcAsym (s : State) (p inPort kind : Nat) : Int :=
  if kind = 0 ∨ kind = 3 then ptpAsym s inPort else -(ptpAsym s p)

/-- What egress port `p` adds to the correctionField of a message of type `kind` that spent `resid` in the device: with
PTP_STEP = 0, or where one-step is not supported, a Sync's correction waits for its Follow_Up (R99, Table EP-5). -/
def tcAdds (p inPort kind dom seq : Nat) (twoStep : Bool) (resid : Int) (s : State) : Int × State :=
  let role := ptpRole s p
  if role ≠ 2 ∧ role ≠ 3 then (0, s)
  else if kind ≤ 3 then
    let path := (if role = 3 ∧ kind = 0 then (edge s inPort).ptp.meanDelay else 0) + tcAsym s p inPort kind
    if kind = 0 ∧ twoStep then (0, modPtp p (fun x => { x with held := x.held.set (ptpKey dom seq) (resid + path) }) s)
    else (resid + path, s)
  else if kind = 8 then
    match (edge s p).ptp.held.find (ptpKey dom seq) with
    | some d => (d, modPtp p (fun x => { x with held := x.held.del (ptpKey dom seq) }) s)
    | none => (0, s)
  else (0, s)

/-- `l` with the bytes from `i` on replaced by `b`. -/
def putBytes (l : List Byte) (i : Nat) (b : List Byte) : List Byte := l.take i ++ b ++ l.drop (i + b.length)

/-- A PTP frame leaves edge port `p` at `stamp`: its body, without FCS, corrected (R99).  The UDP checksum becomes 0
over IPv4; over IPv6, where the spec gives no rule, it is an open value. -/
def ptpCorrected (p inPort stampIn stamp : Nat) (body : List Byte) (s : State) : List Byte × State :=
  match ptpOffset body (parse body) with
  | none => (body, s)
  | some (tr, o) =>
    let kind := beAt body o 1 % 16
    let twoStep := parN s (bP p) 0 Par.epPtpStep == 0 || tr == 2
    let r := tcAdds p inPort kind (beAt body (o + 4) 1) (beAt body (o + 30) 2) twoStep (signed48 stamp stampIn) s
    if r.1 = 0 then (body, r.2)
    else
      let corr := sext 64 (beAt body (o + 8) 8) + r.1
      let l := putBytes body (o + 8) (bytesBE 8 (wrapN 64 corr))
      if tr = 1 then (putBytes l (o - 2) [0, 0], r.2)
      else if tr = 2 then
        let d := drawNat r.2
        (putBytes l (o - 2) (bytesBE 2 d.1), d.2)
      else (l, r.2)

/-- The codewords of a received frame on a port with RS-FEC (R83): no command carries their numbers, which are open; a
frame the port ended bad with INGRESS_ERROR had an uncorrectable one.  More than 16 within 1 s raise FEC_UNCORR. -/
def countFec (p : Nat) (how : FrameEnd) (s : State) : State :=
  if fecOf s p < 2 then s
  else
    let (n, s) := drawNat s
    let s := modEdge p (fun e => { e with fecCorr := (e.fecCorr + n) % 2 ^ 32 }) s
    match how with
    | .endedBad 3 =>
      let (m, s) := drawNat s
      let m := 1 + m % 32
      let now := s.ticks
      let at_ := ((edge s p).fecAt.filter (fun t => decide (now < t + 625000000))) ++ List.replicate m now
      let s := modEdge p (fun e => { e with fecUncorr := (e.fecUncorr + m) % 2 ^ 32, fecAt := at_.drop (at_.length - 17) }) s
      if 16 < at_.length then raise (bP p) 3 s else s
    | _ => s

end Sys2Proof.Machine
end

