-- ==== Sys2Proof/Machine/Shafts.lean ====
section
/-! DEFINITION. Shafts (chapter 09, R201 to R214): exact angles, segment queues, states, joins, gearing, claims and the
distribution of segments. -/

namespace Sys2Proof.Machine

/-- Shaft `n`. -/
def shaft (s : State) (n : Nat) : Shaft := s.shaft.shafts.get Shaft.reset n
/-- Changes SHAFT. -/
def modSh (f : ShaftBlk → ShaftBlk) (s : State) : State := { s with shaft := f s.shaft }
/-- Changes shaft `n`. -/
def modShaft (n : Nat) (f : Shaft → Shaft) (s : State) : State :=
  modSh (fun b => { b with shafts := b.shafts.set n (f (b.shafts.get Shaft.reset n)) }) s

/-- 2^-16 ns in a second (R202). -/
abbrev perSec : Nat := 65536000000000

/-- µs in 2^-16 ns. -/
def usU (n : Nat) : Int := (n * 65536000 : Nat)

/-! ## One segment (R201, R202) -/

/-- SPAN in 2^-16 ns (Table SH-2). -/
def Seg.span (g : Seg) : Int := usU (g.flags / 256 % 256 * 2 ^ (g.flags / 16 % 16))
/-- FINAL. -/
def Seg.final (g : Seg) : Bool := g.flags.testBit 3
/-- REBASE. -/
def Seg.rebase (g : Seg) : Bool := g.flags.testBit 2

/-- The angle of a segment's polynomial at an instant, rounded once (R202), before it wraps. -/
def Seg.angle (g : Seg) (v : Int) : Int :=
  let d := v - g.t0
  let k : Int := perSec
  roundDiv (6 * k ^ 3 * g.theta + 6 * k ^ 2 * g.omega * d + 48 * k * g.alpha * d ^ 2 + 65536 * g.jerk * d ^ 3)
    (6 * perSec ^ 3)

/-- Twice perSec² times the speed of a segment's polynomial at an instant, exact. -/
def Seg.speedN (g : Seg) (v : Int) : Int :=
  let d := v - g.t0
  let k : Int := perSec
  2 * k ^ 2 * g.omega + 32 * k * g.alpha * d + 65536 * g.jerk * d ^ 2

/-- The speed of a segment's polynomial at an instant, rounded once (R202). -/
def Seg.speed (g : Seg) (v : Int) : Int := roundDiv (g.speedN v) (2 * perSec ^ 2)

/-- The end of a segment (R205). -/
def Seg.fin (g : Seg) : Int := g.t0 + g.span

/-- t0 + 2 s, where an extrapolation becomes a coast (Table SH-3). -/
def Seg.coastAt (g : Seg) : Int := g.t0 + 2 * (perSec : Nat)

/-- The constant-speed continuation of COASTING. -/
def Seg.coast (g : Seg) : Seg :=
  { t0 := g.coastAt, theta := g.angle g.coastAt, omega := g.speed g.coastAt, alpha := 0, jerk := 0, flags := 0, claim := 0 }

/-- The standstill of HELD. -/
def Seg.hold (g : Seg) : Seg :=
  { t0 := g.fin, theta := g.angle g.fin, omega := 0, alpha := 0, jerk := 0, flags := 0, claim := 0 }

/-- The polynomial that Table SH-3 applies at an instant to a shaft whose last segment in force is `g`. -/
def Seg.rule (g : Seg) (v : Int) : Seg :=
  if g.final && decide (g.fin ≤ v) then g.hold
  else if decide (g.coastAt ≤ v) && !g.final then g.coast
  else g

/-- The speed of a segment times `num` / `den` stays within ±2,000 turns/s at t0, at `fin` and at the stationary point
between (R203, R210). -/
def Seg.speedWithin (g : Seg) (fin : Int) (num den : Nat) : Bool :=
  let lim : Int := 2 * (perSec : Int) ^ 2 * (2000 * 2 ^ 32) * den
  let ok := fun (n : Int) => decide (|n| * num ≤ lim)
  let a : Int := 65536 * g.jerk
  let b : Int := 32 * (perSec : Int) * g.alpha
  let c : Int := 2 * (perSec : Int) ^ 2 * g.omega
  let inside := if 0 < a then decide (b < 0) && decide (-b < 2 * a * (fin - g.t0))
    else if a < 0 then decide (0 < b) && decide (b < 2 * (-a) * (fin - g.t0)) else false
  ok (g.speedN g.t0) && ok (g.speedN fin)
    && (!inside || decide (|4 * a * c - b ^ 2| * num ≤ 4 * |a| * lim))

/-- The speed of a segment stays within ±2,000 turns/s (R203). -/
def Seg.speedOk (g : Seg) : Bool := g.speedWithin g.fin 1 1

/-! ## Trajectories (R204, R205, R210) -/

/-- The segments of a shaft in order of t0: the one in force, then the queued ones. -/
def Shaft.segs (h : Shaft) : List Seg := h.force.toList ++ h.queue.map (·.1)

/-- The last of the segments whose start is not after an instant; each is given with its start. -/
def segAt (v : Int) : List (Int × Seg) → Option Seg
  | [] => none
  | e :: r => if e.1 ≤ v then (match segAt v r with | some x => some x | none => some e.2) else none

/-- The segments of a shaft's present course with the instants from which they are in force. -/
def Shaft.course (h : Shaft) : List (Int × Seg) :=
  (h.force.map (fun g => (h.since, g))).toList ++ h.queue.map (fun e => (e.1.t0, e.1))

/-- What gives a shaft its angle at an instant on its present course (R204, R207). -/
def Shaft.present (h : Shaft) (v : Int) : Option Course :=
  if h.source = 0 then none
  else if h.source = 4 then h.gear.map .geared
  else (segAt (max v h.since) h.course).map .own

/-- What gives a shaft its angle at an instant. -/
def Shaft.courseAt (h : Shaft) (v : Int) : Option Course :=
  if h.since ≤ v then h.present v
  else match h.past.find? (fun e => decide (e.1 ≤ v)) with
    | some e => e.2
    | none => h.present v

/-- The courses of the past that reach beyond an instant; `until_` is the end of the newest. -/
def keepPast (v : Int) : Int → List (Int × Option Course) → List (Int × Option Course)
  | _, [] => []
  | until_, e :: r => if until_ ≤ v then [] else e :: keepPast v e.1 r

/-- A new course begins at an instant: the present one is past, and is kept for 2 ms, twice the largest TIME_OFFSET. -/
def Shaft.turns (v : Int) (h : Shaft) : Shaft :=
  { h with past := keepPast (v - usU 2000) v ((h.since, h.present (v - 1)) :: h.past), since := v }

/-- num × x / den floored. -/
def Gear.apply (g : Gear) (x : Int) : Int := g.num * x / (g.den : Int)

/-- The derived angle (R210), which wraps (R202). -/
def Gear.angle (g : Gear) (x : Int) : Int := wrapI 64 (g.apply x + g.offset)

/-- Angle and speed of shaft `n` at an instant, along a chain of at most `fuel` gears (R205, R210); angles wrap modulo
2^32 turns (R202). -/
def evalShaft (s : State) : Nat → Nat → Int → Option (Int × Int)
  | 0, _, _ => none
  | f + 1, n, v =>
    match (shaft s n).courseAt v with
    | none => none
    | some (.own g) => some (wrapI 64 ((g.rule v).angle v), (g.rule v).speed v)
    | some (.geared g) => (evalShaft s f g.src v).map (fun x => (g.angle x.1, g.apply x.2))

/-- Angle and speed of shaft `n` at an instant. -/
def shaftAt (s : State) (n : Nat) (v : Int) : Option (Int × Int) := evalShaft s 5 n v

/-- The angle alone. -/
def angleAt (s : State) (n : Nat) (v : Int) : Option Int := (shaftAt s n v).map (·.1)

/-- The chain of gears of shaft `n` at an instant, and the shaft with a trajectory of its own that it ends at. -/
def chainAt (s : State) : Nat → Nat → Int → Option (List Gear × Nat)
  | 0, _, _ => none
  | f + 1, n, v =>
    match (shaft s n).courseAt v with
    | none => none
    | some (.own _) => some ([], n)
    | some (.geared g) => (chainAt s f g.src v).map (fun c => (g :: c.1, c.2))

/-- The state of shaft `n`: a derived one takes its source's (R210). -/
def stateOfShaft (s : State) : Nat → Nat → ShaftState
  | 0, _ => .waiting
  | f + 1, n =>
    let h := shaft s n
    if h.source = 0 then .off
    else if h.source = 4 then
      match h.gear with
      | none => .waiting
      | some g => stateOfShaft s f g.src
    else if h.force.isNone then .waiting
    else h.state

/-- The state of shaft `n` (Table SH-3). -/
def shaftState (s : State) (n : Nat) : ShaftState := stateOfShaft s 5 n

/-- The shaft is running (R205). -/
def shaftRunning (s : State) (n : Nat) : Bool := 2 ≤ (shaftState s n).code

/-- Shaft `d` is shaft `n` or derived from it, over at most `f` gears. -/
def derivesFrom (s : State) : Nat → Nat → Nat → Bool
  | 0, d, n => d == n
  | f + 1, d, n =>
    d == n || ((shaft s d).source == 4 &&
      (match (shaft s d).gear with
       | some g => derivesFrom s f g.src n
       | none => false))

/-- Shaft `d` follows the trajectory of shaft `n`. -/
def follows (s : State) (d n : Nat) : Bool := derivesFrom s 4 d n

/-- A profiled or captured shaft is held as a mirror while the unit's role is standby, and until a takeover has ended
(R212, Table PR-3, Table PR-4). -/
def isMirror (s : State) (n : Nat) : Bool :=
  ((shaft s n).source == 1 || (shaft s n).source == 2) &&
    (match s.pair.state with
     | some .listening | some .standby | some .failed => true
     | some .active => s.pair.takeover.isSome
     | _ => false)

/-! ## What a change of state reports (R205, R451) -/

/-- Reports the state changes of the shafts listed between two states of the device. -/
def reportShaftList (s0 : State) : List Nat → State → State
  | [], s => s
  | n :: r, s =>
    let a := shaftState s0 n
    let b := shaftState s n
    let s' := if a = b then s
      else
        let x := report bSHAFT 0x01 [w32 n, w32 b.code, w32 a.code] s
        if b = .late then raise bSHAFT 0 x else if b = .coasting then raise bSHAFT 2 x else x
    reportShaftList s0 r s'

/-- Reports every shaft's change of state since `s0`. -/
def reportShafts (s0 s : State) : State := reportShaftList s0 (List.range 64) s

/-- The shaft with a trajectory of its own that shaft `n` derives from, and the ratio along the gears. -/
def gearRatio (s : State) : Nat → Nat → Option (Nat × Int × Nat)
  | 0, _ => none
  | f + 1, n =>
    let h := shaft s n
    if h.source = 4 then
      match h.gear with
      | none => none
      | some g => (gearRatio s f g.src).map (fun r => (r.1, r.2.1 * g.num, r.2.2 * g.den))
    else some (n, 1, 1)

/-- The speed of a shaft with its own trajectory, times `num` / `den`, stays within ±2,000 turns/s: over its segment in
force, over the extrapolation while LATE, and at its constant speed while COASTING (R210, Table SH-3). -/
def ownSpeedWithin (h : Shaft) (num den : Nat) : Bool :=
  match h.force, h.state with
  | some g, .late => g.speedWithin g.coastAt num den
  | some g, .coasting => g.coast.speedWithin g.coastAt num den
  | some g, .running => g.speedWithin g.fin num den
  | _, _ => true

/-- A derived shaft's speed exceeds ±2,000 turns/s (R210). -/
def speedOver (s : State) : Bool :=
  (List.range 64).any (fun n => (shaft s n).source == 4 &&
    (match gearRatio s 5 n with
     | some r => !ownSpeedWithin (shaft s r.1) r.2.1.natAbs r.2.2
     | none => false))

/-- SPEED_LIMIT as a lasting condition of any derived shaft. -/
def reviewSpeed (s : State) : State := if speedOver s then beginCause bSHAFT 8 s else endCause bSHAFT 8 s

/-! ## Trajectory changes (R218) -/

/-- A target is one of shaft `n` or of a shaft derived from it. -/
def Planned.on (s : State) (n : Nat) (p : Planned) : Bool := follows s p.shaft n

/-- A search that begins at an instant: it knows what the angle was just before (R216). -/
def cursorAt (s : State) (n : Nat) (v : Int) : Cursor :=
  { upTo := v - 1, prev := (chainAt s 5 n v).bind (fun c => angleAt s c.2 (v - 1)) }

/-- A search that has gone beyond an instant goes back to it. -/
def Cursor.back (s : State) (n : Nat) (v : Int) (c : Cursor) : Cursor := if v ≤ c.upTo then cursorAt s n v else c

/-- The shaft of a conversion lane (R224): that of a pending COMMIT, of a gear change, of a port's angle list. -/
def laneShaft (s : State) (k : Nat) : Option Nat :=
  if k = 0 then s.keep.commit.map (·.shaft)
  else if k ≤ 64 then (shaft s (k - 1)).pend.map (·.arg.src)
  else (portSched s (k - 65)).gcl.bind (fun g => if g.ref = 1 then some g.shaft else none)

/-- A committed target that the new trajectory has yet to cross is not planned again until crossed the other way. -/
def spendCommitted (p : Planned) (s : State) : State :=
  match s.shaft.slots.find p.slot with
  | none => s
  | some x =>
    let ahead := match angleAt s p.shaft (units s) with
      | some a => let d := wrapI 64 (p.angle - a)
                  if p.rising then decide (0 < d) else decide (d < 0)
      | none => false
    if ahead && !x.spent.contains (p.angle, p.rising) then
      modSh (fun b => { b with slots := b.slots.set p.slot { x with spent := (p.angle, p.rising) :: x.spent } }) s
    else s

/-- The trajectory of shaft `n` has changed from instant `v` on (R218): the searches of its events and of those derived
from it go back there, and of its targets with a crossing from there on those within the 2 µs commit horizon are
committed. -/
def markChange (n : Nat) (v : Int) (s : State) : State :=
  let mine := fun (p : Planned) => p.on s n && decide (v ≤ p.cross)
  let near := fun (p : Planned) => mine p && !p.flags.testBit 2 && decide (p.fire ≤ (units s : Int) + usU 2)
  let commit := fun (p : Planned) => if near p then { p with flags := p.flags ||| 4 } else p
  let slot := fun (e : Nat × SectorSlot) =>
    let m := e.2.arg.shaft
    if follows s m n then (e.1, { e.2 with up := e.2.up.back s m v, down := e.2.down.back s m v }) else e
  let lane := fun (e : Nat × Cursor) =>
    match laneShaft s e.1 with
    | some m => if follows s m n then (e.1, e.2.back s m v) else e
    | none => e
  let done := s.shaft.tq.filter near
  let was := (shaft s n).changed
  let s' := modSh (fun b => { b with slots := b.slots.map slot, lanes := b.lanes.map lane, tq := b.tq.map commit }) s
  let s' := modShaft n (fun h => { h with
    changed := some (match was with
      | some (u, k) => (min u v, k + done.length)
      | none => (v, done.length)) }) s'
  let s' := done.foldl (fun s p => spendCommitted p s) s'
  if (s.shaft.tq.filter mine).length ≤ parN s bSHAFT 0xF0 Par.shReplanFree ∨ s.shaft.burst then s'
  else
    match govRequest .plannerBurst s' with
    | (.queued, s) => modSh (fun b => { b with burst := true }) s
    | (_, s) => s

/-! ## Joins (R206) -/

/-- The state of a shaft at an instant whose segment in force is `g` (Table SH-3). -/
def stateIn (g : Seg) (v : Int) : ShaftState :=
  if g.final && decide (g.fin ≤ v) then .held
  else if decide (g.coastAt ≤ v) then .coasting
  else if decide (g.fin ≤ v) then .late
  else .running

/-- A segment comes into force at instant `v` (R204, R206). -/
def joinSeg (n : Nat) (g : Seg) (short : Bool) (v : Int) (s : State) : State :=
  let s0 := s
  let old := (shaft s n).force.map (fun x => (x.rule v).angle v)
  let d := match old with
    | some a => wrapI 64 ((g.rule v).angle v - a)
    | none => 0
  let outOfTurn := decide (g.t0 < v)
  let s := modShaft n (fun h => { h.turns v with
    force := some g
    queue := h.queue.filter (fun x => decide (g.t0 < x.1.t0))
    state := stateIn g v
    discont := d }) s
  let s := if old.isSome ∧ !g.rebase ∧ par s bSHAFT n Par.shContLimit < |d| then raise bSHAFT 1 s else s
  let s := report bSHAFT 0x02
    ([w32 n] ++ w64 (wrapN 48 g.t0) ++ w64 (wrapN 48 v) ++ w64i d ++ [w32 (b2n outOfTurn + b2n short * 2)]) s
  let s := if outOfTurn then markChange n v s else s
  reviewSpeed (reportShafts s0 s)

/-- SEGMENT_IN_FORCE (R204, R206): the next queued segment's t0 has come, or a later one's with it.  It comes into force
at its t0, or where the shaft began to wait after that, then. -/
def effSegmentInForce (n : Nat) (s : State) : State :=
  let h := shaft s n
  let due := h.queue.filter (fun x => decide (x.1.t0 ≤ (units s : Int)))
  match (due.getLast?).orElse (fun _ => h.queue.head?) with
  | none => s
  | some (g, short) =>
    if !rShaft s ∨ h.source = 0 ∨ h.source = 4 then s
    else joinSeg n g short (max g.t0 h.since) (passTo g.t0 s)

/-- SEG_LATE (Table SH-3): the segment in force ends with no successor. -/
def effSegLate (n : Nat) (s : State) : State :=
  let h := shaft s n
  match h.force with
  | none => s
  | some g =>
    if h.source = 0 ∨ h.source = 4 ∨ h.state ≠ .running ∨ h.queue.any (fun x => decide (x.1.t0 ≤ g.fin)) ∨ !rShaft s then s
    else
      let s0 := passTo g.fin s
      let s := modShaft n (fun h => { h with state := if g.final then .held else .late }) s0
      reviewSpeed (reportShafts s0 s)

/-- COASTING (Table SH-3): two seconds after the t0 of the extrapolated segment. -/
def effCoasting (n : Nat) (s : State) : State :=
  let h := shaft s n
  match h.force with
  | none => s
  | some g =>
    if h.source = 0 ∨ h.source = 4 ∨ h.state ≠ .late ∨ !rShaft s then s
    else
      let s0 := passTo g.coastAt s
      reviewSpeed (reportShafts s0 (modShaft n (fun h => { h with state := .coasting }) s0))

/-! ## Segment records (Table DF-12) and acceptance (R203, R204) -/

/-- The segment of a 288-bit record, its t0 on the unwrapped counter. -/
def readRecord (s : State) (r : Nat) : Seg :=
  { t0 := dueOf s (r / 2 ^ 240 % 2 ^ 48), theta := sext 64 (r / 2 ^ 176), omega := sext 48 (r / 2 ^ 128),
    alpha := sext 48 (r / 2 ^ 80), jerk := sext 32 (r / 2 ^ 48), flags := r / 2 ^ 16 % 2 ^ 16, claim := r / 2 ^ 32 % 2 ^ 16 }

/-- The record of a segment, with its CRC-16 over record bits 287:16. -/
def writeRecord (g : Seg) : Nat :=
  let b := wrapN 48 g.t0 * 2 ^ 240 + wrapN 64 g.theta * 2 ^ 176 + wrapN 48 g.omega * 2 ^ 128 + wrapN 48 g.alpha * 2 ^ 80
    + wrapN 32 g.jerk * 2 ^ 48 + g.claim % 2 ^ 16 * 2 ^ 32 + g.flags % 2 ^ 16 * 2 ^ 16
  b + crcMsb 16 0x1021 0xFFFF (bitsMsb 272 (b / 2 ^ 16))

/-- The conditions of R203 on a segment. -/
def segValid (s : State) (g : Seg) : Bool :=
  let far := nsAhead s (wrapN 48 g.t0)
  decide (usU 1 ≤ g.span) && decide (g.span ≤ usU 2000000) && decide (|far| ≤ 2000000000)
    && decide ((units s : Int) < g.fin) && g.speedOk

/-- What acceptance found (R203, R204). -/
inductive SegAnswer where
  | taken
  | duplicate
  | invalid
  | full
  deriving DecidableEq, Repr

/-- Offers a segment to a shaft's queue (R203, R204): a duplicate, an invalid one and one without room change nothing;
an accepted one removes the queued segments from its t0 on and, if its t0 has passed, comes into force at once; ahead
of its t0 it changes the trajectory from there on, which so far was the continuation of Table SH-3 (R216, R218). -/
def acceptSeg (n : Nat) (g : Seg) (short : Bool) (s : State) : SegAnswer × State :=
  let h := shaft s n
  if h.segs.contains g then (.duplicate, s)
  else if !segValid s g then (.invalid, s)
  else
    let keep := h.queue.filter (fun x => decide (x.1.t0 < g.t0))
    let dropForce := match h.force with | some f => decide (g.t0 ≤ f.t0) | none => false
    if 16 ≤ keep.length + (if h.force.isSome && !dropForce then 1 else 0) then (.full, s)
    else
      let v : Int := units s
      if g.t0 ≤ v then
        (.taken, joinSeg n g short v (modShaft n (fun h => { h with queue := keep.filter (fun x => decide (v < x.1.t0)) }) s))
      else
        let s := modShaft n (fun h => { h with queue := keep ++ [(g, short)] }) s
        let s := report bSHAFT 0x03 ([w32 n] ++ w64 (wrapN 48 g.t0) ++ [w32 (b2n short)]) s
        (.taken, markChange n g.t0 s)

/-! ## Distribution (R213) -/

/-- Queues a segment's record for one trunk. -/
def sendSegment (n : Nat) (g : Seg) (p : Nat) (s : State) : State :=
  let t := trunk s p
  if t.link.code < 4 ∨ !isTrunk s p then s
  else if 64 ≤ t.tx.shaftQ.length then raise bSHAFT 6 s
  else
    let id := t.tx.segIds.get 0 n
    setTrunk p { t with tx := { t.tx with
      shaftQ := t.tx.shaftQ ++ [{ shaft := n, segId := id, frag := 0, bits := writeRecord g }]
      segIds := t.tx.segIds.set n ((id + 1) % 8) } } s

/-- Sends a segment on every trunk in TIMED or UP but the one it came by (R213). -/
def distribute (n : Nat) (g : Seg) (from_ : Option Nat) (s : State) : State :=
  if parN s bSHAFT n Par.shDist = 1 then
    ((List.range 64).filter (fun p => from_ != some p)).foldl (fun s p => sendSegment n g p s) s
  else s

/-- SEG_REJECTED (R203). -/
def countRejected (n : Nat) (s : State) : State :=
  raise bSHAFT 3 (modShaft n (fun h => { h with rejected := (h.rejected + 1) % 2 ^ 32 }) s)

/-- SEG_DUP (R204). -/
def countDup (n : Nat) (s : State) : State := modShaft n (fun h => { h with dup := (h.dup + 1) % 2 ^ 16 }) s

/-- A record completed on trunk `p` is offered to its shaft by claim (R209). -/
def offerRecord (p n rec : Nat) (s : State) : State :=
  let h := shaft s n
  let g := readRecord s rec
  if !rShaft s ∨ ¬(h.source = 3 ∨ isMirror s n) then s
  else if g.claim < h.claim then modShaft n (fun h => { h with low := (h.low + 1) % 2 ^ 16 }) s
  else match acceptSeg n g false s with
    | (.duplicate, s) => countDup n s
    | (.invalid, s) => countRejected n s
    | (.full, s) => countRejected n s
    | (.taken, s) =>
      let s := if h.claim < g.claim then
        report bSHAFT 0x07 [w32 n, w32 g.claim] (modShaft n (fun h => { h with claim := g.claim }) s) else s
      distribute n g (some p) s

/-- CLAIM_TIMEOUT (R209). -/
def effClaimTimeout (n : Nat) (s : State) : State :=
  if (shaft s n).claim = 0 then s
  else report bSHAFT 0x07 [w32 n, 0] (modShaft n (fun h => { h with claim := 0 }) s)

/-- SEGMENT_PUSH (R203, R204, R207, R212, R214): the device puts its own claim into the record. -/
def bodySegmentPush (n : Nat) (rec : Nat) (s : State) : Resp :=
  if 64 ≤ n then refuse stOutOfRange s
  else if !rShaft s then refuse stNotReady s
  else if (shaft s n).source ≠ 1 then refuse stBadClass s
  else if isMirror s n then refuse stNotActive s
  else
    let g := { readRecord s rec with claim := ownClaim s }
    let short := decide (g.t0 < (units s : Int) + usU (parN s bSHAFT n Par.shLead))
    match acceptSeg n g short s with
    | (.invalid, s) => refuse stOutOfRange s
    | (.full, s) => refuse stNoResource s
    | (.duplicate, s) => let s := countDup n s; okWith (w64 (shaft s n).segs.length) s
    | (.taken, s) => let s := distribute n g none s; okWith (w64 (shaft s n).segs.length) s

/-! ## Gearing (R210, R211) -/

/-- The sources that shaft `d` is geared from or is to be, whatever its source now is (R210). -/
def gearSources (s : State) (d : Nat) : List Nat :=
  ((shaft s d).gear.map (·.src)).toList ++ ((shaft s d).pend.map (·.arg.src)).toList

/-- Shaft `d` would reach shaft `n` over at most `f` gears. -/
def gearReaches (s : State) : Nat → Nat → Nat → Bool
  | 0, d, n => d == n
  | f + 1, d, n => d == n || (gearSources s d).any (fun e => gearReaches s f e n)

/-- The length of the longest chain of gears below a shaft, at most `f`. -/
def chainDepth (s : State) : Nat → Nat → Nat
  | 0, _ => 0
  | f + 1, n => (gearSources s n).foldl (fun a e => max a (chainDepth s f e + 1)) 0

/-- The length of the longest chain of gears above a shaft, at most `f`. -/
def chainAbove (s : State) : Nat → Nat → Nat
  | 0, _ => 0
  | f + 1, n =>
    (List.range 64).foldl (fun a d =>
      if d ≠ n ∧ (gearSources s d).contains n then max a (chainAbove s f d + 1) else a) 0

/-- GEAR_CHANGED with an outcome of R211. -/
def gearChanged (n outcome : Nat) (tg : Int) (s : State) : State :=
  let g := (shaft s n).gear.getD ⟨0, 0, 1, 0⟩
  completeWith 0x0C03 n bSHAFT 0x06
    ([w32 n, w32 outcome] ++ w64 (wrapN 48 tg) ++ w64i g.num ++ w64 g.den ++ w64i g.offset)
    (if outcome = 0 then stOk else stNotReady) s

/-- Applies a gear change at t_g (R211, R206). -/
def applyGear (n : Nat) (a : GearArgs) (tg : Int) (s : State) : State :=
  let s0 := s
  let old := match (shaft s n).gear with
    | some g => (angleAt s g.src tg).map g.angle
    | none => none
  let src := angleAt s a.src tg
  let raw : Gear := { src := a.src, num := a.num, den := a.den, offset := a.offset }
  let off := if a.cont then
      match old, src with
      | some o, some x => wrapI 64 (o - raw.apply x)
      | _, _ => a.offset
    else a.offset
  let s := modShaft n (fun h =>
    let h := if h.source = 4 then h.turns tg else h
    { h with gear := some { raw with offset := off }, pend := none }) s
  let s := if a.cont then s else
    match old, src with
    | some o, some x =>
      let d := wrapI 64 (raw.apply x + off - o)
      let s := modShaft n (fun h => { h with discont := d }) s
      let s := if par s bSHAFT n Par.shContLimit < |d| then raise bSHAFT 1 s else s
      report bSHAFT 0x02 ([w32 n] ++ w64 (wrapN 48 tg) ++ w64 (wrapN 48 tg) ++ w64i d ++ [0]) s
    | _, _ => s
  reviewSpeed (reportShafts s0 (markChange n tg s))

/-- Drops a pending gear change with an outcome. -/
def dropGear (n outcome : Nat) (s : State) : State :=
  match (shaft s n).pend with
  | none => s
  | some p =>
    let s := dropTargets (gearSlot n) (modSh (fun b => { b with lanes := b.lanes.del (n + 1) }) s)
    gearChanged n outcome (p.tg.getD 0) (modShaft n (fun h => { h with pend := none }) s)

/-! ## Time set, stop and source (R205, R207, R220, R341) -/

/-- TIME_SET empties every segment queue and drops every pending gear change (R220). -/
def shaftsTimeSet (s : State) : State :=
  let s0 := s
  let now : Int := units s
  let s := modSh (fun b => { b with shafts := b.shafts.map (fun e => (e.1, { e.2 with
    force := none
    queue := []
    state := .waiting
    since := now
    past := [] })) }) s
  reportShafts s0 ((List.range 64).foldl (fun s n => dropGear n 3 s) s)

/-- The counter has gone back behind the start of a shaft's course: the course holds from now on. -/
def coursesFollow (s : State) : State :=
  let now : Int := units s
  modSh (fun b => { b with shafts := b.shafts.map (fun e =>
    if now < e.2.since then (e.1, { e.2 with since := now, past := [] }) else e) }) s

/-- The source of a shaft becomes `src` (R205, R207): its segments stay in the queue, and a shaft that was OFF waits for
its first one. -/
def Shaft.toSource (src : Nat) (v : Int) (h : Shaft) : Shaft :=
  let x := { h.turns v with source := src }
  if src = 0 then { x with queue := (h.force.map (fun g => (g, false))).toList ++ h.queue, force := none, state := .off }
  else if h.source = 0 then { x with state := .waiting }
  else match h.force with
    | some g => { x with state := if h.source = 4 then stateIn g v else h.state }
    | none => { x with state := .waiting }

/-- A COMMIT applies the sources of SHAFT (R205, R207). -/
def applyShafts (s : State) : State :=
  let s0 := s
  let now : Int := units s
  let s := (List.range 64).foldl (fun s n =>
    let src := parN s bSHAFT n Par.shShaftSource
    if (shaft s n).source = src then s
    else markChange n now (modShaft n (Shaft.toSource src now) s)) s
  reviewSpeed (reportShafts s0 s)

/-- SHAFT_SNAP_CTRL: latches rolling time, angle and speed of one shaft in one tick (R202). -/
def effShaftSnapCtrl (v : Nat) (s : State) : State :=
  if (hdr s bSHAFT).state = .off then s
  else
    let n := v % 64
    let x := if rGuhRun s ∧ shaftRunning s n then shaftAt s n (units s) else none
    modSh (fun b => { b with snapSel := n, snapValid := x.isSome,
                             snapTime := if rGuhRun s then rolling s else 0,
                             snapAngle := (x.map (fun y => wrapN 64 y.1)).getD 0,
                             snapSpeed := (x.map (fun y => wrapN 48 y.2)).getD 0 }) s

end Sys2Proof.Machine
end

