-- ==== Sys2Proof/Machine/Cross.lean ====
section
/-! DEFINITION. Crossings (R216): the earliest instant of the 2^-16 ns grid at which a shaft, on its trajectory as known
now, reaches a target it had not reached one grid step before.  A target on a derived shaft is carried to the shaft with a
trajectory of its own.  That trajectory is cut into pieces with one polynomial each and these into ranges on which the
angle is monotonic; in such a range the instant is found by bisection, which gives the time that R216 defines whatever
path an iteration takes.  Angles are unrolled from the one at the start of a search, so that the wrap of R202 is none. -/

namespace Sys2Proof.Machine

/-- The smallest instant above `lo` and up to `hi` at which `p` holds, for a `p` that fails at `lo`, holds at `hi` and
changes once between. -/
def bisect (p : Int → Bool) : Nat → Int → Int → Int
  | 0, _, hi => hi
  | f + 1, lo, hi =>
    if hi ≤ lo + 1 then hi
    else
      let m := (lo + hi) / 2
      if p m then bisect p f lo m else bisect p f m hi

/-- A range of instants. -/
abbrev Span := Int × Int

/-- Splits a range where `p` changes from false to true or back, for a `p` that changes at most once in it. -/
def splitAt (p : Int → Bool) (r : Span) : List Span :=
  if p r.1 = p r.2 then [r]
  else
    let m := if p r.2 then bisect p 64 r.1 r.2 else bisect (fun v => !p v) 64 r.1 r.2
    [(r.1, m - 1), (m, r.2)]

/-- A piece split at the stationary point of the speed, then at the zeros of the speed. -/
def monoParts (g : Seg) (r : Span) : List Span :=
  let a : Int := 65536 * g.jerk
  let b : Int := 32 * (perSec : Int) * g.alpha
  let parts := if a = 0 then [r] else splitAt (fun v => decide (-b ≤ 2 * a * (v - g.t0))) r
  parts.flatMap (splitAt (fun v => decide (0 < g.speedN v)))

/-- The part of a range within `lo .. hi`. -/
def clip (lo hi : Int) (r : Span) : Option Span :=
  let a := max lo r.1
  let b := min hi r.2
  if a ≤ b then some (a, b) else none

/-- The pieces of one segment within `lo .. hi`: its own polynomial, then the continuation of Table SH-3. -/
def segPieces (g : Seg) (lo hi : Int) : List (Seg × Span) :=
  let turn := if g.final then g.fin else g.coastAt
  let next := if g.final then g.hold else g.coast
  ((clip lo hi (lo, turn - 1)).map (fun r => (g, r))).toList ++ ((clip lo hi (turn, hi)).map (fun r => (next, r))).toList

/-- The pieces of a list of segments, with their starts, within `lo .. hi`. -/
def pieces (lo hi : Int) : List (Int × Seg) → List (Seg × Span)
  | [] => []
  | [g] => segPieces g.2 (max lo g.1) hi
  | g :: h :: r => segPieces g.2 (max lo g.1) (min hi (h.1 - 1)) ++ pieces lo hi (h :: r)

/-- The segments of a shaft with a trajectory of its own from an instant on, with their starts. -/
def coursesFrom (h : Shaft) (lo : Int) : List (Int × Seg) :=
  if h.since ≤ lo then h.course
  else match h.courseAt lo with
    | some (.own g) => [(lo, g)]
    | _ => []

/-- The ranges within `lo .. hi` on which the angle of shaft `r`, whose course does not turn there, is monotonic, in time
order. -/
def monoSpans (s : State) (r : Nat) (lo hi : Int) : List Span :=
  (pieces lo hi (coursesFrom (shaft s r) lo)).flatMap (fun x => monoParts x.1 x.2)

/-! ## Targets and how they are carried (R216, R222) -/

/-- What a search looks for: from an angle, the next target beyond it, as carried to the shaft that is searched and as the
event has it. -/
abbrev Targets := Int → Option (Int × Int)

/-- The first crossing over ranges, of the least target above an angle.  `prev` is the angle one step before the first
range. -/
def scan (ang : Int → Int) (next : Targets) : List Span → Option Int → Option (Int × Int × Int)
  | [], _ => none
  | r :: l, prev =>
    let a := ang r.1
    match (prev.bind next).filter (fun t => decide (t.1 ≤ a)) with
    | some t => some (r.1, t)
    | none =>
      let b := ang r.2
      match next a with
      | some t => if t.1 ≤ b then some (bisect (fun v => decide (t.1 ≤ ang v)) 64 r.1 r.2, t) else scan ang next l (some b)
      | none => scan ang next l (some b)

/-- The least turn from `turn` on that the rule of an event admits (Table SH-5); turn numbers have 32 bits (R202). -/
def turnFrom (a : SectorArgs) (turn : Int) : Int :=
  let w := wrapI 32 turn
  match a.turnRule with
  | 0 => turn
  | 1 =>
    let d := ((a.phase : Int) - w) % (a.n : Int)
    if w + d < 2 ^ 31 then turn + d else turn + (2 ^ 31 - w) + ((a.phase : Int) + 2 ^ 31) % (a.n : Int)
  | _ => turn + (a.turn - turn) % 2 ^ 32

/-- The greatest turn up to `turn` that the rule of an event admits. -/
def turnTo (a : SectorArgs) (turn : Int) : Int :=
  let w := wrapI 32 turn
  match a.turnRule with
  | 0 => turn
  | 1 =>
    let d := (w - (a.phase : Int)) % (a.n : Int)
    if -(2 ^ 31) ≤ w - d then turn - d else turn - (w + 2 ^ 31 + 1) - (2 ^ 31 - 1 - (a.phase : Int)) % (a.n : Int)
  | _ => turn - (turn - a.turn) % 2 ^ 32

/-- The least target of an event above an angle. -/
def nextTarget (a : SectorArgs) : Targets := fun x =>
  let t := turnFrom a ((x - (a.angle : Int)) / 2 ^ 32 + 1) * 2 ^ 32 + a.angle
  some (t, t)

/-- The greatest target of an event below an angle. -/
def prevTarget (a : SectorArgs) : Targets := fun x =>
  let t := turnTo a (-(((a.angle : Int) - x) / 2 ^ 32 + 1)) * 2 ^ 32 + a.angle
  some (t, t)

/-- One absolute target, ahead of an angle where its signed difference says so (R202). -/
def onlyTarget (rising : Bool) (t : Int) : Targets := fun x =>
  let d := wrapI 64 (t - x)
  if (rising && decide (0 < d)) || (!rising && decide (d < 0)) then some (x + d, x + d) else none

/-- Asrc of R216: a target on a derived shaft as a target on its source. -/
def Gear.carry (g : Gear) (a : Int) : Int :=
  if 0 < g.num then -((-((a - g.offset) * (g.den : Int))) / g.num) else (-((a - g.offset) * (g.den : Int))) / (-g.num)

/-- Targets on a derived shaft as targets on its source (R216): with a negative ratio direction reverses. -/
def carryOver (g : Gear) (x : Bool × Targets) : Bool × Targets :=
  let rising := decide (0 < g.num) == x.1
  let from_ : Int → Int := fun w =>
    if x.1 then g.apply w + g.offset
    else if rising then g.apply (w + 1) + g.offset + 1 else g.apply (w - 1) + g.offset + 1
  (rising, fun a =>
    let w := wrapI 64 a
    if g.num = 0 then none else (x.2 (from_ w)).map (fun t => (a - w + g.carry t.1, t.2)))

/-! ## The search -/

/-- The first crossing of shaft `n` within `lo .. hi`, over which no course turns: the instant, the target as carried, and
the target. -/
def crossWithin (s : State) (n : Nat) (rising : Bool) (next : Targets) (prev : Option Int) (lo hi : Int) :
    Option (Int × Int × Int) :=
  match chainAt s 5 n lo with
  | none => none
  | some (gears, r) =>
    let t := gears.foldl (fun x g => carryOver g x) (rising, next)
    let a0 := prev.getD ((angleAt s r lo).getD 0)
    let ang := fun v => a0 + wrapI 64 ((angleAt s r v).getD 0 - a0)
    let spans := monoSpans s r lo hi
    if t.1 then scan ang t.2 spans prev
    else (scan (fun v => -(ang v)) (fun x => (t.2 (-x)).map (fun e => (-e.1, e.2))) spans (prev.map (fun p => -p))).map
      (fun x => (x.1, -x.2.1, x.2.2))

/-- Instants in rising order, each once. -/
def insertInstant (v : Int) : List Int → List Int
  | [] => [v]
  | u :: r => if v < u then v :: u :: r else if v = u then u :: r else u :: insertInstant v r

/-- The instants after `lo` and up to `hi` at which the course of a shaft turns. -/
def turnsWithin (s : State) (lo hi : Int) : List Int :=
  (s.shaft.shafts.flatMap (fun e => e.2.since :: e.2.past.map (·.1))).foldl
    (fun l v => if lo < v ∧ v ≤ hi then insertInstant v l else l) []

/-- The first crossing over stretches that begin at the instants given, the last of which ends at `hi`. -/
def crossOver (s : State) (n : Nat) (rising : Bool) (next : Targets) (hi : Int) :
    List Int → Option Int → Option (Int × Int × Int)
  | [], _ => none
  | lo :: r, prev =>
    match crossWithin s n rising next prev lo ((r.head?.map (· - 1)).getD hi) with
    | some x => some x
    | none => crossOver s n rising next hi r (r.head?.bind (fun v => (cursorAt s n v).prev))

/-- The first crossing of shaft `n` after a cursor and up to `limit`: the instant, the target as carried, and the target
crossed, which wraps. -/
def findCross (s : State) (n : Nat) (rising : Bool) (next : Targets) (c : Cursor) (limit : Int) :
    Option (Int × Int × Int) :=
  if limit ≤ c.upTo then none
  else
    let lo := c.upTo + 1
    (crossOver s n rising next limit (lo :: turnsWithin s lo limit) c.prev).map (fun x => (x.1, x.2.1, wrapI 64 x.2.2))

/-- Where a search stands after a crossing: at its instant, the target as carried counting as reached. -/
def afterCross (v carried : Int) : Cursor := { upTo := v - 1, prev := some (wrapI 64 carried) }

/-- Where a search stands that has found nothing up to `limit`. -/
def afterNone (s : State) (n : Nat) (limit : Int) (c : Cursor) : Cursor :=
  if limit ≤ c.upTo then c else cursorAt s n (limit + 1)

end Sys2Proof.Machine
end

