-- ==== Sys2Proof/Machine/Gates.lean ====
section
/-! DEFINITION. Gate control lists (R275 to R281): loading, installing, boundaries in time and at angles, sector GATE
events, and what Guhild steps and missing references do to a list. -/

namespace Sys2Proof.Machine

/-- Changes the scheduler of port `p`. -/
def modPort (p : Nat) (f : PortSched → PortSched) (s : State) : State :=
  { s with sched := { s.sched with ports := s.sched.ports.set p (f (portSched s p)) } }

/-! ## Entries (Table SD-3) -/

/-- GATES of an entry. -/
def eGates (e : Nat) : Nat := fld e 63 56
/-- EXPRESS of an entry. -/
def eExpress (e : Nat) : Bool := e.testBit 55
/-- PROTECT of an entry. -/
def eProtect (e : Nat) : Bool := e.testBit 54
/-- LENGTH of an entry. -/
def eLength (e : Nat) : Nat := fld e 47 0

/-- CYCLE in the unit of LENGTH. -/
def Gcl.span (g : Gcl) : Int := if g.ref = 0 then (g.cycle : Int) else (g.cycle * 2 ^ 32 : Nat)

/-- The end of entry `i` from the start of its cycle. -/
def Gcl.endOf (g : Gcl) (i : Nat) : Int := (g.entries.take (i + 1)).foldl (fun a e => a + (eLength e : Int)) 0

/-- The entry in which an offset from the cycle start lies. -/
def entryAt : List Nat → Int → Nat
  | [], _ => 0
  | e :: r, x => if x < (eLength e : Int) then 0 else entryAt r (x - (eLength e : Int)) + 1

/-- Entry `i` of a list. -/
def Gcl.entry (g : Gcl) (i : Nat) : Nat := g.entries.getD i 0

/-- The next instant on the 3.2 ns grid at or after `v`, at the first 2^-16 ns not before it (R277). -/
def onGrid (v : Int) : Int :=
  let m := (5 * v + 1048575) / 1048576
  (m * 1048576 + 4) / 5

/-- The entry in force of a port, none without a running list. -/
def entryNow (s : State) (p : Nat) : Option Nat :=
  let x := portSched s p
  match x.gcl with
  | some g => if 2 ≤ x.state then some (g.entry x.entry) else none
  | none => none

/-- An express entry is open. -/
def expressOpen (s : State) (p : Nat) : Bool :=
  match entryNow s p with
  | some e => eExpress e
  | none => false

/-- GCL_STATE changes, reported with the entry in force (Table SD-10). -/
def setGclState (p st : Nat) (s : State) : State :=
  let x := portSched s p
  if x.state = st then s
  else report bSCHED 0x02 [w32 p, w32 st, w32 x.state, w32 x.entry] (modPort p (fun x => { x with state := st }) s)

/-! ## Comparators of four ports (Table GT-7, R277) -/

/-- The earliest boundary of the ports of a comparator, on the grid. -/
def groupNext (s : State) (g : Nat) : Option Int :=
  ([0, 1, 2, 3].filterMap (fun i => (portSched s (4 * g + i)).next.map onGrid)).foldl
    (fun a v => match a with | none => some v | some b => some (min b v)) none

/-- Loads the earliest boundary of ports 4g to 4g + 3 into Cg. -/
def armGates (g : Nat) (s : State) : State :=
  match groupNext s g with
  | some v => if rGuhRun s then armAt g v s else disarm g s
  | none => disarm g s

/-! ## Gate changes -/

/-- The transmitter of a port is sending a queued frame: its queue. -/
def sendingQ (s : State) (p : Nat) : Option Nat :=
  match (portSched s p).tx with
  | some (.queued _ q _ _ _) => some q
  | _ => none

/-- GATE_OVERRUN (R284); causes 1 gate closed, 2 express entry opened, 3 launch due. -/
def gateOverrun (p q cause : Nat) (s : State) : State :=
  raise bSCHED 0 (report bSCHED 0x09 [w32 p, w32 q, w32 cause]
    (modPort p (fun x => { x with overrun := (x.overrun + 1) % 2 ^ 32 }) s))

/-- What follows a change of the gates of port `p` from `old` to those now in effect: overruns (R284) and windows that
passed while their class was paused with a frame waiting (R94). -/
def gatesChanged (p old : Nat) (oldExpress : Bool) (s : State) : State :=
  let new := gatesNow s p
  let s := match sendingQ s p with
    | some q =>
      if expressOpen s p && !oldExpress then gateOverrun p q 2 s
      else if old.testBit q && !new.testBit q then gateOverrun p q 1 s else s
    | none => s
  (List.range 8).foldl (fun s q =>
    let held := pausedBy s p q
    if held && new.testBit q && !old.testBit q then modEdge p (fun e => { e with gateMiss := setBit e.gateMiss q }) s
    else if old.testBit q && !new.testBit q && (edge s p).gateMiss.testBit q then
      let n := b2n (held && !(outQ s p q).frames.isEmpty)
      modEdge p (fun e => { e with gateMiss := clrBit e.gateMiss q, pfcGateMiss := (e.pfcGateMiss + n) % 2 ^ 32 }) s
    else s) s

/-- Sets the list's gates of port `p`; the gates that GATE events had overridden return to the list (R281). -/
def setGates (p gates : Nat) (f : PortSched → PortSched) (s : State) : State :=
  let s := shapePort p s
  let old := gatesNow s p
  let ex := expressOpen s p
  gatesChanged p old ex (modPort p (fun x => { f x with gates := gates, overrideMask := 0, overrideGates := 0 }) s)

/-- The gate lane of a port in the planner. -/
abbrev gateLane (p : Nat) : Nat := 65 + p

/-- Sets where the search of a port's gate lane stands. -/
def setGateLane (p : Nat) (c : Cursor) (s : State) : State :=
  modSh (fun b => { b with lanes := b.lanes.set (gateLane p) c }) s

/-- Applies entry `i` of the list of port `p`, of the cycle that starts at `cyc` (a cycle number for angle lists); a
time list has its next boundary at once, an angle list once its lane has converted it (R280). -/
def applyEntry (p i : Nat) (cyc : Int) (s : State) : State :=
  match (portSched s p).gcl with
  | none => s
  | some g =>
    let next := if g.ref = 0 then some (cyc + g.endOf i) else none
    let s := dropTargets (gateSlot p) s
    setGates p (eGates (g.entry i)) (fun x => { x with entry := i, cycle := cyc, next := next }) s

/-- Applies the entry after the one in force. -/
def nextEntry (p : Nat) (s : State) : State :=
  let x := portSched s p
  match x.gcl with
  | none => s
  | some g =>
    if x.state = 3 then applyEntry p 0 (x.next.getD 0) (setGclState p 2 s)
    else if x.entry + 1 < g.entries.length then applyEntry p (x.entry + 1) x.cycle s
    else applyEntry p 0 (if g.ref = 0 then x.cycle + g.span else x.cycle + 1) s

/-- A list's reference runs (R25, R278). -/
def refRuns (s : State) (g : Gcl) : Bool := if g.ref = 0 then rGuhRun s else rShaft s && shaftRunning s g.shaft

/-- Starts the list of port `p` at the entry its reference gives at instant `v` (R278). -/
def startList (p : Nat) (v : Int) (s : State) : State :=
  match (portSched s p).gcl with
  | none => s
  | some g =>
    let x := if g.ref = 0 then v else (angleAt s g.shaft v).getD 0
    let n := (x - g.base) / g.span
    let i := entryAt g.entries (x - g.base - n * g.span)
    let s := setGclState p 2 s
    let s := if g.ref = 0 then s
      else setGateLane p (cursorAt s g.shaft (v + 1)) s
    armGates (p / 4) (applyEntry p i (if g.ref = 0 then g.base + n * g.span else n) s)

/-- A list waits for its reference with every gate open (R25, R278). -/
def waitList (p : Nat) (s : State) : State :=
  let s := setGclState p 1 s
  let s := dropTargets (gateSlot p) (modSh (fun b => { b with lanes := b.lanes.del (gateLane p) }) s)
  armGates (p / 4) (setGates p 0xFF (fun x => { x with entry := 0, next := none }) s)

/-- What R25 asks of the list of port `p` now: it starts, it waits, or neither. -/
def listDue (s : State) (p : Nat) : Option Bool :=
  let x := portSched s p
  match x.gcl with
  | none => none
  | some g =>
    if x.state = 1 ∧ refRuns s g ∧ rSched s then some true
    else if x.state = 2 ∧ g.ref = 1 ∧ !refRuns s g then some false
    else none

/-- No list is to start or to wait. -/
def listsSettled (s : State) : Bool := s.sched.ports.all (fun e => (listDue s e.1).isNone)

/-- Lists whose reference has come start; angle lists whose shaft has gone wait (R25, R278). -/
def reviewLists (s : State) : State :=
  s.sched.ports.foldl (fun s e =>
    match listDue s e.1 with
    | some true => startList e.1 (units s) s
    | some false => waitList e.1 s
    | none => s) s

/-! ## Boundaries -/

/-- The ports of comparator Cg whose boundary is that of the firing change their gates. -/
def passGroup (g : Nat) (due : Int) (s : State) : State :=
  armGates g ([0, 1, 2, 3].foldl (fun s i =>
    let p := 4 * g + i
    match (portSched s p).next with
    | some v =>
      if onGrid v ≤ due then nextEntry p s else s
    | none => s) s)

/-- Cg fires. -/
def fireGates (g : Nat) (s : State) : State :=
  match fireCmp g s with
  | (none, s) => s
  | (some a, s) => passGroup g a.due s

/-- GATE_BOUNDARY (R277): the boundary of port `p` on its group's comparator. -/
def effGateBoundary (p : Nat) (s : State) : State := fireGates (p / 4) s

/-- PLAN_HORIZON in 2^-16 ns. -/
def planHorizon (s : State) : Int := usU (parN s bSHAFT 0xF0 Par.shPlanHorizon)

/-- The absolute angle at which the entry in force of an angle list ends (R280). -/
def laneTarget (g : Gcl) (x : PortSched) : Int := g.base + x.cycle * g.span + g.endOf x.entry

/-! ## Steps (R279, R220) -/

/-- Every armed target was cancelled: a time list holds its gates until its next cycle start; an angle list's boundary
is converted again, from now or from where it was to be. -/
def listsCancelled (s : State) : State :=
  s.sched.ports.foldl (fun s e =>
    let p := e.1
    let x := portSched s p
    match x.gcl with
    | none => s
    | some g =>
      if x.state < 2 then s
      else
        let now : Int := units s
        if g.ref = 0 then
          let start := g.base + ((now - g.base) / g.span + 1) * g.span
          armGates (p / 4) (setGclState p 3 (modPort p (fun x => { x with next := some start, closes := [] }) s))
        else
          let c := s.shaft.lanes.get (cursorAt s g.shaft now) (gateLane p)
          armGates (p / 4) (modPort p (fun x => { x with next := none, closes := [] })
            (setGateLane p (c.back s g.shaft (min now (x.next.getD now))) s))) s

/-! ## Sector GATE events (R281) -/

/-- A sector GATE event sets the gates of the queues of a mask, over the list. -/
def sectorGate (p mask : Nat) (open_ : Bool) (due : Int) (s : State) : State :=
  let s := shapePort p s
  let old := gatesNow s p
  let ex := expressOpen s p
  gatesChanged p old ex (modPort p (fun x => { x with
    overrideMask := x.overrideMask ||| mask
    overrideGates := if open_ then x.overrideGates ||| mask else clrMask 8 x.overrideGates mask
    closes := (classesOf mask).foldl (fun m q => m.set q ((m.get [] q).erase due)) x.closes }) s)

/-- A GATE close known to the port ahead of its time. -/
def knowClose (p mask : Nat) (due : Int) (s : State) : State :=
  modPort p (fun x => { x with closes := (classesOf mask).foldl (fun m q => m.set q (due :: m.get [] q)) x.closes }) s

/-- A GATE close is withdrawn. -/
def forgetClose (p mask : Nat) (due : Int) (s : State) : State :=
  modPort p (fun x => { x with closes := (classesOf mask).foldl (fun m q => m.set q ((m.get [] q).erase due)) x.closes }) s

/-! ## GCL_LOAD (R276, R278, R346) -/

/-- An entry keeps the limits of Table SD-3. -/
def entryOk (ref e : Nat) : Bool :=
  fld e 53 48 == 0 && !(eExpress e && eGates e != 0)
    && (if ref = 0 then decide (50 * 65536 ≤ eLength e) else decide (1 ≤ eLength e))

/-- A complete list is valid. -/
def gclOk (g : Gcl) : Bool :=
  g.entries.isEmpty ||
    (g.entries.all (entryOk g.ref) && decide ((g.entries.foldl (fun a e => a + (eLength e : Int)) 0) = g.span))

/-- A booking of port `p` names an express entry that a new list would remove or move. -/
def bookingMoved (s : State) (p : Nat) (new : Gcl) : Bool :=
  s.core.bookings.any (fun e => e.2.outPort == p &&
    (match (portSched s p).gcl with
     | none => true
     | some g => new.entry e.2.entry != g.entry e.2.entry || decide (new.entries.length ≤ e.2.entry)
         || decide (new.endOf e.2.entry ≠ g.endOf e.2.entry) || new.ref != g.ref || new.base != g.base
         || new.cycle != g.cycle || new.shaft != g.shaft))

/-- GCL_LOAD: stages a list, in parts where FIRST is not 0. -/
def bodyGclLoad (a : GclArgs) (s : State) : Resp :=
  let new := a.entries.map (fun e => e.toNat)
  if !rSched s then refuse stNotReady s
  else if 64 ≤ a.port ∨ 1 < a.ref ∨ 1024 < a.count ∨ (a.ref = 1 ∧ 64 ≤ a.shaft)
      ∨ (if a.ref = 0 then a.cycle < 1000 * 65536 ∨ 2000000000 * 65536 < a.cycle else a.cycle < 1 ∨ 65535 < a.cycle)
      ∨ (a.count = 0 ∧ a.first ≠ 0) ∨ (0 < a.count ∧ a.count ≤ a.first) ∨ a.count < a.first + new.length then
    refuse stOutOfRange s
  else
    let held := if a.first = 0 then some [] else
      match s.sched.staged.find a.port with
      | some x => if x.gcl.ref = a.ref ∧ x.gcl.shaft = a.shaft ∧ x.gcl.base = a.base ∧ x.gcl.cycle = a.cycle
            ∧ x.count = a.count ∧ x.gcl.entries.length = a.first then some x.gcl.entries else none
      | none => none
    match held with
    | none => refuse stOutOfRange s
    | some before =>
      let g : Gcl := { ref := a.ref, shaft := if a.ref = 1 then a.shaft else 0, base := a.base, cycle := a.cycle, entries := before ++ new }
      let whole := g.entries.length == a.count
      if whole ∧ !gclOk g then refuse stOutOfRange s
      else if whole ∧ bookingMoved s a.port g ∨ commitNames s bSCHED then refuse stBusy s
      else
        ok { s with sched := { s.sched with staged := s.sched.staged.set a.port { gcl := g, count := a.count } } }

/-- A COMMIT of SCHED installs every staged list that is complete (R278); GCL_INSTALLED names the ports. -/
def installLists (s : State) : State :=
  let done := s.sched.staged.filter (fun e => e.2.gcl.entries.length == e.2.count)
  if done.isEmpty then s
  else
    let mask := done.foldl (fun a e => setBit a e.1) 0
    let s := { s with sched := { s.sched with staged := s.sched.staged.filter (fun e => e.2.gcl.entries.length != e.2.count) } }
    let s := done.foldl (fun s e =>
      let p := e.1
      let g := e.2.gcl
      let s := dropTargets (gateSlot p) (modSh (fun b => { b with lanes := b.lanes.del (gateLane p) }) s)
      if g.entries.isEmpty then
        armGates (p / 4) (setGclState p 0 (setGates p 0xFF (fun x => { x with gcl := none, entry := 0, next := none }) s))
      else
        let s := modPort p (fun x => { x with gcl := some g, next := none }) s
        if refRuns s g then startList p (units s) s else waitList p s) s
    report bSCHED 0x03 [w32 (mask >>> 32), w32 mask] s

end Sys2Proof.Machine
end

