-- ==== Sys2Proof/Machine/HlthOps.lean ====
section
/-! DEFINITION. The lamp changer (R393 to R395): units, spares, substitutions, retirements and the end of a self-test. -/

namespace Sys2Proof.Machine

/-- Changes HLTH. -/
def modHlth (f : Hlth → Hlth) (s : State) : State := { s with hlth := f s.hlth }

/-- The key of a testable unit. -/
def unitKey (b u : Nat) : Nat := b * 65536 + u

/-- The unit is retired. -/
def unitRetired (s : State) (b u : Nat) : Bool := s.hlth.life.retired.get false (unitKey b u)

/-- The class of a testable unit (Table HL-2); BOOT and HOST units are of none. -/
def unitClass (b u : Nat) : Option Nat :=
  if isQuadB b then (if u ≤ 3 then some 0 else if u = 8 ∨ u = 9 then some 7 else none)
  else if b = bCSYN then (if u = 0 then some 1 else if 0x10 ≤ u ∧ u ≤ 0x21 then some 2 else none)
  else if b = bTIC then (if u ≤ 30 then some 3 else none)
  else if b = bBUF then (if u ≤ 271 then some 4 else none)
  else if b = bLKP then
    (if u ≤ 0x10 ∨ (0x100 ≤ u ∧ u ≤ 0x104) ∨ u = 0x200 ∨ u = 0x201 then some 5 else none)
  else if b = bKEEP then (if u ≤ 1 then some 6 else none)
  else none

/-- A unit of Table HL-2. -/
def unitOk (b u : Nat) : Bool := (unitClass b u).isSome || ((b == bBOOT || b == bHOST) && decide (u ≤ 1))

/-- The spare bank or copy of the table that an LKP unit belongs to: the last unit of the table until a switch. -/
def lkpTable (u : Nat) : Nat := u / 0x100
/-- The spare unit of table `t`. -/
def lkpSpare (s : State) (t : Nat) : Nat :=
  s.core.banks.get (if t = 0 then 0x10 else if t = 1 then 0x104 else 0x201) t

/-- Spare units of a class that are available: neither retired nor standing in for another. -/
def sparesOf (s : State) (k : Nat) : Nat :=
  match k with
  | 0 => ((List.range 64).filter (fun l => (lane s l).retired.isNone)).length
  | 1 => b2n (s.clk.lockA && s.clk.lockB && !unitRetired s bCSYN 0)
  | 2 => ((List.range 2).filter (fun g => !s.clk.dllBusy.testBit g && !s.clk.dllRetired.testBit g)).length
  | 3 => b2n (s.tic.x0 == 0xFF && !unitRetired s bTIC 29) + b2n (s.tic.x1 == 0xFF && !unitRetired s bTIC 30)
  | 4 => ((List.range 272).filter (fun i => s.buf.banks.get (if i < 256 then 0 else 3) i == 3)).length
  | 5 => ((List.range 3).filter (fun t => !unitRetired s bLKP (lkpSpare s t))).length
  | 6 => b2n (s.keep.spareReady && !s.keep.spareRetired)
  | _ => 0

/-- Class `k` has a spare available (HLTH_STATUS SPARES). -/
def spareBit (s : State) (k : Nat) : Bool := 0 < sparesOf s k

/-- A substitution (R394): SPARE_SWAPPED, the log, and the summary due; causes of Table HL-5. -/
def substituted (h : Option CmdHdr) (b out in_ cause : Nat) (s : State) : State :=
  let s := logEntry 1 b out (bytesBE 2 in_ ++ bytesBE 2 cause) (modHlth (fun x => { x with sumDue := true }) s)
  let words := [w32 b, w32 out, w32 in_, w32 cause]
  match h with
  | some h => reportRef h bHLTH 0x03 words true s
  | none => report bHLTH 0x03 words s

/-- A retirement (R394): UNIT_RETIRED, the log, and NO_SPARE where no spare of the class remains. -/
def retireUnit (b u : Nat) (sub : Option Nat) (s : State) : State :=
  let k := (unitClass b u).getD 8
  let s := modHlth (fun x => { x with life := { x.life with retired := x.life.retired.set (unitKey b u) true }, sumDue := true }) s
  let n := sparesOf s k
  let s := report bHLTH 0x04 [w32 b, w32 u, w32 n] s
  let s := logEntry 2 b u (bytesBE 2 (sub.getD 0xFFFF) ++ bytesBE 2 n) s
  if k = 0 ∨ (n = 0 ∧ k < 7) then raise bHLTH 1 s else s

/-- While a PLL of class 1 or 7 is in a slice it is unlocked (R393); `on` locks it again. -/
def sliceLock (b u : Nat) (on : Bool) (s : State) : State :=
  if b = bCSYN ∧ u = 0 then
    { s with clk := if s.clk.timeServing = 0 then { s.clk with lockB := on } else { s.clk with lockA := on } }
  else if isQuadB b ∧ u = 8 then modQuad (b - 0x10) (fun q => { q with lockA := on }) s
  else if isQuadB b ∧ u = 9 then modQuad (b - 0x10) (fun q => { q with lockB := on }) s
  else s

/-- Results of a self-test (R397). -/
abbrev bistPass : Nat := 0
abbrev bistFail : Nat := 1
abbrev bistAborted : Nat := 2

/-- A self-test of block `b` ends: BIST_DONE completes the BIST_RUN, the log takes the result, the slice's grant ends. -/
def bistEnds (b result detail : Nat) (s : State) : State :=
  match s.hlth.bist.find b with
  | none => s
  | some t =>
    let s := govCancel (.bistSlice b) (if t.inSlice then sliceLock b t.unit true s else s)
    let n := if t.failed.isSome then t.done + 1 else t.done
    let s := modHlth (fun x => { x with bist := x.bist.del b, rot := if t.rot then none else x.rot }) s
    let s := logEntry 3 b t.unit (bytesBE 1 result ++ bytesBE 2 n ++ bytesBE 4 detail) s
    let s := completeWith 0x0F01 b bHLTH 0x02 [w32 b, w32 t.unit, w32 result, w32 n, w32 detail] stOk s
    modHdr b (fun h => { h with onSpare := false }) s

/-- A test of block `b` is aborted (R398). -/
def bistAbort (b : Nat) (s : State) : State := bistEnds b bistAborted 0 s

/-- The unit that a substitution brings in is under test: the test is aborted (R395). -/
def bistYield (b u : Nat) (s : State) : State :=
  match s.hlth.bist.find b with
  | some t => if t.unit = u then bistAbort b s else s
  | none => s

/-- The unit is under test. -/
def underTest (s : State) (b u : Nat) : Bool :=
  match s.hlth.bist.find b with
  | some t => t.unit == u
  | none => false

/-- Slices of a unit's test (Table HL-2), which scale inversely with SLICE_BUDGET (R396). -/
def slicesOf (s : State) (b u : Nat) : Nat :=
  let n := match unitClass b u with
    | some 1 => 8
    | some 2 => 2
    | some 3 => 328
    | some 4 => 8
    | some 6 => 32
    | some 7 => 8
    | some _ => 4
    | none => 2
  let budget := max 1 (parN s bHLTH 0 Par.hlSliceBudget)
  (n * 200 + budget - 1) / budget

/-- The test of a unit has begun with its first request queued (R396): a spare stands in for the unit meanwhile. -/
def testBegun (b u : Nat) (rot : Bool) (s : State) : State :=
  let n := slicesOf s b u
  let s := modHlth (fun x => { x with
    bist := x.bist.set b { unit := u, done := 0, total := n, rot := rot, inSlice := false, failed := none, hits := [] }
    testBlock := b, testUnit := u, testSlice := 0, testSlices := n }) s
  modHdr b (fun h => { h with onSpare := decide ((unitClass b u).getD 7 < 7) }) s

/-- The cause of a substitution that a command or rotation asked for (Table HL-5). -/
def swapCause (s : State) (b u : Nat) : Nat := if s.hlth.rot = some (b, u) then 2 else 1

/-- The rotation step on a unit ends without a test. -/
def rotFails (b u : Nat) (s : State) : State :=
  if s.hlth.rot = some (b, u) then modHlth (fun x => { x with rot := none }) s else s

/-- The unit of a rotation step has been displaced: its test begins (R399). -/
def rotSwapped (b u : Nat) (s : State) : State :=
  if s.hlth.rot = some (b, u) then
    if (s.hlth.bist.find b).isSome then rotFails b u s
    else match govRequest (.bistSlice b) (testBegun b u true s) with
      | (.queued, s) => s
      | (_, _) => rotFails b u s
  else s

/-! ## The spare receive slice (R39) -/

/-- The causes of SLICE_ABORT that the device itself finds, numbered in the order of R39 and Table LN-6. -/
abbrev abWordLock : Nat := 1
abbrev abFailover : Nat := 2
abbrev abCommit : Nat := 3
abbrev abRetired : Nat := 4
abbrev abLowFom : Nat := 5
abbrev abCompare : Nat := 6
abbrev abBoundary : Nat := 7
abbrev abStopped : Nat := 8

/-- A swap sequence aborts: SLICE_ABORT, which completes a SPARE_SWAP, then IDLE; a rotation step on it ends. -/
def sliceAborts (l cause : Nat) (s : State) : State :=
  if (lane s l).spare = .idle then s
  else
    let b := bQ (l / 4)
    let s := modLane l (fun x => { x with spare := .idle }) (govCancel (.spareTrain l) s)
    let s := completeWith 0x0F02 (unitKey b (l % 4)) b 0x14 [w32 (l % 4), w32 cause] stNotReady s
    rotFails b (l % 4) s

/-- The lanes of port `p` lose word lock: a swap sequence on them aborts (R39). -/
def wordLockGone (p : Nat) (s : State) : State :=
  (portLanes s p).foldl (fun s l => modLane l (fun x => { x with wordLock := false }) (sliceAborts l abWordLock s)) s

/-- The lanes of port `p` have word lock. -/
def wordLockHeld (p : Nat) (s : State) : State :=
  (portLanes s p).foldl (fun s l => modLane l (fun x => { x with wordLock := true }) s) s

end Sys2Proof.Machine
end

