-- ==== Sys2Proof/Machine/Trunk.lean ====
section
/-! DEFINITION. Difivi trunks (chapter 03): the line code bit by bit, received words and signal words, transmission,
link states, credits, the time check and training. -/

namespace Sys2Proof.Machine

/-! ## The block (R43 to R48) -/

/-- CRC-3 of header bits 15:3 (Table DF-3). -/
def headerChk (v : Nat) : Nat := crcMsb 3 3 0 (bitsMsb 13 v)

/-- The header of a slot and superblock number (R44). -/
def mkHeader (slot seq : Nat) : Nat :=
  let v := (slot % 16) * 256 + seq % 256
  v * 8 + headerChk v

/-- SLOT and SEQ of a header that passes its check (R44); a header with ZERO set is taken to fail it, though its CHK may
fit (DESIGN CHOICE, log entry 53). -/
def readHeader (h : Nat) : Option (Nat × Nat) :=
  if h < 2 ^ 15 ∧ h % 8 = headerChk (h / 8) then some (h / 2 ^ 11 % 16, h / 8 % 256) else none

/-- The scrambler over bits, from state `s` (R46). -/
def scramble : Nat → List Bool → List Bool
  | _, [] => []
  | s, b :: r =>
    let k := s.testBit 30 != s.testBit 27
    (b != k) :: scramble ((s * 2 + b2n k) % 2 ^ 31) r

/-- The seed of a block (R46). -/
def scrSeed (slot seq : Nat) : Nat := 0x55555555 ^^^ (seq * 16 + slot)

/-- Stuffing: after 24 equal carried bits the complement is sent and the run starts anew (R47).  Yields the line bits
and the number of stuff bits. -/
def stuff : List Bool → Nat → Option Bool → List Bool × Nat
  | [], _, _ => ([], 0)
  | b :: r, run, last =>
    let run' := if last = some b then run + 1 else 1
    if run' = 24 then
      let (o, n) := stuff r 0 none
      (b :: (!b) :: o, n + 1)
    else
      let (o, n) := stuff r run' (some b)
      (b :: o, n)

/-- Pad of `n` bits, alternating, the last bit 1 (R47). -/
def pad : Nat → List Bool
  | 0 => []
  | n + 1 => decide (n % 2 = 0) :: pad n

/-- Destuffing (R48): `n` carried bits out of the line bits, and whether a stuff bit was wrong. -/
def destuff : Nat → List Bool → Nat → Option Bool → List Bool × Bool
  | 0, _, _, _ => ([], false)
  | _, [], _, _ => ([], true)
  | n + 1, b :: r, run, last =>
    let run' := if last = some b then run + 1 else 1
    if run' = 24 then
      match r with
      | [] => ([b], n != 0)
      | s :: r' =>
        let (o, bad) := destuff n r' 0 none
        (b :: o, bad || s == b)
    else
      let (o, bad) := destuff n r run' (some b)
      (b :: o, bad)

/-- The comma (Table DF-2). -/
def comma : List Bool := List.replicate 4 false ++ List.replicate 28 true

/-- A tagged word as bits: tag 0b10 for a control word, 0b01 for a data word (R49). -/
def wordBits (w : Bool × Word64) : List Bool := [w.1, !w.1] ++ bitsMsb 64 w.2.toNat

/-- The whole block on the line (R43, R46, R47). -/
def buildBlock (slot seq sig : Nat) (ws : List (Bool × Word64)) : List Bool :=
  let body := bitsMsb 64 sig ++ ws.flatMap wordBits
  let carried := bitsMsb 16 (mkHeader slot seq) ++ scramble (scrSeed (slot % 16) (seq % 256)) body
  let (line, n) := stuff carried 0 none
  comma ++ line ++ pad (88 - n)

/-! ## Words (R49 to R54) -/

/-- CRC-8 of a control word (R50). -/
def ctlChk (v : Nat) : Nat := crcMsb 8 7 0 (bitsMsb 56 v)

/-- A control word from its bits 63:8. -/
def ctl (v : Nat) : Bool × Word64 := (true, BitVec.ofNat 64 (v * 256 + ctlChk v))

/-- IDLE. -/
def idleWord : Bool × Word64 := ctl (0x1E * 2 ^ 48)
/-- ABORT with a cause of Table DF-6. -/
def abortWord (cause : Nat) : Bool × Word64 := ctl (0x55 * 2 ^ 48 + cause * 2 ^ 40)
/-- START (Table DF-5). -/
def startWord (i : StartInfo) : Bool × Word64 :=
  ctl (0x78 * 2 ^ 48 + i.tag % 2 ^ 16 * 2 ^ 32 + i.cls % 8 * 2 ^ 29 + b2n i.express * 2 ^ 28 + b2n i.tagv * 2 ^ 27
    + b2n i.seqv * 2 ^ 26 + i.colour % 4 * 2 ^ 24 + i.rseq % 2 ^ 16 * 2 ^ 8)

/-- The data words and END of a frame (R52). -/
def dataWords : Nat → List Byte → List (Bool × Word64)
  | 0, _ => []
  | n + 1, l =>
    if l.length < 8 then
      [(true, BitVec.ofNat 64 ((0xA0 + l.length) * 2 ^ 56 + natBE (l ++ List.replicate (7 - l.length) 0)))]
    else (false, BitVec.ofNat 64 (natBE (l.take 8))) :: dataWords n (l.drop 8)

/-- The words of a frame: START, data words, END (R52). -/
def frameWords (i : StartInfo) (l : List Byte) : List (Bool × Word64) :=
  startWord i :: dataWords (l.length / 8 + 1) l

/-- START's fields (Table DF-5). -/
def readStart (v : Nat) : StartInfo :=
  { tag := v / 2 ^ 40 % 2 ^ 16, cls := v / 2 ^ 37 % 8, express := v.testBit 36, tagv := v.testBit 35,
    seqv := v.testBit 34, colour := v / 2 ^ 32 % 4, rseq := v / 2 ^ 16 % 2 ^ 16 }

/-- Ends the open frame of a receiver, if any (Table DF-7). -/
def endFrame (how : FrameEnd) (r : TrunkRx) : TrunkRx :=
  match r.frame with
  | none => r
  | some (_, l, _) => { r with frame := none, ended := r.ended ++ [(l, how)] }

/-- Counts DF_ERR_TAG. -/
def cntTag (r : TrunkRx) : TrunkRx := { r with errTag := (r.errTag + 1) % 2 ^ 32 }
/-- Counts DF_ERR_CW. -/
def cntCw (r : TrunkRx) : TrunkRx := { r with errCw := (r.errCw + 1) % 2 ^ 32 }
/-- Counts DF_ERR_SIGNAL. -/
def cntSignal (r : TrunkRx) : TrunkRx := { r with errSignal := (r.errSignal + 1) % 2 ^ 32 }

/-- Appends bytes to the open frame, ending it bad at the byte beyond the TRUNK_MTU its START found (R54, R81). -/
def appendBytes (bs : List Byte) (r : TrunkRx) : TrunkRx :=
  match r.frame with
  | none => r
  | some (i, l, st) =>
    if r.mtu < l.length + bs.length then
      { r with frame := none, ended := r.ended ++ [((l ++ bs).take (r.mtu + 1), .endedBad 5)] }
    else { r with frame := some (i, l ++ bs, st) }

/-- One received word (Table DF-7); the tag is its two bits, and `mtu` the TRUNK_MTU that a START now takes. -/
def rxWord (mtu stamp : Nat) (t0 t1 : Bool) (v : Nat) (r : TrunkRx) : TrunkRx :=
  let open_ := r.frame.isSome
  let chk := ctlChk (v / 256) == v % 256
  match t0, t1 with
  | false, true => if open_ then appendBytes (bytesBE 8 v) r else if r.skip then r else cntTag r
  | true, false =>
    let code := v / 2 ^ 56
    if code = 0x78 then
      if chk then { endFrame (.endedBad 3) r with frame := some (readStart v, [], stamp), skip := false, mtu := mtu }
      else cntCw { endFrame (.endedBad 3) r with skip := true }
    else if code = 0x1E ∧ chk then endFrame (.endedBad 3) r
    else if 0xA0 ≤ code ∧ code ≤ 0xA7 then
      match r.frame with
      | none => cntCw r
      | some _ =>
        let r := appendBytes ((bytesBE 7 v).take (code - 0xA0)) r
        match r.frame with
        | none => r
        | some (_, l, _) =>
          if l.length < 64 then endFrame (.endedBad 3) r
          else endFrame (if crc32fcs (l.take (l.length - 4)) = natLE (l.drop (l.length - 4)) then .good
                         else .fcsBad (crc32fcs (l.take (l.length - 4)) ^^^ 0xFFFFFFFF = natLE (l.drop (l.length - 4)))) r
    else if code = 0x55 ∧ chk then (if open_ then endFrame (.endedBad 4) r else cntCw r)
    else cntCw (endFrame (.endedBad 3) r)
  | _, _ => cntTag (endFrame (.endedBad 3) r)

/-- The received words of a block, 66 bits each. -/
def rxWords (mtu stamp : Nat) : Nat → List Bool → TrunkRx → TrunkRx
  | 0, _, r => r
  | n + 1, l, r =>
    match l with
    | t0 :: t1 :: rest =>
      rxWords mtu stamp n (rest.drop 64) (rxWord mtu stamp t0 t1 (natMsb (rest.take 64)) r)
    | _ => r

/-! ## Claims (R313) -/

/-- TAKE_ANY sets in every descriptor that follows the claim of a PAIR_ID, counted in CB_RESETS. -/
def takeAnyOf (id : Nat) (s : State) : State :=
  modCore (fun k => { k with chans := k.chans.map (fun e =>
    if e.2.valid ∧ e.2.claimMode = 2 ∧ e.2.rcvyEn ∧ e.2.pairId = id then (e.1, e.2.recoveryReset) else e) }) s

/-- The highest claim of a PAIR_ID is formed again: one that turns to an ACTIVE claim of a different PRIO, from that of the
highest claim before or of the last ACTIVE one (DEDUCED), resets the recovery of the channels that follow it. -/
def reviewClaim (id : Nat) (s : State) : State :=
  let old := s.pair.claims.get 0 id
  let new := highestClaim s id
  if new = old then s
  else
    let was := s.pair.lastActive.get old id
    let s := { s with pair := { s.pair with claims := s.pair.claims.set id new } }
    if !new.testBit 15 then s
    else
      let s := { s with pair := { s.pair with lastActive := s.pair.lastActive.set id new } }
      if new / 2 ^ 8 % 128 ≠ old / 2 ^ 8 % 128 ∨ new / 2 ^ 8 % 128 ≠ was / 2 ^ 8 % 128 then takeAnyOf id s else s

/-- A HEART word is accepted: the heartbeat of the pair trunk (R301) and the claims of R313. -/
def heartAccepted (p v : Nat) (s : State) : State := reviewClaim (v / 2 ^ 16 % 256) (heartPath p v s)

/-! ## Link state changes (R62) -/

/-- A frame whose START came before UP is not acted on: its words up to the next START are skipped (R67). -/
def dropShadow (r : TrunkRx) : TrunkRx := { r with frame := none, skip := r.skip || r.frame.isSome }

/-- Enters a link state and reports it (Table DF-24). -/
def setLink (p : Nat) (l : LinkState) (s : State) : State :=
  let old := (trunk s p).link
  if old = l then s
  else
    let s := if l = .aligned then wordLockHeld p s else s
    report (bP p) 0x40 [w32 l.code, w32 old.code]
      (modTrunk p (fun t => { t with link := l, rx := if l = .up then dropShadow t.rx else t.rx }) s)

/-- Enters DOWN (R62, R63, R64, R73): the open frame ends bad with INGRESS_LINK_LOST, LINK_DOWN is raised from UP. -/
def linkDown (p : Nat) (s : State) : State :=
  let was := (trunk s p).link
  let s := wordLockGone p s
  let s := modTrunk p (fun t => { t with rx := endFrame (.endedBad 2) t.rx }) s
  let ended := (trunk s p).rx.ended
  let s := trunkDown p s
  let s := modTrunk p (fun t => { t with rx := { t.rx with ended := ended } }) s
  let s := (s.pair.claims.map (·.1)).foldl (fun s id => reviewClaim id s) s
  if was = .up then raise (bP p) 0 s else s

/-- The averaging window starts anew with the settings now in force (R116). -/
def newWindow (s : State) (p : Nat) (t : TrunkTime) : TrunkTime :=
  { t with winEx := [], discarded := 0,
           win := { asymFixed := par s (bP p) 0 Par.gxAsymFixed, asymEps := par s (bP p) 0 Par.gxAsymEps,
                    extDelay := par s (bP p) 0 Par.gxExtDelay, log2 := parN s (bP p) 0 Par.gxExchAvgLog2,
                    outlier := par s (bP p) 0 Par.gxOutlierLimit } }

/-- Entry to TRAINED: credits begin, and the window in progress ends without a sample (R73, R116); from ALIGNED the
hold-off begins (Table DF-16). -/
def enterTrained (p : Nat) (s : State) : State :=
  let fresh := (trunk s p).link = .aligned
  let s := modTrunk p (fun t => { t with
    heldOff := if fresh then parN s (bP p) 0 Par.dfHoldoff == 0 else t.heldOff,
    trainedAt := if fresh then s.ticks else t.trainedAt,
    time := newWindow s p { t.time with prevMean := none, emptyRun := 0, run := [], hist := [], stepRun := 0 } }) s
  setLink p .trained s

/-- TIMED to UP: the hold-off elapsed, the flush of the port complete, and far-end RX_STATE at least 4 (Table DF-16). -/
def reachUp (p : Nat) (s : State) : State :=
  let t := trunk s p
  if t.link = .timed ∧ t.heldOff ∧ t.flushed ∧ 4 ≤ t.rx.alarm / 2 ^ 57 % 8 then setLink p .up s else s

/-- TIME_OK clears (R66) with a cause of Table DF-24: the candidate is withdrawn and TIME_CHECK_FAIL raised; from
TIMED the link returns to TRAINED. -/
def clearTimeOk (p cause : Nat) (s : State) : State :=
  let t := trunk s p
  if !t.time.timeOk then s
  else
    let s := modTrunk p (fun t => { t with time := { t.time with timeOk := false, run := [], hist := [], stepRun := 0 } }) s
    let s := report (bP p) 0x41 [0, w32 cause] s
    let s := raise (bP p) 4 s
    if t.link = .timed then enterTrained p s else s

/-! ## The exchange (R58, R59, R65, R66, R113, R114) -/

/-- A duration in 2^-16 ns of a number of ps, rounded down. -/
def psUnits (ps : Nat) : Int := (ps * 65536 / 1000 : Nat)

/-- D, asym and o of one exchange (R114); halves and the product with ε are rounded down to 2^-16 ns. -/
def exchange (w : WinSet) (t1 t2 t3 t4 : Nat) : Int × Int × Int :=
  let a := signed48 t2 t1
  let b := signed48 t4 t3
  let d := (a + b) / 2
  let asym := w.asymFixed + (2 * w.asymEps * (d - w.extDelay)) / 1000000000
  (d, asym, (a - b - asym) / 2)

/-- Of the far TIMEs not yet used, the one whose local stamp is nearest to `t3` (R113). -/
def nearest (t3 : Nat) : List FarTime → Option FarTime
  | [] => none
  | f :: r =>
    match nearest t3 r with
    | none => some f
    | some g => if (nsDiff f.stamp t3).natAbs ≤ (nsDiff g.stamp t3).natAbs then some f else some g

/-- The mean of the delays kept. -/
def meanOf (l : List Int) : Int := if l.isEmpty then 0 else l.foldl (· + ·) 0 / (l.length : Int)

/-- One exchange enters the time check (R65), the delay step test (R66) and the window (R116).  The mean of R66 is that
of the TIMED_EXCHANGES before the first exchange that differs. -/
def takeExchange (p : Nat) (t1 t2 t3 t4 : Nat) (s : State) : State :=
  let t := trunk s p
  let (d, asym, o) := exchange t.time.win t1 t2 t3 t4
  let n := parN s (bP p) 0 Par.dfTimedExchanges
  let step := psUnits (parN s (bP p) 0 Par.dfDelayStepMax)
  let old := (t.time.hist.drop t.time.stepRun).take n
  let far := t.time.timeOk ∧ old.length = n ∧ step < |d - meanOf old|
  let stepRun := if far then t.time.stepRun + 1 else 0
  let out := match t.time.prevMean with
    | some m => decide (psUnits t.time.win.outlier.toNat < |d - m|)
    | none => false
  let tm := { t.time with
    gotEx := true, lost := 0,
    run := (d :: (if t.time.gotEx then t.time.run.drop 1 else t.time.run)).take 65535,
    hist := (d :: t.time.hist).take (n + 3),
    stepRun := stepRun,
    winEx := if out then t.time.winEx else (d, asym, o) :: t.time.winEx,
    discarded := t.time.discarded + b2n out,
    outliers := (t.time.outliers + b2n out) % 2 ^ 32 }
  let s := setTrunk p { t with time := tm } s
  if stepRun = 3 then clearTimeOk p 2 s else s

/-- A far-end TIME (R58): checked always, and accepted in TRAINED and above (R67). -/
def rxTime (p seq8 stamp v : Nat) (s : State) : State :=
  let seq := v / 2 ^ 48 % 2 ^ 12
  if seq % 256 ≠ seq8 then modTrunk p (fun t => { t with rx := cntSignal t.rx }) s
  else if (trunk s p).link.code < 3 then s
  else
    let f : FarTime := { seq := seq, sent := v % 2 ^ 48, stamp := stamp, latOk := (lane s p).latValid, echoed := false }
    modTrunk p (fun t => { t with
      rx := { t.rx with times := (f :: t.rx.times).take 16 },
      time := { t.time with far := (f :: t.time.far).take 512 } }) s

/-- A received ECHO (R59, R113): paired with the nearest far-end TIME into one exchange. -/
def rxEcho (p v : Nat) (s : State) : State :=
  let t := trunk s p
  let seq := v / 2 ^ 48 % 2 ^ 12
  match t.tx.sent.find? (fun e => e.seq == seq) with
  | none => s
  | some e =>
    let s := setTrunk p { t with tx := { t.tx with sent := t.tx.sent.map (fun x => if x = e then { x with used := true } else x) } } s
    if e.used || !e.latOk || !t.rx.alarm.testBit 54 then s
    else match nearest e.sent t.time.far with
    | none => s
    | some f =>
      let s := modTrunk p (fun t => { t with time := { t.time with far := t.time.far.erase f } }) s
      if f.latOk then takeExchange p f.sent f.stamp e.sent (v % 2 ^ 48) s else s

/-! ## Signal words (R55 to R57, R60, R67, R72, R79) -/

/-- The type of each slot, and whether EMPTY is allowed (Table DF-8). -/
def slotType (slot : Nat) : Nat × Bool :=
  match slot with
  | 0 => (1, false)
  | 1 => (2, true)
  | 2 => (3, false)
  | 4 | 5 | 6 | 7 => (5, true)
  | 8 => (4, false)
  | 10 | 11 | 12 | 13 => (7, true)
  | 14 => (8, false)
  | _ => (6, false)

/-- COUNT of class `c` in a CREDIT word (Table DF-13). -/
def creditField (v c : Nat) : Nat := v / 2 ^ (4 + 7 * c) % 128

/-- A CREDIT word's field of class `c` (R72). -/
def rxCreditClass (p v c : Nat) (s : State) : State :=
  let t := trunk s p
  let last := t.last.get 0 c
  let cnt := creditField v c
  let delta := (cnt + 128 - last) % 128
  if delta ≤ 63 then
    setTrunk p { t with balance := t.balance.set c (t.balance.get 0 c + delta), last := t.last.set c cnt } s
  else raise (bP p) 5 (setTrunk p { t with rx := cntSignal t.rx } s)

/-- A CREDIT word (R72, R73): below TRAINED its fields are checked and none is added. -/
def rxCredit (p v : Nat) (s : State) : State :=
  (List.range 8).foldl (fun s c =>
    if 3 ≤ (trunk s p).link.code ∨ 63 < (creditField v c + 128 - (trunk s p).last.get 0 c) % 128 then rxCreditClass p v c s
    else s) s

/-- The HEART bits that are compared: all but HB_COUNT (R57). -/
def heartKey (v : Nat) : Nat := v / 2 ^ 16
/-- The ALARM bits that are compared: all but the training fields (R57). -/
def alarmKey (v : Nat) : Nat := v / 2 ^ 14

/-- A HEART word (R57): accepted when it agrees with the content in force or with the word before it. -/
def rxHeart (p v : Nat) (s : State) : State :=
  let t := trunk s p
  if heartKey v = heartKey t.rx.heart ∨ heartKey v = heartKey t.rx.heartCand then
    heartAccepted p v (setTrunk p { t with rx := { t.rx with heart := v, heartCand := v } } s)
  else setTrunk p { t with rx := { t.rx with heartCand := v } } s

/-- A QUALITY word (R57): a change is accepted when three consecutive words agree. -/
def rxQuality (p v : Nat) (s : State) : State :=
  let t := trunk s p
  let run := if v = t.rx.qualCand then t.rx.qualRun + 1 else 1
  setTrunk p { t with rx := { t.rx with qualCand := v, qualRun := min run 3,
                                        quality := if 3 ≤ run then v else t.rx.quality } } s

/-- A far-end FIR request (R69): applied as if set by software, reported in the next two ALARM words. -/
def firRequest (p v : Nat) (s : State) : State :=
  let t := trunk s p
  let seq := v / 2 ^ 8 % 4
  if seq = t.rx.farReq then s
  else
    let q := bQ (p / 4)
    let i := p % 4
    let move := fun (code : Nat) (x : Int) => if code = 1 then x + 1 else if code = 2 then x - 1 else x
    let pre := move (v / 2 ^ 12 % 4) (par s q i Par.lnTxPre)
    let post := move (v / 2 ^ 10 % 4) (par s q i Par.lnTxPost)
    let stat := if parN s (bP p) 0 Par.dfTxRemote = 0 then 2
      else if pre < 0 ∨ 8 < pre ∨ post < 0 ∨ 16 < post ∨ 40 - pre - post < 16 then 1 else 0
    let s := if stat = 0 then setPar q i Par.lnTxPre pre (setPar q i Par.lnTxPost post s) else s
    modTrunk p (fun t => { t with rx := { t.rx with farReq := seq },
                                  tx := { t.tx with ackSeq := seq, ackStat := stat, ackLeft := 2 } }) s

/-! ## Receiver-directed transmit training (R68) -/

/-- Makes a request: its direction, or the opposite one to undo a step, under a new REQ_SEQ; after 64 requests training
has finished. -/
def trainRequest (g : Training) (t : Trunk) : Trunk :=
  if 64 ≤ g.used then { t with training := some { g with finished := true } }
  else
    let code := if g.dec == g.undo then 1 else 2
    { t with training := some { g with used := g.used + 1 },
             tx := { t.tx with preReq := if g.pre then code else 0, postReq := if g.pre then 0 else code,
                               reqSeq := (t.tx.reqSeq + 1) % 4 } }

/-- The next direction, or the next field: POST then PRE, increment then decrement. -/
def trainNext (g : Training) (t : Trunk) : Trunk :=
  if !g.dec then trainRequest { g with dec := true, undo := false } t
  else if !g.pre then trainRequest { g with pre := true, dec := false, undo := false } t
  else { t with training := some { g with finished := true } }

/-- Entry to ALIGNED with TX_TRAIN = 1: the FOM is measured, an open value, and the first request is made. -/
def startTraining (p : Nat) (s : State) : State :=
  if parN s (bP p) 0 Par.dfTxTrain = 0 then s
  else
    let (f, s) := drawNat s
    modTrunk p (trainRequest ⟨false, false, false, f % 256, 0, 0, 0, false⟩) s

/-- TX_TRAIN was written (R68): 1 in ALIGNED starts a training that has not been made, 0 ends the requests. -/
def trainWritten (p : Nat) (s : State) : State :=
  let t := trunk s p
  if parN s (bP p) 0 Par.dfTxTrain = 0 then
    if t.training.isSome then setTrunk p { t with training := none, tx := { t.tx with preReq := 0, postReq := 0 } } s else s
  else if t.link = .aligned ∧ !t.txTrained ∧ t.training.isNone then startTraining p s
  else s

/-- The net steps that requests have moved the far end's FIR by. -/
def trainApplied (g : Training) : Training :=
  let d : Int := if g.dec == g.undo then 1 else -1
  if g.pre then { g with netPre := g.netPre + d } else { g with netPost := g.netPost + d }

/-- The far end acknowledges the request outstanding: a step that was applied is kept while the FOM, an open value,
improves, and undone otherwise. -/
def trainAck (p v : Nat) (s : State) : State :=
  match (trunk s p).training with
  | none => s
  | some g =>
    if g.finished ∨ v / 2 ^ 6 % 4 ≠ (trunk s p).tx.reqSeq ∨ (trunk s p).link ≠ .aligned
        ∨ parN s (bP p) 0 Par.dfTxTrain = 0 then s
    else
      let done := decide (v / 2 ^ 4 % 4 = 0)
      let g := if done then trainApplied g else g
      if g.undo || !done then modTrunk p (trainNext g) s
      else
        let (f, s) := drawNat s
        if g.best < f % 256 then modTrunk p (trainRequest { g with best := f % 256 }) s
        else modTrunk p (trainRequest { g with undo := true }) s

/-- The far-end rule (R64): the accepted ALARM content takes a port in TRAINED or above DOWN. -/
def farEndRule (p : Nat) (s : State) : State :=
  let v := (trunk s p).rx.alarm
  if 3 ≤ (trunk s p).link.code ∧ (v / 2 ^ 57 % 8 ≤ 1 ∨ v.testBit 56 ∨ v.testBit 55) then linkDown p (raise (bP p) 6 s) else s

/-- The receiver's allocation of credits: from TRAINED, once accepted ALARM words show the far end in TRAINED or above
(R73). -/
def allocateCredits (p : Nat) (s : State) : State :=
  let t := trunk s p
  if 3 ≤ t.link.code ∧ 3 ≤ t.rx.alarm / 2 ^ 57 % 8 ∧ !t.released then
    setTrunk p { t with released := true, owe := (List.range 8).foldl (fun m c => m.set c (par s (bP p) c Par.bpCreditAlloc)) [] } s
  else s

/-- What an accepted change of ALARM does: FAR_ID_CHANGED, LAT_OK lost (R66), DYING. -/
def alarmAccepted (p old v : Nat) (s : State) : State :=
  let idOf := fun (x : Nat) => x / 2 ^ 14 % 2 ^ 38
  let s := if idOf v ≠ idOf old then
      report (bP p) 0x42 [w32 (v / 2 ^ 14), w32 (v / 2 ^ 46 % 64)] s else s
  let s := if !v.testBit 54 then clearTimeOk p 3 s else s
  if v.testBit 55 && !old.testBit 55 then raise (bP p) 7 s else s

/-- An ALARM word (R57): its training fields act at once, the rest when two consecutive words agree. -/
def rxAlarm (p v : Nat) (s : State) : State :=
  let t := trunk s p
  let old := t.rx.alarm
  let s := trainAck p v (firRequest p v s)
  let t := trunk s p
  if alarmKey v = alarmKey old then allocateCredits p <| farEndRule p (setTrunk p { t with rx := { t.rx with alarm := v, alarmCand := v } } s)
  else if alarmKey v = alarmKey t.rx.alarmCand then
    allocateCredits p <| farEndRule p (alarmAccepted p old v (setTrunk p { t with rx := { t.rx with alarm := v, alarmCand := v } } s))
  else setTrunk p { t with rx := { t.rx with alarmCand := v } } s

/-- CRC-16 of a segment record over bits 287:16 (Table DF-12). -/
def recordCrc (rec : Nat) : Nat := crcMsb 16 0x1021 0xFFFF (bitsMsb 272 (rec / 2 ^ 16))

/-- A SHAFT word (R60): fragments of one record in order; a whole record that passes its CRC is offered to its shaft where
the service is usable (R67), and one that fails is counted once. -/
def rxShaft (p v : Nat) (s : State) : State :=
  let use := decide (4 ≤ (trunk s p).link.code) && (trunk s p).time.timeOk
  let t := trunk s p
  let sh := v / 2 ^ 54 % 64
  let seg := v / 2 ^ 51 % 8
  let frag := v / 2 ^ 48 % 8
  let pay := v % 2 ^ 48
  let gone := fun (r : TrunkRx) => { r with shaft := r.shaft.del sh }
  let start := fun (r : TrunkRx) => { r with shaft := r.shaft.set sh ⟨seg, 1, pay⟩ }
  let fail := fun (r : TrunkRx) => if frag = 5 then gone (cntSignal r) else { cntSignal r with shaft := r.shaft.set sh ⟨seg, 6, 0⟩ }
  let put := fun (r : TrunkRx) => setTrunk p { t with rx := r } s
  match t.rx.shaft.find sh with
  | some a =>
    if a.segId = seg ∧ frag = a.next ∧ a.next < 6 then
      let bits := a.bits * 2 ^ 48 + pay
      if frag = 5 then
        if bits % 2 ^ 16 = recordCrc bits then (if use then offerRecord p sh bits (put (gone t.rx)) else put (gone t.rx))
        else put (gone (cntSignal t.rx))
      else put { t.rx with shaft := t.rx.shaft.set sh ⟨seg, frag + 1, bits⟩ }
    else
      let counted := decide (a.next = 6)
      if frag = 0 then put (start (if counted then t.rx else cntSignal t.rx))
      else if a.segId = seg then
        if counted then put (if frag = 5 then gone t.rx else t.rx) else put (fail t.rx)
      else put (fail (if counted then t.rx else cntSignal t.rx))
  | none => if frag = 0 then put (start t.rx) else put (fail t.rx)

/-- A tunnelled packet is discarded and counted (R78). -/
def tunnelDiscard (p cause : Nat) (s : State) : State :=
  let s := modTrunk p (fun t => { t with rx := { t.rx with errTunnel := (t.rx.errTunnel + 1) % 2 ^ 32 } }) s
  raise (bP p) 8 (report (bP p) 0x45 [w32 cause] s)

/-- The length of a reassembled packet with its envelope, from the Efram header behind the 12 bytes of the envelope
(R79). -/
def mgmtLen (bytes : List Byte) : Nat :=
  12 + 16 + 4 * beAt bytes 18 2 + (if (beAt bytes 13 1).testBit 3 then 32 else 0)

/-- What becomes of a packet that CHAN collects. -/
inductive MgmtStep where
  | more (a : MgmtAsm)
  | whole (bytes : List Byte)
  | failed (cause : Nat)
  | ignored

/-- One fragment on a CHAN (R78, R79): a fragment missing or out of order (cause 3), or more than 2,048 bytes beside the
envelope (cause 4; DESIGN CHOICE, log entry 53), fails the packet; the later fragments of a failed one are ignored. -/
def mgmtStep (old : Option MgmtAsm) (first last : Bool) (fseq : Nat) (data : List Byte) : MgmtStep :=
  let go := fun (a : MgmtAsm) =>
    let bytes := a.bytes ++ data
    if 2048 + 12 + 5 < bytes.length then .failed 4
    else if last then
      if bytes.length < mgmtLen bytes then .failed 3
      else if 2048 + 12 < mgmtLen bytes then .failed 4
      else .whole (bytes.take (mgmtLen bytes))
    else .more ⟨(fseq + 1) % 256, bytes, false⟩
  if first then (if fseq = 0 then go ⟨0, [], false⟩ else .failed 3)
  else match old with
    | none => .failed 3
    | some a => if a.dead then .ignored else if fseq = a.next then go a else .failed 3

/-- A MGMT word (R78, R79): one fragment; a whole packet waits for TUNNEL_PACKET_RECEIVED, where the service is usable
(R67).  A FIRST discards the incomplete packet of its channel; each packet discarded is counted once. -/
def rxMgmt (p v : Nat) (s : State) : State :=
  let t := trunk s p
  let ch := v / 2 ^ 56 % 4
  let first := v.testBit 59
  let last := v.testBit 58
  let fseq := v / 2 ^ 48 % 256
  let old := t.rx.mgmt.find ch
  let open_ := match old with
    | some a => !a.dead
    | none => false
  let put := fun (m : Tab MgmtAsm) (s : State) => modTrunk p (fun t => { t with rx := { t.rx with mgmt := m } }) s
  let s := if first && open_ && fseq == 0 then tunnelDiscard p 3 s else s
  match mgmtStep old first last fseq (bytesBE 6 v) with
  | .more a => put (t.rx.mgmt.set ch a) s
  | .whole b =>
    let s := put (t.rx.mgmt.del ch) s
    if 3 ≤ t.link.code then modTrunk p (fun t => { t with rx := { t.rx with packets := t.rx.packets ++ [b] } }) s else s
  | .failed c => tunnelDiscard p c (put (if last then t.rx.mgmt.del ch else t.rx.mgmt.set ch ⟨0, [], true⟩) s)
  | .ignored => if last then put (t.rx.mgmt.del ch) s else s

/-- A good block's signal word (R56, R67): checked from ALIGNED on, acted on in the states of Table DF-17.  With
TUNNEL_EN = 0 MGMT words are ignored (DESIGN CHOICE, log entry 53). -/
def rxSignal (p slot seq8 stamp v : Nat) (s : State) : State :=
  let (ty, empty) := slotType slot
  let t := trunk s p
  let st := t.link.code
  if v / 2 ^ 60 ≠ ty then
    if v / 2 ^ 60 = 0 ∧ empty then s else setTrunk p { t with rx := cntSignal t.rx } s
  else if st < 2 then s
  else match ty with
  | 1 => rxTime p seq8 stamp v s
  | 2 => if 3 ≤ st then rxEcho p v s else s
  | 3 => rxHeart p v s
  | 4 => if 3 ≤ st then rxQuality p v s else s
  | 5 => rxShaft p v s
  | 6 => rxCredit p v s
  | 7 => if parN s (bP p) 0 Par.dfTunnelEn = 1 then rxMgmt p v s else s
  | _ => rxAlarm p v s

/-! ## Receiving a block (R45, R62, R63) -/

/-- The frame open on the receive side ends bad (R54); below UP nothing is delivered of it (R67). -/
def breakFrame (t : Trunk) : TrunkRx :=
  if t.link = .up then endFrame (.endedBad 3) t.rx else { t.rx with frame := none }

/-- A missing block (R45): the whole is discarded, its signal word counted (R56); an open frame ends bad (R54); 17 within
1 s raise MISSING_RATE.  The filter of R63 counts it unless a PLL failover suspends it (R28). -/
def missBlock (p stamp : Nat) (s : State) : State :=
  let t := trunk s p
  let at_ := (stamp :: t.rx.missAt).take 17
  let run := if (quad s (p / 4)).filterOff then 0 else t.rx.missRun + 1
  let s := setTrunk p { t with rx := { cntSignal (breakFrame t) with
    missing := (t.rx.missing + 1) % 2 ^ 32, missRun := run, missAt := at_, clean := 0 } } s
  match at_[16]? with
  | some old => if nsDiff stamp old ≤ 1000000000 then
      raise (bP p) 2 (modTrunk p (fun t => { t with rx := { t.rx with missAt := [] } }) s) else s
  | none => s

/-- Comma search in LOCKING (Table DF-16): the header of the first block may fail; the next three must pass and run on
by one. -/
def searchComma (p : Nat) (found : Bool) (h : Option (Nat × Nat)) (s : State) : State :=
  let t := trunk s p
  if !found then setTrunk p { t with rx := { t.rx with commas := 0, lastSlot := none } } s
  else
    let slot := h.map (·.1)
    let good := t.rx.commas != 0 && slot.isSome
      && (t.rx.commas == 1 || slot == t.rx.lastSlot.map (fun k => (k + 1) % 16))
    let n := if good then t.rx.commas + 1 else 1
    let s := setTrunk p { t with rx := { t.rx with commas := n, lastSlot := slot, missRun := 0, clean := 0 } } s
    if n = 4 then startTraining p (setLink p .aligned s) else s

/-- A stuff error (R48, R54, R56): the block's signal word and words are discarded and counted. -/
def stuffBlock (p : Nat) (s : State) : State :=
  raise (bP p) 3 (modTrunk p (fun t => { t with rx := { cntSignal (breakFrame t) with
    errStuff := (t.rx.errStuff + 1) % 2 ^ 32, clean := 0 } }) s)

/-- The 28 words of a good block (R54, R67): below UP they are checked and counted, and no frame is delivered. -/
def takeWords (p stamp : Nat) (bits : List Bool) (s : State) : State :=
  let mtu := parN s (bP p) 0 Par.dfTrunkMtu
  modTrunk p (fun t =>
    let r := rxWords mtu stamp 28 bits t.rx
    { t with rx := if t.link = .up then r else if t.link.code < 2 then t.rx else { r with ended := t.rx.ended } }) s

/-- DIFIVI_BLOCK_RECEIVED: `raw` is the counter at the internal stamping point of the timing edge.  SLOT must be one more than that of the last block that was not missing (R45). -/
def effDifiviBlockReceived (p : Nat) (found : Bool) (region : List Bool) (raw : Nat) (s : State) : State :=
  if !isTrunk s p || !blkRun s (bP p) then s
  else
    let stamp := rxPin s p raw
    let t := trunk s p
    let h := readHeader (natMsb (region.take 16))
    match t.link with
    | .down => s
    | .locking => searchComma p found h s
    | _ =>
      match found, h with
      | true, some (slot, seq) =>
        if t.rx.lastSlot.map (fun k => (k + 1) % 16) = some slot ∨ t.rx.lastSlot.isNone then
          let s := setTrunk p { t with rx := { t.rx with missRun := 0, lastSlot := some slot } } s
          let (bits, bad) := destuff 1928 region 0 none
          if bad then stuffBlock p s
          else
            let body := scramble (scrSeed slot seq) (bits.drop 16)
            let s := modTrunk p (fun t => { t with rx := { t.rx with clean := min (t.rx.clean + 1) 1024 } }) s
            takeWords p stamp (body.drop 64) (rxSignal p slot seq stamp (natMsb (body.take 64)) s)
        else missBlock p stamp s
      | _, _ => missBlock p stamp s

/-- Blocks missing for as long as SIG_DET or CDR_LOCK is lost, up to the third in a row (R63). -/
def lossMisses (p : Nat) (s : State) : State :=
  let n := 3 - (trunk s p).rx.missRun
  if (lane s p).cdrLock && (lane s p).sigDet then s
  else modTrunk p (fun t => { t with rx := { t.rx with
    missRun := t.rx.missRun + n, missing := (t.rx.missing + n) % 2 ^ 32, clean := 0 } }) s

/-- TRUNK_LINK_DOWN_FILTER (R63): three consecutive missing blocks, in ALIGNED or above, unless the filter is
suspended by a PLL failover (R28).  The block periods of a loss of SIG_DET or CDR_LOCK have passed then. -/
def effTrunkLinkDownFilter (p : Nat) (s : State) : State :=
  if 2 ≤ (trunk s p).link.code ∧ !(quad s (p / 4)).filterOff then
    let s := lossMisses p s
    if 3 ≤ (trunk s p).rx.missRun then linkDown p s else s
  else s

/-! ## Transmitting a block (R43, R47, R55, R59, R69, R71, R79) -/

/-- Cells class `c` may return in this CREDIT word: at most 63 (R71). -/
def creditStep (t : Trunk) (c : Nat) : Trunk :=
  let n := min 63 (t.owe.get 0 c).toNat
  { t with owe := t.owe.set c (t.owe.get 0 c - (n : Int)), count := t.count.set c ((t.count.get 0 c + n) % 128) }

/-- The CREDIT word and the trunk that has counted it (Table DF-13, R71). -/
def txCredit (t : Trunk) : Nat × Trunk :=
  let t := (List.range 8).foldl creditStep t
  (6 * 2 ^ 60 + (List.range 8).foldl (fun a c => a + t.count.get 0 c * 2 ^ (4 + 7 * c)) 0, t)

/-- The ECHO or EMPTY of slot 1 (R59): the newest TIME that arrived 200 ns or more before this block's edge, unless it
has been echoed. -/
def txEcho (stamp : Nat) (t : Trunk) : Nat × Trunk :=
  match t.rx.times.find? (fun f => decide (200 ≤ nsDiff stamp f.stamp)) with
  | none => (0, t)
  | some f =>
    if f.echoed then (0, t)
    else (2 * 2 ^ 60 + f.seq * 2 ^ 48 + f.stamp % 2 ^ 48,
      { t with rx := { t.rx with times := t.rx.times.map (fun x => if x = f then { x with echoed := true } else x) } })

/-- The SHAFT or EMPTY word: the record at the head, fragment by fragment (Table DF-12). -/
def txShaft (t : Trunk) : Nat × Trunk :=
  match t.tx.shaftQ with
  | [] => (0, t)
  | x :: r =>
    let w := 5 * 2 ^ 60 + x.shaft * 2 ^ 54 + x.segId * 2 ^ 51 + x.frag * 2 ^ 48 + x.bits / 2 ^ (240 - 48 * x.frag) % 2 ^ 48
    (w, { t with tx := { t.tx with shaftQ := if x.frag = 5 then r else { x with frag := x.frag + 1 } :: r } })

/-- The next CHAN with a fragment ready, from `k` on in round robin (R79). -/
def nextChan (m : Tab MgmtSend) (k : Nat) : Option Nat :=
  (List.range 4).map (fun i => (k + i) % 4) |>.find? (fun c => (m.find c).isSome)

/-- The MGMT or EMPTY word (R79). -/
def txMgmt (t : Trunk) : Nat × Trunk :=
  match nextChan t.tx.mgmt t.tx.mgmtTurn with
  | none => (0, t)
  | some c =>
    match t.tx.mgmt.find c with
    | none => (0, t)
    | some m =>
      let d := m.bytes.take 6
      let last := m.bytes.length ≤ 6
      let w := 7 * 2 ^ 60 + b2n (m.fseq == 0) * 2 ^ 59 + b2n last * 2 ^ 58 + c * 2 ^ 56 + m.fseq % 256 * 2 ^ 48
        + natBE (d ++ List.replicate (6 - d.length) 0)
      (w, { t with tx := { t.tx with
        mgmtTurn := (c + 1) % 4
        mgmt := if last then t.tx.mgmt.del c else t.tx.mgmt.set c ⟨m.fseq + 1, m.bytes.drop 6⟩ } })

/-- The ALARM word (Table DF-15); ACK_STATUS is sent as 0 after the two words of R69 (DESIGN CHOICE, log entry 53). -/
def txAlarm (s : State) (p : Nat) (t : Trunk) : Nat × Trunk :=
  let dying := s.boot.resetDue || s.boot.supplyFall
  let w := 8 * 2 ^ 60 + t.link.code * 2 ^ 57 + b2n (parN s (bP p) 0 Par.dfLinkAdmin == 0) * 2 ^ 56 + b2n dying * 2 ^ 55
    + b2n (lane s p).latValid * 2 ^ 54 + b2n t.time.timeOk * 2 ^ 53 + p % 64 * 2 ^ 46
    + s.boot.serial % 2 ^ 32 * 2 ^ 14 + t.tx.preReq * 2 ^ 12 + t.tx.postReq * 2 ^ 10 + t.tx.reqSeq * 2 ^ 8
    + t.tx.ackSeq * 2 ^ 6 + (if t.tx.ackLeft = 0 then 0 else t.tx.ackStat) * 2 ^ 4
  (w, { t with tx := { t.tx with ackLeft := t.tx.ackLeft - 1 } })

/-- The HEART word (Table DF-10). -/
def txHeart (s : State) (t : Trunk) : Nat × Trunk :=
  (3 * 2 ^ 60 + heartFields s * 2 ^ 16 + t.tx.hbCount % 256 * 2 ^ 8,
   { t with tx := { t.tx with hbCount := (t.tx.hbCount + 1) % 256 } })

/-- The signal word of the slot about to be sent, and the trunk that has sent it. -/
def txSignal (s : State) (p stamp : Nat) (t : Trunk) : Nat × Trunk :=
  match (slotType t.tx.slot).1 with
  | 1 =>
    let e : SentTime := { seq := t.tx.superNo, sent := stamp % 2 ^ 48, latOk := (lane s p).latValid, used := false }
    (1 * 2 ^ 60 + t.tx.superNo * 2 ^ 48 + stamp % 2 ^ 48, { t with tx := { t.tx with sent := (e :: t.tx.sent).take 256 } })
  | 2 => txEcho stamp t
  | 3 => txHeart s t
  | 4 => (qualityWord s p, t)
  | 5 => txShaft t
  | 6 => txCredit t
  | 7 => txMgmt t
  | _ => txAlarm s p t

/-- Packets queued for the trunk's MGMT words take free CHANs, up to four in progress (R79); below TRAINED or with
TUNNEL_EN = 0 they are discarded (R78), counted at this egress port (DESIGN CHOICE, log entry 53). -/
def loadMgmt (p : Nat) : Nat → State → State
  | 0, s => s
  | n + 1, s =>
    let t := trunk s p
    match s.keep.mgmtTx.get [] p with
    | [] => s
    | b :: r =>
      let s' := { s with keep := { s.keep with mgmtTx := s.keep.mgmtTx.set p r } }
      if t.link.code < 3 ∨ parN s (bP p) 0 Par.dfTunnelEn = 0 then loadMgmt p n (tunnelDiscard p 2 s')
      else match t.tx.mgmt.freeFrom 0 4 with
      | none => s
      | some c => loadMgmt p n (setTrunk p { t with tx := { t.tx with mgmt := t.tx.mgmt.set c ⟨0, b⟩ } } s')

/-- At this side's slot 0 a superblock has passed: the count of superblocks without a valid exchange (R65, R66). -/
def superTick (p : Nat) (s : State) : State :=
  modTrunk p (fun t =>
    if t.time.gotEx then { t with time := { t.time with gotEx := false, lost := 0 } }
    else { t with time := { t.time with lost := t.time.lost + 1, run := [] } }) s

/-- CREDIT_ACTIVE sets once the whole allocation has been released (R73). -/
def creditWatch (p : Nat) (s : State) : State :=
  let t := trunk s p
  if t.released ∧ !t.creditActive ∧ (List.range 8).all (fun c => decide (t.owe.get 0 c ≤ 0)) then
    report (bP p) 0x43 [] (setTrunk p { t with creditActive := true } s)
  else s

/-- The superblock counter starts at an arbitrary value after a reset (R44). -/
def beginSuper (p : Nat) (s : State) : State :=
  if (trunk s p).tx.begun then s
  else
    let (n, s) := drawNat s
    modTrunk p (fun t => { t with tx := { t.tx with begun := true, superNo := n % 4096 } }) s

/-- DIFIVI_BLOCK_TRANSMIT: the block's timing edge is stamped at the pin (R58).  Blocks are sent
in every state while the serving PLL is locked; words other than IDLE only in UP, but for the ABORT that LINK_ADMIN
owes (R81).  `raw` is the counter at the internal stamping point. -/
def effDifiviBlockTransmit (p raw : Nat) (s : State) : State :=
  if !isTrunk s p || !blkRun s (bP p) || (lane s p).squelched then s
  else
    let s := beginSuper p (loadMgmt p ((s.keep.mgmtTx.get [] p).length) s)
    let s := if (trunk s p).tx.slot = 0 then superTick p s else s
    let t := trunk s p
    let slot := t.tx.slot
    let seq := t.tx.superNo
    let (sig, t) := txSignal s p (txPin s p raw) t
    let up := t.link = .up
    let ws := if t.tx.ending then [abortWord 3] else if up then t.tx.words.take 28 else []
    let ws := ws ++ List.replicate (28 - ws.length) idleWord
    let tx := { t.tx with
      ending := false
      words := if up && !t.tx.ending then t.tx.words.drop 28 else t.tx.words
      slot := (slot + 1) % 16
      superNo := if slot = 15 then (seq + 1) % 4096 else seq }
    let s := emit (.block p (buildBlock slot seq sig ws)) (setTrunk p { t with tx := tx } s)
    if slot = 3 ∨ slot = 9 ∨ slot = 15 then creditWatch p s else s

/-! ## The other trunk rows -/

/-- Signal and CDR lock with LINK_ADMIN = 1 move the port from DOWN to LOCKING (Table DF-16). -/
def trunkSignal (p : Nat) (s : State) : State :=
  if blkRun s (bP p) ∧ (trunk s p).link = .down ∧ parN s (bP p) 0 Par.dfLinkAdmin = 1 ∧ (lane s p).sigDet ∧ (lane s p).cdrLock then
    setLink p .locking (modTrunk p (fun t => { t with
      adaptDone := laneAdapted s p
      txTrained := false, rx := { t.rx with commas := 0, lastSlot := none } }) s)
  else s

/-- LOCK_TIMEOUT (Table DF-22): raised in LOCKING; the search continues. -/
def effLockTimeout (p : Nat) (s : State) : State :=
  if isTrunk s p ∧ (trunk s p).link = .locking then raise (bP p) 1 s else s

/-- Training ends (R68): the net steps of TX_PRE and TX_POST that were requested and applied are reported, and the
fields return to hold. -/
def endTraining (p fom : Nat) (g : Training) (s : State) : State :=
  let t := trunk s p
  report (bP p) 0x44 [BitVec.ofInt 32 g.netPre, BitVec.ofInt 32 g.netPost, w32 fom]
    (setTrunk p { t with txTrained := true, training := none, tx := { t.tx with preReq := 0, postReq := 0 } } s)

/-- TRAINING_DONE (R68): every field and direction has been tried, or 64 requests have been made. -/
def effTrainingDone (p fom : Nat) (s : State) : State :=
  match (trunk s p).training with
  | none => s
  | some g => if isTrunk s p ∧ (trunk s p).link = .aligned ∧ g.finished then endTraining p fom g s else s

/-- TRAINING_REQUEST_TIMEOUT (R68): no acknowledgement within 100 µs ends training and keeps the FIR as it is. -/
def effTrainingRequestTimeout (p : Nat) (s : State) : State :=
  match (trunk s p).training with
  | none => s
  | some g => if isTrunk s p ∧ (trunk s p).link = .aligned ∧ !g.finished then endTraining p (lane s p).fom g s else s

/-- TRUNK_TRAINED (Table DF-16): adaptation and transmit training done, 1,024 clean blocks, far-end RX_STATE at least
2; with TX_TRAIN = 0 no training is needed (R68). -/
def effTrunkTrained (p : Nat) (s : State) : State :=
  let t := trunk s p
  if isTrunk s p ∧ t.link = .aligned ∧ t.adaptDone ∧ (t.txTrained ∨ parN s (bP p) 0 Par.dfTxTrain = 0)
      ∧ t.rx.clean = 1024 ∧ 2 ≤ t.rx.alarm / 2 ^ 57 % 8 then
    farEndRule p (allocateCredits p (enterTrained p s))
  else s

/-- The time check of R65 over the exchanges of the last TIMED_EXCHANGES superblocks. -/
def timeCheck (s : State) (p : Nat) : Bool :=
  let t := trunk s p
  let b := bP p
  let n := parN s b 0 Par.dfTimedExchanges
  let l := t.time.run.take n
  let top := l.foldl max (l.headD 0)
  let low := l.foldl min (l.headD 0)
  (lane s p).latValid && t.rx.alarm.testBit 54 && decide (l.length = n)
    && decide (2 * top ≤ (parN s b 0 Par.dfRoundTripMax * 65536 : Nat))
    && decide (top - low ≤ psUnits (parN s b 0 Par.dfTimedSpreadMax))

/-- TIME_CHECK_PASSED (R65): TIME_OK sets; from TRAINED the link enters TIMED. -/
def effTimeCheckPassed (p : Nat) (s : State) : State :=
  let t := trunk s p
  if isTrunk s p ∧ 3 ≤ t.link.code ∧ !t.time.timeOk ∧ timeCheck s p then
    let s := setTrunk p { t with time := { t.time with timeOk := true, stepRun := 0 } } s
    let s := report (bP p) 0x41 [1, 0] s
    if t.link = .trained then setLink p .timed s else s
  else s

/-- EXCHANGE_LOSS (R66): 64 superblocks without a valid exchange. -/
def effExchangeLoss (p : Nat) (s : State) : State :=
  if isTrunk s p ∧ 64 ≤ (trunk s p).time.lost then clearTimeOk p 1 s else s

/-- TRUNK_HOLDOFF_EXPIRED (Table DF-16): the hold-off since the last entry to TRAINED from ALIGNED has elapsed. -/
def effTrunkHoldoffExpired (p : Nat) (s : State) : State :=
  let t := trunk s p
  if isTrunk s p ∧ (t.link = .timed ∨ t.link = .trained) then reachUp p (setTrunk p { t with heldOff := true } s) else s

/-- Trunk `p` is sending a frame: its transmitter is taken, or words of one wait for their block. -/
def sendingFrame (s : State) (p : Nat) : Bool := (portSched s p).tx.isSome || !(trunk s p).tx.words.isEmpty

/-- LINK_ADMIN_DOWN on a trunk (R81): a frame in progress ends with ABORT, cause INGRESS_ERROR, which the next block
carries, and DOWN is entered. -/
def trunkAdminDown (p : Nat) (s : State) : State :=
  if sendingFrame s p then
    let s := { s with sched := { s.sched with ports := s.sched.ports.set p { portSched s p with tx := none } } }
    emit (.frameAbort p 3) (modTrunk p (fun t => { t with tx := { t.tx with ending := true } }) (linkDown p s))
  else linkDown p s

/-- EXCHANGE_WINDOW_END (R116): the sample of the window, or WINDOW_EMPTY. -/
def windowEnd (p : Nat) (s : State) : Option Int × State :=
  let t := trunk s p
  let n := t.time.winEx.length
  let got := n + t.time.discarded
  if got < 2 * t.time.discarded ∨ 4 * got < 2 ^ t.time.win.log2 then
    let run := t.time.emptyRun + 1
    let tm := newWindow s p { t.time with emptyRun := run, prevMean := if 2 ≤ run then none else t.time.prevMean }
    (none, raise bGUH 4 (setTrunk p { t with time := tm } s))
  else
    let d := meanOf (t.time.winEx.map (·.1))
    let o := meanOf (t.time.winEx.map (·.2.2))
    let tm := newWindow s p { t.time with emptyRun := 0, prevMean := some d, meanDelay := d,
                                          asym := meanOf (t.time.winEx.map (·.2.1)), offset := o }
    (some (-o), setTrunk p { t with time := tm } s)

end Sys2Proof.Machine
end

