-- ==== Sys2Proof/Machine/Slots.lean ====
section
/-! DEFINITION. Resident slots, launches and hold-repeat (R288 to R294), and the port-class policers' commands (R297). -/

namespace Sys2Proof.Machine

/-- Slot `n`. -/
def slotOf (s : State) (n : Nat) : Slot := s.sched.slots.get (Slot.reset n) n
/-- Changes slot `n`. -/
def modSlot (n : Nat) (f : Slot → Slot) (s : State) : State :=
  { s with sched := { s.sched with slots := s.sched.slots.set n (f (slotOf s n)) } }

/-- The planned sector LAUNCH events of slot `n`, in order of fire time. -/
def slotPlans (s : State) (n : Nat) : List Planned :=
  s.shaft.tq.filter (fun p => p.kind == 2 && decide (p.slot < 8192) && p.arg.target == n)

/-- The next launch of a slot: its own, or the first planned LAUNCH event of a MODE 3 slot. -/
def slotNext (s : State) (n : Nat) : Option Int :=
  let x := slotOf s n
  if x.args.mode = 3 then (slotPlans s n).head?.map (·.fire) else x.next

/-- The launches of port `p` it has been told of (R290). -/
def nextLaunch (s : State) (p : Nat) : Option Int :=
  (s.sched.slots.filterMap (fun e => if e.2.args.port = p ∧ e.2.args.mode ≠ 0 then slotNext s e.1 else none)).foldl
    (fun a v => match a with | none => some v | some b => some (min b v)) none

/-- The earliest launch of pipeline `k`. -/
def pipeLaunch (s : State) (k : Nat) : Option Int :=
  (s.sched.slots.filterMap (fun e =>
    if pipeOf e.2.args.port = k ∧ e.2.args.mode ≠ 0 then slotNext s e.1 else none)).foldl
    (fun a v => match a with | none => some v | some b => some (min b v)) none

/-- The last 3.2 ns grid point at least 3.2 ns before an instant (R290). -/
def launchGrid (v : Int) : Int := ((5 * v - 1048576) / 1048576 * 1048576 + 4) / 5

/-- Loads the next launch of pipeline `k` into C16 + k. -/
def armLaunch (k : Nat) (s : State) : State :=
  match pipeLaunch s k with
  | some v => if rGuhRun s then armAt (16 + k) (launchGrid v) s else disarm (16 + k) s
  | none => disarm (16 + k) s

/-- C16 + k fires: the launches it names follow as LAUNCH rows. -/
def fireLaunch (k : Nat) (s : State) : State := (fireCmp (16 + k) s).2

/-! ## Frames on a trunk (Table DF-5) -/

/-- START of a launched frame (R75, R288, R292): TAG and EXPRESS from the channel; the next GEN_SEQ with GEN_EN, else the
number that came with the frame or that an R-TAG in it holds. -/
def slotStart (s : State) (x : Slot) (ch : Option Nat) : StartInfo :=
  let c := ch.bind (chanOf s)
  let own := match x.seq with
    | some q => some q
    | none => (parse x.frame).rtag
  let seq := match c with
    | some d => if d.genEn then some (fld (d.w 14) 31 16) else own
    | none => own
  { tag := ch.getD 0, cls := x.args.cls, express := (c.map (·.expressOut)).getD false, tagv := ch.isSome,
    seqv := seq.isSome, colour := 0, rseq := seq.getD 0 }

/-- A whole frame without its R-TAG, which never goes over a trunk (R52, R75); its FCS is computed anew. -/
def untagged (l : List Byte) : List Byte :=
  let b := l.take (l.length - 4)
  let x := parse b
  if x.rtag.isNone then l
  else
    let n := if x.tci.isSome then 16 else 12
    let v := b.take n ++ b.drop (n + 6)
    v ++ bytesLE 4 (crc32fcs v)

/-- The channel of a slot: CHANNEL with CHAN_VALID, or the channel that feeds it. -/
def slotChan (s : State) (n : Nat) : Option Nat :=
  let x := slotOf s n
  if x.args.chanValid then some x.args.channel
  else if x.args.feed = 1 then
    (s.core.chans.find? (fun e => e.2.valid && (e.2.launchEn || e.2.holdRepeat) && e.2.launchSlot == n)).map (·.1)
  else none

/-- The channel whose hold-repeat a slot serves. -/
def repeatChan (s : State) (n : Nat) : Option (Nat × Chan) :=
  match s.core.chans.find? (fun e => e.2.valid && e.2.holdRepeat && e.2.launchSlot == n) with
  | some e => some e
  | none => none

/-- The claim check of CLAIM_MODE = 1 (R244): a member of pair PAIR_ID forwards only while it holds the grant,
and none while it hands over (R311). -/
def sendClaimOk (s : State) (c : Chan) : Bool :=
  c.claimMode != 1 || pairPar s Par.prPairMode == 0 || pairPar s Par.prPairId != c.pairId || (s.pair.grant && s.pair.switching.isNone)

/-! ## Fields -/

/-- SLOT_CONFIG (R288). -/
def bodySlotConfig (a : SlotArgs) (s : State) : Resp :=
  let now : Int := units s
  let ns (n : Nat) : Nat := n * 65536
  if !rSched s then refuse stNotReady s
  else if 1024 ≤ a.slot ∨ 4 < a.mode ∨ 1 < a.feed ∨ 64 ≤ a.port ∨ 8 ≤ a.cls ∨ 65536 ≤ a.channel
      ∨ ns 1000000000 < a.lateLimit ∨ (a.mode = 4 ∧ (a.hrGrace < ns 2000 ∨ ns 1000000000 < a.hrGrace))
      ∨ (a.mode = 2 ∧ (a.period < ns 1000 ∨ ns 2000000000 < a.period))
      ∨ (a.feed = 0 ∧ a.mode = 4) then refuse stOutOfRange s
  else if a.mode = 1 ∧ (nsAhead s a.time ≤ 0 ∨ 2000000000 < nsAhead s a.time) then refuse stOutOfRange s
  else
    let next : Option Int :=
      if a.mode = 1 then some (dueOf s a.time)
      else if a.mode = 2 then
        let first := now + usU 20
        some ((a.time : Int) + -((-(first - (a.time : Int))) / (a.period : Int)) * (a.period : Int))
      else none
    let old := slotOf s a.slot
    let s := modSlot a.slot (fun x => { x with
      args := a
      next := next
      deadline := none
      committed := false
      fresh := if x.args.feed = a.feed then x.fresh else false
      frame := if x.args.feed = a.feed then x.frame else []
      seq := if x.args.feed = a.feed then x.seq else none }) s
    ok (armLaunch (pipeOf a.port) (armLaunch (pipeOf old.args.port) s))

/-- A frame's FCS appended. -/
def withFcs (l : List Byte) : List Byte := l ++ bytesLE 4 (crc32fcs l)

/-- SLOT_WRITE (R288): atomic against launches; within 1 µs of a launch it applies after it. -/
def bodySlotWrite (n : Nat) (data : List Byte) (s : State) : Resp :=
  if !rSched s then refuse stNotReady s
  else if 1024 ≤ n ∨ data.length + 4 < 64 ∨ 2048 < data.length + 4 ∨ (slotOf s n).args.feed ≠ 0 then refuse stOutOfRange s
  else
    let soon := match slotNext s n with
      | some t => decide (t < (units s : Int) + usU 1)
      | none => false
    let f := withFcs data
    ok (modSlot n (fun x => if soon then { x with waiting := some f } else { x with frame := f, seq := none, waiting := none }) s)

/-- A time in 2^-16 ns as a Guhild time of 96 bits: seconds, nanoseconds, fraction. -/
def guhFormat (v : Nat) : Nat := v / 65536 / 1000000000 * 2 ^ 48 + v / 65536 % 1000000000 * 65536 + v % 65536

/-- SLOT_READ: the fields, LAST_LAUNCH, and a status word: bit 31 a frame held, bit 30 it is fresh, bit 29 a repeat is
committed, bits 15:0 frames replaced (DESIGN CHOICE). -/
def bodySlotRead (n : Nat) (s : State) : Resp :=
  if !rSched s then refuse stNotReady s
  else if 1024 ≤ n then refuse stOutOfRange s
  else
    let x := slotOf s n
    let a := x.args
    let tm := if a.mode = 2 then guhFormat a.time else a.time
    okWith ([n, a.mode, a.feed, a.port, a.cls, b2n a.chanValid, a.channel].flatMap w64
      ++ [w32 (tm >>> 64), w32 (tm >>> 32), w32 tm]
      ++ w64 a.period ++ w64 a.lateLimit ++ w64 a.hrGrace ++ w64 x.lastLaunch
      ++ [w32 (b2n (!x.frame.isEmpty) * 2 ^ 31 + b2n x.fresh * 2 ^ 30 + b2n x.committed * 2 ^ 29 + x.replaced % 2 ^ 16)]) s

/-! ## Occupancy and launch quantum (Table SD-4) -/

/-- The bound on occ for `L` bytes in ps. -/
def occPs (m l : Nat) : Nat :=
  let w := l / 8 + 2
  match m with
  | 1 => (l + 20) * 8000 + 16000
  | 2 => (l + 20) * 3200 + 6400
  | 3 => (l + 20) * 800 + 6400
  | 4 => (l + 20) * 320 + 2560
  | 5 => (l + 20) * 80 + 640
  | 6 => w * 5867 + ((w - 1) / 28 + 1) * 17778
  | 7 => w * 2347 + ((w - 1) / 28 + 1) * 7111
  | _ => 0

/-- The bound on occ in 2^-16 ns, rounded up. -/
def occBound (m l : Nat) : Int := ((occPs m l * 65536 + 999) / 1000 : Nat)

/-- How much later than T a launch may leave and still be in its quantum, in ps (R289, Table SD-4). -/
def launchSlack (m : Nat) : Nat :=
  match m with
  | 1 => 16000
  | 2 => 6400
  | 3 => 6400
  | 4 => 2560
  | 5 => 640
  | 6 => 5867 + 17778
  | 7 => 2347 + 7111
  | _ => 0

/-! ## Launching (R289 to R294) -/

/-- A launch of class `c` and `l` bytes on port `p` is blocked: the transmitter is busy, the class is paused, or credit
is short (R291). -/
def launchBlocked (s : State) (p c l : Nat) : Bool :=
  (portSched s p).tx.isSome || pausedBy s p c || !creditOk s p c l

/-- LAUNCH_MISSED (R291); causes 1 port down, 2 late limit, 3 claim.  The frame that this launch was to send is no longer
fresh (R292). -/
def launchMissed (n : Nat) (t : Int) (cause : Nat) (s : State) : State :=
  let p := (slotOf s n).args.port
  raise bSCHED 3 (report bSCHED 0x05 ([w32 n] ++ w64 (wrapN 48 t) ++ [w32 cause])
    (modPort p (fun x => { x with launchMissed := (x.launchMissed + 1) % 2 ^ 32 })
      (modSlot n (fun x => { x with fresh := x.fresh && !decide (x.arrived + usU 1 ≤ t) }) s)))

/-- Spends the credits of a frame on a trunk (R70, R74). -/
def spendCredit (p c l : Nat) (s : State) : State :=
  if isTrunk s p then
    modTrunk p (fun t => { t with balance := t.balance.set c (t.balance.get 0 c - (cellsOf l : Int)) }) s
  else s

/-- The frame of slot `n` leaves at `stamp`; late beyond its quantum (R289, R291). -/
def launchFrame (n : Nat) (t : Int) (stamp : Nat) (s : State) : State :=
  let x := slotOf s n
  let p := x.args.port
  let at_ := dueOf s stamp
  let ch := slotChan s n
  let out := if isTrunk s p then untagged x.frame else x.frame
  let s := if isTrunk s p then
      let s := modTrunk p (fun y => { y with tx := { y.tx with words := y.tx.words ++ frameWords (slotStart s x ch) out } }) s
      match ch with
      | some c => if ((chanOf s c).map (·.genEn)).getD false then modChan c (Chan.addF 14 31 16 1) s else s
      | none => s
    else s
  let s := count bSCHED 0x043 1 ⟨p, x.args.cls, ch, 0⟩ (modPort p (fun y => { y with tx := some (.slot n out ch) }) (shapePort p s))
  let s := modSlot n (fun y => { y with lastLaunch := stamp % 2 ^ 48 }) s
  if (launchSlack (portMode s p) * 65536 : Nat) < (at_ - t) * 1000 then
    raise bSCHED 2 (report bSCHED 0x04 ([w32 n] ++ w64 (wrapN 48 t) ++ w64 (stamp % 2 ^ 48))
      (modPort p (fun y => { y with launchLate := (y.launchLate + 1) % 2 ^ 32 }) s))
  else s

/-- The slot moves on to its next launch, taking a frame that waited for this one. -/
def slotAdvance (n : Nat) (s : State) : State :=
  let x := slotOf s n
  let next := if x.args.mode = 2 then x.next.map (fun t => t + (x.args.period : Int)) else none
  armLaunch (pipeOf x.args.port) (modSlot n (fun x => { x with
    next := next, seq := if x.waiting.isSome then none else x.seq, frame := x.waiting.getD x.frame, waiting := none }) s)

/-- Adds to HR_COUNT and HR_REPEATS of a channel (R294). -/
def countRepeat (ch : Nat) (s : State) : State := modChan ch (fun c => (c.addF 11 17 14 1).addF 31 15 0 1) s

/-- HR_EXHAUSTED is a lasting condition of any slot. -/
def reviewExhausted (s : State) : State :=
  if s.sched.slots.any (fun e => e.2.exhausted) then beginCause bSCHED 4 s else endCause bSCHED 4 s

/-- HR_COUNT has reached HR_LIMIT (R294 step 5). -/
def exhaust (n ch : Nat) (s : State) : State :=
  if (slotOf s n).exhausted then s
  else reviewExhausted (report bSCHED 0x07 [w32 ch] (modSlot n (fun x => { x with exhausted := true }) s))

/-- A fresh frame has been sent: HR_COUNT is 0 again. -/
def freshSent (n ch : Nat) (s : State) : State :=
  reviewExhausted (modSlot n (fun x => { x with exhausted := false }) (modChan ch (Chan.setF 11 17 14 0) s))

/-- What a launch of slot `n` sends: 0 nothing, 1 its frame, 2 the held frame again. -/
def launchKind (s : State) (n : Nat) (t : Int) : Nat :=
  let x := slotOf s n
  if x.frame.isEmpty then 0
  else if x.args.feed = 0 then 1
  else if x.fresh ∧ x.arrived + usU 1 ≤ t then 1
  else match repeatChan s n with
  | some c => if c.2.launchEn ∧ c.2.hrCount < c.2.hrLimit then 2 else 0
  | none => 0

/-- A launch of a slot of MODE 1 to 3 at `t` that leaves at `stamp`; a launch of a channel whose claim is not
granted is missed (R294, R308). -/
def launchSlot (n : Nat) (t : Int) (stamp : Nat) (s : State) : State :=
  let k := launchKind s n t
  let rc := repeatChan s n
  let denied := k != 0 && ((slotChan s n).bind (chanOf s)).any (fun c => !sendClaimOk s c)
  if denied then slotAdvance n (launchMissed n t 3 s)
  else
  let s1 := if k = 0 then s else launchFrame n t stamp s
  let s2 := match rc with
    | some c =>
      if k = 1 then freshSent n c.1 s1
      else if k = 2 then
        let s := countRepeat c.1 s1
        let s := report bSCHED 0x06 [w32 c.1, w32 (c.2.hrCount + 1), w32 (stamp / 65536)] s
        if c.2.hrLimit ≤ c.2.hrCount + 1 then exhaust n c.1 s else s
      else if c.2.launchEn ∧ c.2.hrLimit ≤ c.2.hrCount ∧ !(slotOf s n).frame.isEmpty then exhaust n c.1 s1 else s1
    | none => s1
  slotAdvance n (modSlot n (fun x => { x with fresh := if k = 1 then false else x.fresh }) s2)

/-- HR_COMMIT (R294 step 2). -/
def effHrCommit (n : Nat) (s : State) : State :=
  let x := slotOf s n
  match x.deadline, repeatChan s n with
  | some d, some c =>
    if x.args.mode ≠ 4 ∨ x.committed ∨ c.2.hrLimit ≤ c.2.hrCount ∨ !rSched s then s
    else
      let s := passTo (d - usU 2) s
      armLaunch (pipeOf x.args.port) (modSlot n (fun x => { x with committed := true, next := some d }) s)
  | _, _ => s

/-- The repeat's launch is over: the next deadline follows the previous one by HR_PERIOD, unless a fresh frame has set
another since the commit. -/
def repeatDone (n : Nat) (t : Int) (period : Nat) (s : State) : State :=
  armLaunch (pipeOf (slotOf s n).args.port) (modSlot n (fun x => { x with
    committed := false, next := none,
    deadline := if x.deadline = some t then some (t + nsU period) else x.deadline }) s)

/-- HR_REPEAT (R294 step 3): the committed repeat leaves at `stamp`; a channel with CLAIM_MODE = 1 whose claim is not
granted misses it. -/
def effHrRepeat (n stamp : Nat) (s : State) : State :=
  let x := slotOf s n
  match x.next, repeatChan s n with
  | some t, some c =>
    if x.args.mode ≠ 4 ∨ !x.committed then s
    else
      let s := passTo t s
      if !portUp s x.args.port then repeatDone n t c.2.hrPeriod (launchMissed n t 1 s)
      else if !sendClaimOk s c.2 then repeatDone n t c.2.hrPeriod (launchMissed n t 3 s)
      else if launchBlocked s x.args.port x.args.cls x.frame.length ∨ (x.args.lateLimit : Int) < dueOf s stamp - t
          ∨ dueOf s stamp < t then s
      else
        let s := countRepeat c.1 (launchFrame n t stamp s)
        let s := report bSCHED 0x06 [w32 c.1, w32 (c.2.hrCount + 1), w32 (stamp / 65536)] s
        let s := if c.2.hrLimit ≤ c.2.hrCount + 1 then exhaust n c.1 s else s
        repeatDone n t c.2.hrPeriod s
  | _, _ => s

/-- A frame of a hold-repeat channel has left its edge port whole at `stamp` (R294 steps 1 and 4). -/
def holdFrame (ch : Nat) (bytes : List Byte) (stamp : Nat) (s : State) : State :=
  match chanOf s ch with
  | none => s
  | some c =>
    let n := c.launchSlot
    let x := slotOf s n
    if !c.holdRepeat ∨ x.args.mode ≠ 4 ∨ 2048 < bytes.length then s
    else
      let d := dueOf s stamp + nsU c.hrPeriod + (x.args.hrGrace : Int)
      freshSent n ch (modSlot n (fun x => { x with frame := bytes, deadline := some d }) s)

/-- The port goes DOWN: held frames are discarded and HR_COUNT is set to HR_LIMIT, where step 5 raises HR_EXHAUSTED
(R294). -/
def slotsDown (p : Nat) (s : State) : State :=
  s.sched.slots.foldl (fun s e =>
    if (slotOf s e.1).args.port ≠ p then s
    else match repeatChan s e.1 with
    | some c =>
      let next := if (slotOf s e.1).args.mode = 4 then none else (slotOf s e.1).next
      exhaust e.1 c.1
        (modSlot e.1 (fun x => { x with frame := [], fresh := false, deadline := none, committed := false, next := next })
          (modChan c.1 (Chan.setF 11 17 14 c.2.hrLimit) s))
    | none => s) s

/-- A frame of a LAUNCH_EN channel, as edited for egress, is written into its slot at its end (R292). -/
def feedSlot (n : Nat) (bytes : List Byte) (seq : Option Nat) (s : State) : State :=
  if 2048 < bytes.length then s
  else modSlot n (fun x => { x with
    frame := bytes, seq := seq, fresh := true, arrived := (units s : Int),
    replaced := if x.fresh then (x.replaced + 1) % 2 ^ 16 else x.replaced }) s

/-! ## Checks of a channel's slot (R292, R293) -/

/-- A descriptor's only egress port, if it names exactly one. -/
def Chan.onlyPort (c : Chan) : Option Nat :=
  match (List.range 64).filter (fun p => c.egress.testBit p) with
  | [p] => some p
  | _ => none

/-- The sector LAUNCH events that name slot `n`: there are some, each on shaft `sh` (R292). -/
def launchesOn (s : State) (n sh : Nat) : Bool :=
  let l := s.shaft.slots.filter (fun e => e.2.arg.kind == 2 && e.2.arg.target == n)
  !l.isEmpty && l.all (fun e => e.2.arg.shaft == sh)

/-- LAUNCH_EN and HOLD_REPEAT_EN of a descriptor are allowed. -/
def chanSlotOk (s : State) (c : Chan) : Bool :=
  let x := (slotOf s c.launchSlot).args
  let kindOk := match c.schedKind with
    | 0 => true
    | 1 => !c.launchEn || x.mode == 1 || x.mode == 2
    | 2 => !c.launchEn || (x.mode == 3 && launchesOn s c.launchSlot c.shaftNo)
    | _ => false
  let launchOk := !c.launchEn || (match c.onlyPort with
    | some p => x.feed == 1 && x.port == p
    | none => false)
  let holdOk := !c.holdRepeat || (match c.onlyPort with
    | some p => isEdge s p && x.port == p && x.feed == 1
        && (if c.launchEn then decide (1 ≤ x.mode) && decide (x.mode ≤ 3) else x.mode == 4)
        && decide (10000 ≤ c.hrPeriod) && decide (x.hrGrace + 2000 * 65536 < c.hrPeriod * 65536)
    | none => false)
  kindOk && launchOk && holdOk

/-! ## Port-class policers (R296, R297) -/

/-- POLICER_SET. -/
def bodyPolicerSet (k cir pir cbs pbs : Nat) (aware : Bool) (s : State) : Resp :=
  if !rSched s then refuse stNotReady s
  else if 1024 ≤ k ∨ pir < cir ∨ 2 ^ 24 ≤ cbs ∨ 2 ^ 24 ≤ pbs then refuse stOutOfRange s
  else ok (modPolicer k (fun x => { x with cir := cir, pir := pir, cbs := cbs, pbs := pbs, aware := aware,
                                           tc := (cbs * 8192 : Nat), tp := (pbs * 8192 : Nat), time := rollNs s }) s)

/-- POLICER_READ: the fields, buckets in whole bytes, and counters. -/
def bodyPolicerRead (k : Nat) (s : State) : Resp :=
  if !rSched s then refuse stNotReady s
  else if 1024 ≤ k then refuse stOutOfRange s
  else
    let x := policer s k
    okWith ([k, x.cir, x.pir, x.cbs, x.pbs, b2n x.aware].flatMap w64
      ++ w64i (x.tc / 8192) ++ w64i (x.tp / 8192) ++ w64 x.yellow ++ w64 x.red) s

/-- A meter whose POL_TIME lies more than 1 s in the past is full again (R296). -/
def Meter.sweep (now : Nat) (m : Meter) : Meter :=
  if 1000000000 < signed32 now m.time then
    { m with tc := (m.cbs * 8192 : Nat), tp := (m.pbs * 8192 : Nat), time := now % 2 ^ 32 }
  else m

/-- POLICER_SWEEP (R296): every valid descriptor and every port-class policer. -/
def effPolicerSweep (s : State) : State :=
  let now := rollNs s
  let s := modCore (fun k => { k with chans := k.chans.map (fun e =>
    if e.2.valid then (e.1, e.2.setMeter (e.2.meter.sweep now)) else e) }) s
  { s with sched := { s.sched with policers := s.sched.policers.map (fun e => (e.1, e.2.setMeter (e.2.meter.sweep now))) } }

end Sys2Proof.Machine
end

