-- ==== Sys2Proof/Machine/Egress.lean ====
section
/-! DEFINITION. Egress (R228 last stages, R246, R247, R275, R282 to R287): editing a copy, the order of service, fit or
wait, and the end of a transmission. -/

namespace Sys2Proof.Machine

/-! ## Egress editing (R75, R232, R238, R293, R295) -/

/-- The tag a copy of `f` leaves port `out` with, as a TCI. -/
def egressTci (s : State) (f : Frame) (out : Nat) (x : Parsed) : Option Nat :=
  let untag := (s.core.vlan.find f.vid).any (fun v => v.untag.testBit out)
  let dei := (x.tci.getD 0).testBit 12 ||
    (isEdge s out && parN s (bP out) 0 Par.swDeiColour == 1 && f.colour == 1)
  let pcp := match x.tci with
    | some t => t / 2 ^ 13
    | none => parN s (bP f.inPort) 0 Par.swDefaultPcp
  let tag := fun (pcp vid : Nat) => some (pcp * 2 ^ 13 + b2n dei * 2 ^ 12 + vid)
  match f.desc with
  | some c =>
    if c.vlanOp = 1 then tag c.pcp c.vid
    else if c.vlanOp = 2 ∨ untag ∨ x.tci.isNone then none
    else tag pcp f.vid
  | none => if untag then none else tag pcp f.vid

/-- The R-TAG a copy leaves an edge port with: none for a hold-repeat channel, the frame's number with RTAG_OUT, else
what the frame carried. -/
def egressRtag (f : Frame) (edge : Bool) (x : Parsed) : Option Nat :=
  if !edge then none
  else match f.desc with
  | some c => if c.holdRepeat then none else if c.rtagOut ∧ f.seq.isSome then f.seq else x.rtag
  | none => x.rtag

/-- A frame without its FCS, edited for port `out`. -/
def editBody (s : State) (f : Frame) (out : Nat) : List Byte :=
  let l := f.bytes.take (f.bytes.length - 4)
  let x := parse l
  let rest := l.drop (if x.tci.isSome then 16 else 12)
  let rest := if x.rtag.isSome then rest.drop 6 else rest
  l.take 12
    ++ (match egressTci s f out x with | some t => bytesBE 2 0x8100 ++ bytesBE 2 t | none => [])
    ++ (match egressRtag f (isEdge s out) x with | some q => bytesBE 2 0xF1C1 ++ bytesBE 4 q | none => [])
    ++ rest

/-- A copy as it leaves port `out`, with its FCS computed anew. -/
def edited (s : State) (f : Frame) (out : Nat) : List Byte := withFcs (editBody s f out)

/-- A frame's body with the stomped FCS (R246). -/
def stomped (l : List Byte) : List Byte := l ++ bytesLE 4 (crc32fcs l ^^^ 0xFFFFFFFF)

/-- The sequence number that START carries. -/
def startSeq (i : StartInfo) : Option Nat := if i.seqv then some i.rseq else none

/-- START of a copy on a trunk (Table DF-5, R53, R75): the R-TAG's number travels in RSEQ. -/
def copyStart (f : Frame) : StartInfo :=
  let seq := match f.seq with
    | some q => some q
    | none => (parse f.bytes).rtag
  { tag := f.channel.getD 0, cls := f.cls, express := f.channel.isSome && (f.desc.map (·.expressOut)).getD false,
    tagv := f.channel.isSome, seqv := seq.isSome, colour := f.colour, rseq := seq.getD 0 }

/-- The words of a frame that ends with ABORT: START, the whole data words sent, ABORT. -/
def abortedWords (i : StartInfo) (l : List Byte) (cause : Nat) : List (Bool × Word64) :=
  (startWord i :: (dataWords (l.length / 8 + 1) l).filter (fun w => !w.1)) ++ [abortWord cause]

/-- Appends words to what trunk `p` sends. -/
def sendWords (p : Nat) (ws : List (Bool × Word64)) (s : State) : State :=
  modTrunk p (fun t => { t with tx := { t.tx with words := t.tx.words ++ ws } }) s

/-! ## Fit or wait (R282) -/

/-- The earlier of two bounds. -/
def minOpt (a b : Option Int) : Option Int :=
  match a, b with
  | none, b => b
  | a, none => a
  | some x, some y => some (min x y)

/-- Walking through entries of a time list from instant `t`: when the first that satisfies `f` begins. -/
def walkEntries (f : Nat → Bool) : List Nat → Int → Option Int
  | [], _ => none
  | e :: r, t => if f e then some (onGrid t) else walkEntries f r (t + (eLength e : Int))

/-- When the list of port `p` next enters an entry with `f`, as far as it is known (R279, R282): a held list may close
every gate at its restart, an angle list knows its converted boundary alone. -/
def listBound (s : State) (p : Nat) (f : Nat → Bool) (any : Bool) : Option Int :=
  let x := portSched s p
  match x.gcl with
  | none => none
  | some g =>
    if x.state = 3 then x.next.map onGrid
    else if x.state ≠ 2 then none
    else if g.ref = 0 then
      walkEntries f (g.entries.drop (x.entry + 1) ++ g.entries.take (x.entry + 1)) (x.cycle + g.endOf x.entry)
    else if (if any then g.entries.any f else f (g.entry ((x.entry + 1) % g.entries.length))) then x.next.map onGrid
    else none

/-- The next launch that may take the transmitter of port `p`: one already due counts unless pause or credit holds it. -/
def launchBound (s : State) (p : Nat) : Option Int :=
  s.sched.slots.foldl (fun a e =>
    let y := e.2
    if y.args.port ≠ p ∨ y.args.mode = 0 then a
    else match slotNext s e.1 with
    | some v =>
      if v ≤ (units s : Int) ∧ (pausedBy s p y.args.cls ∨ !creditOk s p y.args.cls y.frame.length) then a
      else minOpt a (some v)
    | none => a) none

/-- The bound b of R282 for queue `q` of port `p`. -/
def fitBound (s : State) (p q : Nat) (esc : Bool) : Option Int :=
  let closes := ((portSched s p).closes.get [] q).foldl (fun a v => minOpt a (some v)) none
  let prot := if esc then listBound s p eProtect false else none
  minOpt (listBound s p (fun e => !(eGates e).testBit q) true) (minOpt (launchBound s p) (minOpt closes prot))

/-- Whether a frame of `l` bytes of queue `q` fits now.  occ never exceeds its bound; where the bound does not fit, the
exact value, which the spec leaves to the transmit schedule, is an open value not above it. -/
def fits (s : State) (p q l : Nat) (esc : Bool) : Bool × State :=
  match fitBound s p q esc with
  | none => (true, s)
  | some b =>
    let now : Int := units s
    let o := occBound (portMode s p) l
    if now + o ≤ b then (true, s)
    else if b ≤ now then (false, s)
    else
      let d := drawNat s
      (decide (now + min (d.1 : Int) o ≤ b), d.2)

/-! ## Eligibility (R275) -/

/-- The head of queue `q` that may start, with the length it is judged by: a stored frame that is whole and good, or
the frame `cut` judged by the largest frame that its start allowed (R245, R283). -/
def headOf (s : State) (p q : Nat) (cut : Option Nat) : Option (Nat × Nat) :=
  match (outQ s p q).frames with
  | [] => none
  | (k, _) :: _ =>
    match frameOf s k with
    | none => none
    | some f =>
      if cut = some k then some (k, f.limit)
      else if f.ended ∧ f.bad.isNone then some (k, (edited s f p).length)
      else none

/-- The head of queue `q` is not held by gate, express entry, pause or credit. -/
def unheld (s : State) (p q l : Nat) (cut : Bool) : Bool :=
  (gatesNow s p).testBit q && !expressOpen s p && !pausedBy s p q && creditOk s p q (if cut then portMtu s p else l)

/-- The shaper lets queue `q` start a frame (R285). -/
def shaperOk (s : State) (p q : Nat) : Bool :=
  parN s (bP p) q Par.sdCbsEn != 1 || decide (0 ≤ (outQ s p q).credit)

/-- What a queue answers when its turn comes. -/
inductive Offer where
  | no
  | notFit
  | go (frame len : Nat)
  deriving DecidableEq, Repr

/-- Frame `k` waits behind a committed repeat of its channel on port `p`: a fresh frame that leaves after the commit
leaves after the repeat (R294 step 4). -/
def behindRepeat (s : State) (p k : Nat) : Bool :=
  match (frameOf s k).bind (·.desc) with
  | some c => c.holdRepeat && (slotOf s c.launchSlot).args.mode == 4 && (slotOf s c.launchSlot).args.port == p
      && (slotOf s c.launchSlot).committed
  | none => false

/-- Asks queue `q`: its head is eligible and fits; a head passed over for not fitting is counted. -/
def askQueue (p q : Nat) (cut : Option Nat) (esc : Bool) (s : State) : Offer × State :=
  match headOf s p q cut with
  | none => (.no, s)
  | some (k, l) =>
    if !unheld s p q l (cut == some k) || behindRepeat s p k || !(esc || shaperOk s p q) then (.no, s)
    else
      let x := fits s p q l esc
      if x.1 then (.go k l, x.2)
      else
        let key : CntKey := match frameOf s k with
          | some f => frameKey f p
          | none => ⟨p, q, none, 0⟩
        (.notFit, count bSCHED 0x041 1 key (modPort p (fun y => { y with fitWait := (y.fitWait + 1) % 2 ^ 32 }) x.2))

/-- A frame chosen to start: queue, frame, length, and whether an escalation grant sends it. -/
structure Pick where
  q     : Nat
  frame : Nat
  len   : Nat
  esc   : Bool
  deriving DecidableEq, Repr

/-- The first queue of a list that answers with a frame. -/
def askList (p : Nat) (cut : Option Nat) (esc : Bool) : List Nat → State → Option Pick × State
  | [], s => (none, s)
  | q :: r, s =>
    match askQueue p q cut esc s with
    | (.go k l, s) => (some ⟨q, k, l, esc⟩, s)
    | (_, s) => askList p cut esc r s

/-! ## Deficit round robin (R286) -/

/-- What every member of the group answers. -/
def askGroup (p : Nat) (cut : Option Nat) : List Nat → State → List (Nat × Offer) × State
  | [], s => ([], s)
  | q :: r, s =>
    let a := askQueue p q cut false s
    let b := askGroup p cut r a.2
    ((q, a.1) :: b.1, b.2)

/-- The member after `q` in ascending order with wrap. -/
def nextMember (g : List Nat) (q : Nat) : Nat :=
  match g.find? (fun m => decide (q < m)) with
  | some m => m
  | none => g.headD 0

/-- Turns of the group from member `q` on until one sends; `kept` is the first member that keeps its turn because its
head does not fit. -/
def drrTurns (p : Nat) (g : List Nat) (offers : List (Nat × Offer)) : Nat → Nat → Option Nat → State → Option Pick × State
  | 0, _, _, s => (none, s)
  | n + 1, q, kept, s =>
    match offers.find? (fun o => o.1 == q) with
    | some (_, .go k l) =>
      let o := outQ s p q
      let d : Int := o.deficit + (if o.fresh then par s (bP p) q Par.sdQuantum else 0)
      if (l : Int) ≤ d then
        (some ⟨q, k, l, false⟩,
         modPort p (fun x => { x with ptr := kept.getD q })
           (modOutQ p q (fun o => { o with deficit := d - (l : Int), fresh := false }) s))
      else drrTurns p g offers n (nextMember g q) kept (modOutQ p q (fun o => { o with deficit := d, fresh := true }) s)
    | some (_, .notFit) =>
      drrTurns p g offers n (nextMember g q) (some (kept.getD q)) s
    | _ =>
      drrTurns p g offers n (nextMember g q) kept
        (modOutQ p q (fun o => { o with fresh := true, deficit := if o.frames.isEmpty then 0 else o.deficit }) s)

/-- Serves the group; a frame of 10,240 bytes needs at most 160 turns of the smallest quantum, and where no member may
send each has one turn. -/
def drrPick (p : Nat) (cut : Option Nat) (g : List Nat) (s : State) : Option Pick × State :=
  let a := askGroup p cut g s
  let at_ := (portSched s p).ptr
  let start := if g.contains at_ then at_ else nextMember g at_
  let some_ := a.1.any (fun o => match o.2 with | .go _ _ => true | _ => false)
  drrTurns p g a.1 (if some_ then 162 * 8 else g.length) start none a.2

/-- Ungated queues: strict priority, the DRR group at the place of its highest member. -/
def ungatedPick (p : Nat) (cut : Option Nat) (g : List Nat) : Bool → List Nat → State → Option Pick × State
  | _, [], s => (none, s)
  | done, q :: r, s =>
    if g.contains q then
      if done then ungatedPick p cut g true r s
      else match drrPick p cut g s with
        | (some x, s) => (some x, s)
        | (none, s) => ungatedPick p cut g true r s
    else match askList p cut false [q] s with
      | (some x, s) => (some x, s)
      | (none, s) => ungatedPick p cut g done r s

/-- A launch of port `p` is due and held by nothing but the transmitter (rank 1). -/
def launchReady (s : State) (p : Nat) : Bool :=
  s.sched.slots.any (fun e =>
    let y := e.2
    y.args.port == p && y.args.mode != 0 && !y.frame.isEmpty && !launchBlocked s p y.args.cls y.frame.length
      && (slotNext s e.1).any (fun v => decide (v ≤ (units s : Int)) && (y.args.mode == 4 || launchKind s e.1 v != 0)))

/-- Port `p` owes its partner a PFC or PAUSE frame (R92). -/
def pauseDue (s : State) (p : Nat) : Bool :=
  isEdge s p && portUp s p && (edge s p).due != 0 && parN s (bP p) 0 Par.epFlowMode != 0

/-- Sends one PFC or PAUSE frame for the classes of `enable`. -/
def sendPause (p enable : Nat) (s : State) : State :=
  let q := parN s (bP p) 0 Par.epPfcQuanta
  let on := fun (c : Nat) => asserted s p c && !demoted s c
  let now := packBits 8 on
  let s' := if parN s (bP p) 0 Par.epFlowMode = 1 then
      emit (.pfc p 0 [if now = 0 then 0 else q] false) s
    else emit (.pfc p enable ((List.range 8).map (fun c => if enable.testBit c && on c then q else 0)) true) s
  modEdge p (fun e => { e with pfcTx := (e.pfcTx + 1) % 2 ^ 32, due := 0, asserted := now }) s'

/-- The first frame that Table SD-1 admits on a free transmitter; none while a pause frame is to go ahead (R92). -/
def selectPort (p : Nat) (cut : Option Nat) (s : State) : Option Pick × State :=
  if (portSched s p).tx.isSome || expressOpen s p || launchReady s p || pauseDue s p then (none, s)
  else
    let s := shapePort p s
    let down := [7, 6, 5, 4, 3, 2, 1, 0]
    let gated := fun (q : Nat) => (parN s (bP p) 0 Par.sdGatedMask).testBit q
    match askList p cut false (down.filter gated) s with
    | (some x, s) => (some x, s)
    | (none, s) =>
      match askList p cut true (down.reverse.filter (fun q => (outQ s p q).escDue)) s with
      | (some x, s) => (some x, s)
      | (none, s) =>
        let free := down.filter (fun q => !gated q)
        ungatedPick p cut ((free.filter (fun q => (parN s (bP p) 0 Par.sdDrrMask).testBit q)).reverse) false free s

/-- The transmitter of port `p` starts the frame chosen: a grant is used up; a stored frame's words follow on a trunk. -/
def startTx (p : Nat) (x : Pick) (cut : Bool) (deq : Nat) (s : State) : State :=
  let s := modPort p (fun y => { y with tx := some (.queued x.frame x.q cut deq (portMtu s p)) }) s
  let s := if x.esc then modOutQ p x.q (fun o => { o with escDue := false }) s else s
  match frameOf s x.frame with
  | some f => if isTrunk s p && !cut then sendWords p (frameWords (copyStart f) (edited s f p)) s else s
  | none => s

/-! ## EGRESS_SELECT -/

/-- Stored copies that editing has made longer than the port sends are discarded before transmission (R247). -/
def purgeLong (p : Nat) (s : State) : State :=
  (List.range 8).foldl (fun s q =>
    (outQ s p q).frames.foldl (fun s e =>
      match frameOf s e.1 with
      | none => s
      | some f =>
        if f.ended ∧ f.bad.isNone ∧ portMtu s p < (edited s f p).length then
          settle e.1 (traceCopy f (droppedMarks p 10) (removeCopy e.1 p s))
        else s) s) s

/-- EGRESS_SELECT (R275): a pause frame that is due goes ahead of any queued frame (R92). -/
def effEgressSelect (p : Nat) (s : State) : State :=
  if !portUp s p || !rSched s || (portSched s p).tx.isSome then s
  else if pauseDue s p then sendPause p (edge s p).due s
  else
    match selectPort p none (purgeLong p s) with
    | (some x, s) => startTx p x false (s.cycle % 2 ^ 32) s
    | (none, s) => s

/-! ## The end of a transmission (R70, R246, R247, R250, R259, R414) -/

/-- The time in ps that `n` bytes take at the frame rate of a mode. -/
def rawPs (m n : Nat) : Nat := if frameRate m = 0 then 0 else n * 8000000000 / frameRate m

/-- A launch fell due while a queued frame that ends at `stamp` plus its length was still leaving (R284). -/
def launchOverrun (p q stamp l : Nat) (s : State) : State :=
  match nextLaunch s p with
  | some v =>
    if v * 1000 < dueOf s stamp * 1000 + (rawPs (portMode s p) l * 65536 : Nat) then gateOverrun p q 3 s else s
  | none => s

/-- What leaves port `p` of a frame cut off at `lim` bytes: whole and good, or ended bad with a cause (R246, R250). -/
def sendCopy (p lim stamp : Nat) (f : Frame) (words : Bool) (s : State) : Nat × Bool × State :=
  let tc := if isEdge s p then ptpCorrected p f.inPort f.stamp stamp (editBody s f p) s else (editBody s f p, s)
  let body := tc.1
  let s := tc.2
  let out := withFcs body
  let long := decide (lim < out.length)
  let cause := if long then some 5 else f.bad
  let n := if long then lim + 1 else out.length
  match cause with
  | none =>
    let s := if isTrunk s p then (if words then sendWords p (frameWords (copyStart f) out) s else s)
      else emit (.frame p out false) s
    (n, false, s)
  | some c =>
    let body := if long then body.take (n - 4) else body
    let s := if isTrunk s p then
        modFwd p (fun x => { x with abortTx := (x.abortTx + 1) % 2 ^ 32 })
          (emit (.frameAbort p c) (sendWords p (abortedWords (copyStart f) body c) s))
      else modFwd p (fun x => { x with stompTx := (x.stompTx + 1) % 2 ^ 32 }) (emit (.frame p (stomped body) true) s)
    (n, true, s)

/-- TX_FRAMES and TX_BYTES. -/
def countTx (p n : Nat) (k : CntKey) (s : State) : State := count (bP p) 0x004 n k (count (bP p) 0x003 1 k s)

/-- A queued frame has left port `p`; a cut-through copy of a DRR queue was charged its ingress port's largest frame
and gets the rest back. -/
def endQueued (p stamp k q : Nat) (cut : Bool) (deq lim : Nat) (s : State) : State :=
  match frameOf s k with
  | none => modPort p (fun x => { x with tx := none }) s
  | some f =>
    if !f.ended then s
    else
      let depth := ((f.copies.find? (fun c => c.1 == p)).map (·.2)).getD 0
      let s := shapePort p s
      let r := sendCopy p lim stamp f cut s
      let s := spendCredit p q r.1 r.2.2
      let s := if cut && (parN s (bP p) 0 Par.sdDrrMask).testBit q && !(parN s (bP p) 0 Par.sdGatedMask).testBit q then
        modOutQ p q (fun o => { o with deficit := o.deficit + (f.limit : Int) - (r.1 : Int) }) s else s
      let s := launchOverrun p q stamp r.1 (countTx p r.1 (frameKey f p) s)
      let s := modPort p (fun x => { x with tx := none }) s
      let s := match f.channel with
        | some ch => if isEdge s p && !r.2.1 then holdFrame ch (edited s f p) stamp s else s
        | none => s
      let marks : CopyMarks := { out := p, reason := 0, cut := cut, dropped := false, slot := false, bad := r.2.1, egress := some (stamp % 2 ^ 48), deq := some deq, depth := depth }
      settle k (traceCopy f marks (removeCopy k p s))

/-- A crossing frame has left port `p` (R249, R250). -/
def endCrossing (p stamp k lim : Nat) (s : State) : State :=
  match frameOf s k with
  | none => modPort p (fun x => { x with tx := none }) s
  | some f =>
    if !f.ended then s
    else
      let r := sendCopy p (min (f.express.getD 0) lim) stamp f true (shapePort p s)
      let s := modPort p (fun x => { x with tx := none }) (countTx p r.1 (frameKey f p) (spendCredit p f.cls r.1 r.2.2))
      let s := match f.channel with
        | some ch => if isEdge s p && !r.2.1 then holdFrame ch (edited s f p) stamp s else s
        | none => s
      let marks : CopyMarks := { out := p, reason := 0, cut := true, dropped := false, slot := false, bad := r.2.1, egress := some (stamp % 2 ^ 48), deq := none, depth := 0 }
      settle k (modFrame k (fun f => { f with copies := [] }) (traceCopy f marks s))

/-- A resident slot's frame has left port `p`; its credit is spent now (R70). -/
def endSlot (p n : Nat) (bytes : List Byte) (ch : Option Nat) (s : State) : State :=
  let s := modPort p (fun x => { x with tx := none }) (shapePort p s)
  let s := spendCredit p (slotOf s n).args.cls bytes.length s
  let s := if isTrunk s p then s else emit (.frame p bytes false) s
  countTx p bytes.length ⟨p, (slotOf s n).args.cls, ch, 0⟩ s

/-- The transmitter of port `p` has finished what it was sending. -/
def endSending (p stamp : Nat) (s : State) : State :=
  match (portSched s p).tx with
  | none => s
  | some (.queued k q cut deq lim) => endQueued p stamp k q cut deq lim s
  | some (.crossing k lim) => endCrossing p stamp k lim s
  | some (.slot n bytes ch) => endSlot p n bytes ch s

/-- A pause frame that is due leaves at the frame boundary, where the transmitter is free (R92). -/
def pauseFollows (p : Nat) (s : State) : State :=
  if pauseDue s p && (portSched s p).tx.isNone then sendPause p (edge s p).due s else s

/-- FRAME_TRANSMIT_END: the frame is stamped at the egress pin; a pause frame that waited for the frame boundary
follows. -/
def effFrameTransmitEnd (p raw : Nat) (s : State) : State := pauseFollows p (endSending p (txPin s p raw) s)

/-! ## Escalation (R287) -/

/-- The dwell timer of queue `q` runs: its head is eligible, or held by sources of higher rank or priority alone. -/
def dwells (s : State) (p q : Nat) : Bool :=
  match headOf s p q none with
  | some (_, l) => unheld s p q l false && shaperOk s p q
  | none => false

/-- Time ticks until the last escalation of queue `q` lies ESC_INTERVAL back. -/
def escWait (s : State) (p q : Nat) : Nat :=
  match (outQ s p q).escAt with
  | some t => t + parN s (bP p) 0 Par.sdEscInterval * 625000 - s.ticks
  | none => 0

/-- ESCALATION: the dwell timer of an ungated queue reaches ESC_DWELL, with ESC_INTERVAL passed since the queue's last
grant, and its grant becomes pending. -/
def effEscalation (p q : Nat) (s : State) : State :=
  let o := outQ s p q
  if 8 ≤ q ∨ !portUp s p ∨ !rSched s ∨ (parN s (bP p) 0 Par.sdGatedMask).testBit q ∨ parN s (bP p) q Par.sdEscDwell = 0
      ∨ o.escDue ∨ !dwells s p q then s
  else
    let s := passTicks (escWait s p q) s
    let s := modOutQ p q (fun o => { o with escDue := true, escAt := some s.ticks }) s
    let s := count bSCHED 0x042 1 ⟨p, q, none, 0⟩ (modPort p (fun x => { x with escs := (x.escs + 1) % 2 ^ 32 }) s)
    raise bSCHED 5 (report bSCHED 0x08 ([w32 p, w32 q] ++ w64i (par s (bP p) q Par.sdEscDwell)) s)

end Sys2Proof.Machine
end

