-- ==== Sys2Proof/Machine/Forward.lean ====
section
/-! DEFINITION. The frame path from intake to enqueue (R228 to R236, R242 to R250, R258, R295): parse and lookup,
resolution, policing, claim, admission, cut-through, reserved crossings, and the end of a received frame. -/

namespace Sys2Proof.Machine

/-! ## Frames in the device -/

/-- A frame as its head is taken in; its inner marks follow Table SW-1, and its stamp is valid with the counter running
and the lane's latencies published (R35, R111). -/
def mkFrame (s : State) (p : Nat) (f : FrameHead) : Frame :=
  let x := parse f.bytes
  let seq := match f.start with
    | some i => if i.seqv then some i.rseq else none
    | none => x.rtag
  { inPort := p, bytes := if f.ended then f.bytes.take f.len else f.bytes, ended := false, bad := none, stomped := false,
    start := f.start, stamp := rxPin s p f.stamp, stampOk := rGuhRun s && portLatOk s p, cls := frameClass s p x f.start,
    colour := frameColour s p x f.start, channel := none, desc := none, seq := seq, vid := frameVid s p x,
    lossy := false, part := .none_, cells := 0, returned := 0, policed := 0, policer := none, copies := [],
    multi := false, limit := portMtu s p, express := none, waits := true, tagged := false, traced := false,
    harbour := s.clk.coreSource == 1, intake := s.cycle % 2 ^ 32, lkpCyc := none, enqCyc := none }

/-- The length of a frame where its end has been received with its head, else the 64 bytes of the parse window
(R295). -/
def headLen (f : FrameHead) : Nat := if f.ended then f.len else 64

/-- Puts a frame among those in the device; the port is receiving it. -/
def putFrame (p : Nat) (f : Frame) (s : State) : Nat × State :=
  let k := s.core.next
  (k, modCore (fun c => { c with frames := c.frames.set k f, next := k + 1, open_ := c.open_.set p k }) s)

/-- A frame dropped before its egress ports are known: one record with OUT_PORT 0x3F (R414). -/
def dropHead (k reason : Nat) (s : State) : State :=
  match frameOf s k with
  | none => s
  | some f =>
    settle k (modFrame k (fun f => { f with waits := false, traced := false }) (traceCopy f (droppedMarks 0x3F reason) s))

/-- A frame that goes no further without a record: consumed, or eliminated. -/
def letGo (k : Nat) (s : State) : State := settle k (modFrame k (fun f => { f with waits := false, traced := false }) s)

/-! ## Cut-through (R245, R283) -/

/-- The rates and settings let frame `f` be cut through to port `out`. -/
def mayCut (s : State) (f : Frame) (out : Nat) : Bool :=
  parN s (bP f.inPort) 0 Par.swCutThrough == 1 && !(f.desc.map (·.ctDeny)).getD false
    && decide (100 * frameRate (portMode s out) ≤ 105 * frameRate (portMode s f.inPort)) && f.bad.isNone

/-- The decision for the copy of frame `k` on port `out`: the copy is granted at once, or stored. -/
def decideCut (k : Nat) (s : State) (c : Nat × Nat) : State :=
  let out := c.1
  match frameOf s k with
  | none => s
  | some f =>
    let r := if mayCut s f out && (outQ s out f.cls).frames.length == 1 && rSched s then selectPort out (some k) s
      else (none, s)
    match r.1 with
    | some x =>
      if x.frame = k then
        count bCORE 0x011 1 (frameKey f out) (startTx out x true ((f.enqCyc.getD 0 + 4) % 2 ^ 32) r.2)
      else count bCORE 0x012 1 (frameKey f out) { s with free := r.2.free }
    | none => count bCORE 0x012 1 (frameKey f out) r.2

/-! ## Admission and enqueue (R254, R258) -/

/-- Offers the copies of an admitted frame, decides cut-through, and lets it go where no copy was taken. -/
def enqueueFrame (k : Nat) (outs : List Nat) (checked waited : Bool) (s : State) : State :=
  let s := modFrame k (fun f => { f with
    waits := true, multi := decide (1 < outs.length),
    enqCyc := some ((if waited then s.cycle + 8 else f.intake + 32) % 2 ^ 32) }) s
  let s := outs.foldl (fun s p => offerCopy k checked p s) s
  let s := match frameOf s k with
    | some f => f.copies.foldl (decideCut k) s
    | none => s
  settle k (modFrame k (fun f => { f with waits := false }) s)

/-- The cells a frame needs for what has been received of it. -/
def cellsNow (s : State) (k : Nat) : Nat := cellsOf (((frameOf s k).map (fun f => f.bytes.length)).getD 0)

/-- HEADROOM_DROP (R258). -/
def headroomDrop (k : Nat) (s : State) : State :=
  match frameOf s k with
  | none => s
  | some f =>
    let s := modCnt f.inPort (fun c => { c with headroom := (c.headroom + 1) % 2 ^ 32 }) s
    let s := capture f 0x3F 4 false (count bBUF 0x031 1 (frameKey f f.inPort) (raise bBUF 1 s))
    dropHead k 4 s

/-- A lossy frame: admitted from the reserved or the shared part, or dropped at ingress (R258); one beyond its credit
allocation returns no credit (R262). -/
def admitLossy (k : Nat) (outs : List Nat) (excess waited : Bool) (s : State) : State :=
  match frameOf s k with
  | none => s
  | some f =>
    match lossyPart s f.inPort f.cls with
    | some part => enqueueFrame k outs true waited (takeIn k part true (cellsNow s k) s)
    | none =>
      let s := modCnt f.inPort (fun c => { c with ingress := (c.ingress + 1) % 2 ^ 32 }) s
      let s := capture f 0x3F 3 false (count bBUF 0x031 1 (frameKey f f.inPort) s)
      dropHead k 3 (modFrame k (fun f => { f with lossy := excess }) s)

/-- Frames of the same account that wait for admission come first. -/
def accountWaits (s : State) (p c : Nat) : Bool :=
  s.buf.adm.any (fun w => (frameOf s w.frame).any (fun g => g.inPort == p && g.cls == c))

/-- Admission of frame `k` for its egress ports (R258). -/
def admitFrame (k : Nat) (outs : List Nat) (waited : Bool) (s : State) : State :=
  match frameOf s k with
  | none => s
  | some f =>
    let wait := fun (s : State) =>
      if 32 ≤ (s.buf.adm.filter (fun w => w.pipe == pipeOf f.inPort)).length then headroomDrop k s
      else modBuf (fun b => { b with adm := b.adm ++ [⟨pipeOf f.inPort, k, outs⟩] }) s
    if accountWaits s f.inPort f.cls then wait s
    else match admission s f.inPort f.cls with
    | .take part => enqueueFrame k outs false waited (takeIn k part false (cellsNow s k) s)
    | .wait => wait (setPause f.inPort f.cls true s)
    | .lossy false => admitLossy k outs false waited s
    | .lossy true =>
      let s := modCnt f.inPort (fun c => { c with excess := (c.excess + 1) % 2 ^ 32 }) s
      admitLossy k outs true waited (capture f 0x3F 7 false (raise bBUF 2 s))

/-! ## Policing stage (Table SW-1: policer, claim check, sequence generation) -/

/-- The claim check (R244). -/
def claimOk (s : State) (c : Chan) (p : Nat) : Bool :=
  if c.claimMode = 1 then sendClaimOk s c
  else if c.claimMode = 2 ∧ isTrunk s p then
    let w := (trunk s p).rx.heart
    w.testBit 24 && w / 2 ^ 16 % 256 == c.pairId && w / 2 ^ 44 % 2 ^ 16 == highestClaim s c.pairId
  else true

/-- Meters frame `k` of `n` bytes: its channel's policer, or the port-class policer of a frame of no channel (R20,
R295, R297).  Yields whether it goes on. -/
def policeFrame (k n : Nat) (s : State) : Bool × State :=
  match frameOf s k with
  | none => (false, s)
  | some f =>
    let now := f.stamp / 65536
    match f.channel.bind (fun ch => (chanOf s ch).map (fun c => (ch, c))) with
    | some (ch, c) =>
      if !c.policeEn then (true, s)
      else
        let r := (c.meter.refill now).meter n (if c.colourAware then f.colour else 0)
        let s := modChan ch (fun c => (c.setMeter r.2).addW (24 + r.1) (b2n (r.1 != 0))) s
        (r.1 != 2, modFrame k (fun f => { f with colour := r.1, policed := if r.1 = 2 then 0 else n }) s)
    | none =>
      let pc := parN s (bP f.inPort) f.cls Par.sdPcPolicer
      if 1024 ≤ pc then (true, s)
      else
        let x := policer s pc
        let r := (x.meter.refill now).meter n (if x.aware then f.colour else 0)
        let s := modPolicer pc (fun x =>
          let y := x.setMeter r.2
          { y with yellow := if r.1 = 1 then (y.yellow + 1) % 2 ^ 32 else y.yellow,
                   red := if r.1 = 2 then (y.red + 1) % 2 ^ 32 else y.red }) s
        (r.1 != 2, modFrame k (fun f => { f with
          colour := r.1, policed := if r.1 = 2 then 0 else n, policer := some pc }) s)

/-- The rest of a frame is charged at its end to the buckets its head debited (R295). -/
def chargeRest (k : Nat) (s : State) : State :=
  match frameOf s k with
  | none => s
  | some f =>
    let n := f.bytes.length - f.policed
    if f.policed = 0 ∨ n = 0 then s
    else match f.policer, f.channel with
    | some pc, _ => modPolicer pc (fun x => x.setMeter (x.meter.rest n f.colour)) s
    | none, some ch => modChan ch (fun c => c.setMeter (c.meter.rest n f.colour)) s
    | none, none => s

/-- The egress ports of a mask. -/
def portsOf (m : Nat) : List Nat := (List.range 64).filter (fun p => m.testBit p)

/-- Recovery at the Light List stage of a frame that came by a trunk (R76, R243): the timer is evaluated first. -/
def eliminate (k ch : Nat) (s : State) : Bool × State :=
  match frameOf s k, chanOf s ch with
  | some f, some c =>
    if !c.rcvyEn || !isTrunk s f.inPort then (true, s)
    else
      let c := if c.expired (rollNs s) then c.recoveryReset else c
      let r := recover (rollNs s) f.seq c
      (r.1, modChan ch (fun _ => r.2) s)
  | _, _ => (true, s)

/-- Sequence generation (R76, R238): the next GEN_SEQ, but for a channel whose launches take it (R292). -/
def generateSeq (k ch : Nat) (s : State) : State :=
  match chanOf s ch with
  | none => s
  | some c =>
    if !c.genEn || (c.launchEn && (c.onlyPort.map (isTrunk s)).getD false) then s
    else modChan ch (Chan.addF 14 31 16 1) (modFrame k (fun f => { f with seq := some (fld (c.w 14) 31 16) }) s)

/-- The policing stage of frame `k`, of a head of `n` bytes, whose egress by VLAN and forwarding database is `mask`. -/
def policeStage (k n mask : Nat) (waited : Bool) (s : State) : State :=
  match frameOf s k with
  | none => s
  | some f =>
    match f.channel with
    | none =>
      match policeFrame k n s with
      | (false, s) => dropHead k 12 s
      | (true, s) => admitFrame k (portsOf mask) waited s
    | some ch =>
      match eliminate k ch s with
      | (false, s) => letGo k s
      | (true, s) =>
        let s := modChan ch (Chan.addW 24 1) s
        let s := modFrame k (fun f => { f with cls := (match chanOf s ch with
          | some c => if c.clsFromDesc then c.cls else f.cls
          | none => f.cls) }) s
        match policeFrame k n s with
        | (false, s) => dropHead k 12 s
        | (true, s) =>
          match chanOf s ch with
          | none => letGo k s
          | some c =>
            if !claimOk s c f.inPort then dropHead k 11 (modChan ch (Chan.addW 27 1) s)
            else
              let s := modFrame k (fun f => { f with desc := some c }) (generateSeq k ch s)
              if c.launchEn then s
              else admitFrame k (portsOf (if c.egress = 0 then mask else c.egress)) waited s

/-! ## Light List resolution (R21, R236, R240, R242) -/

/-- A frame that resolves to a channel without a valid descriptor: no channel on an edge port, dropped on a trunk
(R236, R240). -/
def unknownChannel (k n mask : Nat) (waited : Bool) (s : State) : State :=
  match frameOf s k with
  | none => s
  | some f =>
    if isTrunk s f.inPort then
      dropHead k 13 (modFwd f.inPort (fun c => { c with unknown := (c.unknown + 1) % 2 ^ 32 }) s)
    else policeStage k n mask waited (modFrame k (fun f => { f with channel := none }) s)

/-- A class whose frames may not be dropped for want of room. -/
def losslessIn (s : State) (p c : Nat) : Bool := (losslessEdge s p c || credited s p c) && !demoted s c

/-- A frame dropped for want of its descriptor, with LKP fault `src` (R21, R242). -/
def missDrop (k src : Nat) (s : State) : State :=
  match frameOf s k with
  | none => s
  | some f =>
    dropHead k 14 (raise bLKP src (modFwd f.inPort (fun c => { c with missDrop := (c.missDrop + 1) % 2 ^ 32 }) s))

/-- Frame `k` of channel `ch` at the Light List stage; with STORE away nothing is known of a channel that is not cached,
and its frames are dropped (R21). -/
def resolve (k n mask ch : Nat) (s : State) : State :=
  match frameOf s k with
  | none => s
  | some f =>
    let key : CntKey := ⟨f.inPort, f.cls, some ch, 0⟩
    let behind := s.core.missQ.any (fun w => w.ch == ch)
    let cached := s.core.cache.contains ch && !behind
    if (chanOf s ch).isNone ∧ (rStore s || cached) then unknownChannel k n mask false s
    else if cached then
      let s := count bLKP 0x020 1 key (modCore (fun c => { c with hits := (c.hits + 1) % 2 ^ 32 }) s)
      policeStage k n mask false (cacheIn ch s)
    else
      let s := count bLKP 0x021 1 key (modCore (fun c => { c with misses := (c.misses + 1) % 2 ^ 32 }) s)
      if !rStore s then missDrop k 5 s
      else if 64 ≤ (s.core.missQ.filter (fun w => (frameOf s w.frame).any (fun g => pipeOf g.inPort == pipeOf f.inPort))).length
          ∧ !losslessIn s f.inPort f.cls then missDrop k 4 s
      else modCore (fun c => { c with missQ := c.missQ ++ [⟨k, ch, mask⟩] }) s

/-- The head length that frame `k` is policed by after a wait. -/
def waitedLen (s : State) (k : Nat) : Nat :=
  match frameOf s k with
  | some f => if f.ended then f.bytes.length else 64
  | none => 64

/-- DESCRIPTOR_FETCHED (R242): the frames that waited for channel `ch` go on in order; without STORE they are dropped
(R21). -/
def effDescriptorFetched (ch : Nat) (s : State) : State :=
  let ws := s.core.missQ.filter (fun w => w.ch == ch)
  if ws.isEmpty then s
  else
    let s := modCore (fun c => { c with missQ := c.missQ.filter (fun w => w.ch != ch) }) s
    if !rStore s then ws.foldl (fun s w => missDrop w.frame 5 s) s
    else
      let s := if (chanOf s ch).isSome then cacheIn ch s else s
      ws.foldl (fun s w =>
        if (chanOf s ch).isSome then policeStage w.frame (waitedLen s w.frame) w.mask true s
        else unknownChannel w.frame (waitedLen s w.frame) w.mask true s) s

/-! ## Intake (R228 to R236) -/

/-- The channel a head resolves to: TAG of a tagged trunk frame, else what stream identification gives. -/
def headChannel (s : State) (p : Nat) (f : FrameHead) : Option Nat :=
  let x := parse f.bytes
  match f.start with
  | some i => if i.tagv then some i.tag else identify s p f.bytes x (frameVid s p x)
  | none => identify s p f.bytes x (frameVid s p x)

/-- A head enters the pipeline of port `p` as frame `k`. -/
def intakeHead (p : Nat) (f : FrameHead) (s : State) : State :=
  let x := parse f.bytes
  let n := headLen f
  let r := putFrame p (mkFrame s p f) s
  let k := r.1
  let s := r.2
  if consumed s p f.bytes x then letGo k s
  else
    let ch := headChannel s p f
    let t := tagHead p ch s
    let s := modFrame k (fun g => { g with
      channel := ch, tagged := t.1, traced := t.1 && parN s bTRACE 0 Par.ctTraceEn == 1 }) t.2
    let cls := frameClass s p x f.start
    let s := count bCORE 0x010 1 ⟨p, cls, ch, 0⟩ s
    if linkLocal x.dst then dropHead k 13 (modFwd p (fun c => { c with linkLocal := (c.linkLocal + 1) % 2 ^ 32 }) s)
    else
      let s := modFrame k (fun g => { g with lkpCyc := some ((g.intake + 18) % 2 ^ 32) }) s
      match vlanOf s p (frameVid s p x) with
      | none => dropHead k 13 (modFwd p (fun c => { c with vlanDrop := (c.vlanDrop + 1) % 2 ^ 32 }) s)
      | some v =>
        let mask := clrBit (fdbMask s v x.dst &&& v.member) p
        let s := learn p v x.src cls s
        match ch with
        | some c => resolve k n mask c s
        | none => policeStage k n mask false s

/-! ## The end of a received frame (R83, R84, R246, R254, R292) -/

/-- The cause of a bad end, and whether the FCS is the stomped value; a frame longer than `lim` was ended at the byte
beyond, before any FCS (R84). -/
def judgeEnd (lim : Nat) (l : List Byte) (how : FrameEnd) : Option Nat × Bool :=
  match how with
  | .endedBad c => (some c, false)
  | .fcsBad st => if lim < l.length then (some 3, false) else (some 1, st)
  | .good =>
    let body := l.take (l.length - 4)
    let fcs := natLE (l.drop (l.length - 4))
    if l.length < 64 ∨ lim < l.length then (some 3, false)
    else if crc32fcs body = fcs then (none, false)
    else (some 1, crc32fcs body ^^^ 0xFFFFFFFF == fcs)

/-- RX counters of a port for a received frame. -/
def countRx (p : Nat) (f : Frame) (bad : Option Nat) (s : State) : State :=
  let key : CntKey := ⟨p, f.cls, f.channel, 0⟩
  let s := count (bP p) 0x002 f.bytes.length key (count (bP p) 0x001 1 key s)
  if bad.isNone then s
  else
    let s := count bCORE 0x014 1 key (count (bP p) 0x005 1 key s)
    let s := modFwd p (fun c => { c with
      badIn := (c.badIn + 1) % 2 ^ 32,
      stompedRx := if f.stomped ∧ isEdge s p then (c.stompedRx + 1) % 2 ^ 32 else c.stompedRx }) s
    if !isEdge s p then s
    else modEdge p (fun e => { e with
      errLen := if f.limit < f.bytes.length then (e.errLen + 1) % 2 ^ 32 else e.errLen,
      errFcs := if bad = some 1 then (e.errFcs + 1) % 2 ^ 32 else e.errFcs }) s

/-- Port `out` is sending frame `k`. -/
def sendsFrame (s : State) (out k : Nat) : Bool :=
  match (portSched s out).tx with
  | some (.queued j _ _ _ _) => j == k
  | some (.crossing j _) => j == k
  | _ => false

/-- A frame that ended bad: its waits end, and copies whose head has not left are discarded (R246). -/
def discardBad (k : Nat) (s : State) : State :=
  match frameOf s k with
  | none => s
  | some f =>
    let s := modCore (fun c => { c with missQ := c.missQ.filter (fun w => w.frame != k) }) s
    let s := modBuf (fun b => { b with adm := b.adm.filter (fun w => w.frame != k) }) s
    let gone := f.copies.filter (fun c => !sendsFrame s c.1 k)
    let s := gone.foldl (fun s c => removeCopy k c.1 s) s
    let s := if f.waits || !gone.isEmpty then traceCopy f (droppedMarks 0x3F 10) s else s
    modFrame k (fun f => { f with waits := false }) s

/-- The cells of the rest of a frame: none free in the shared part ends it bad (R258). -/
def takeRest (k : Nat) (s : State) : State :=
  match frameOf s k with
  | none => s
  | some f =>
    let n := cellsOf f.bytes.length - f.cells
    if f.part = .none_ ∨ n = 0 then s
    else if f.part = .shared ∧ poolFree s < n then
      let s := modCnt f.inPort (fun c => { c with nobuf := (c.nobuf + 1) % 2 ^ 32 }) s
      let s := capture f 0x3F 8 false (raise bBUF 5 s)
      modFrame k (fun f => { f with bad := some (f.bad.getD 3) }) s
    else chargeCells k n s

/-- What is kept of a received frame: an edge port ends a longer one at byte MAX_FRAME + 1 (R84). -/
def keptBytes (s : State) (p lim : Nat) (bytes : List Byte) : List Byte :=
  if isEdge s p then bytes.take (lim + 1) else bytes

/-- The frame received on port `p` ends. -/
def endIn (p : Nat) (bytes : List Byte) (how : FrameEnd) (s : State) : State :=
  match s.core.open_.find p with
  | none => s
  | some k =>
    let s := modCore (fun c => { c with open_ := c.open_.del p }) s
    match frameOf s k with
    | none => s
    | some f =>
      let s := countFec p how s
      let kept := keptBytes s p f.limit bytes
      let j := judgeEnd f.limit kept how
      let s := modFrame k (fun f => { f with bytes := kept, ended := true, bad := j.1, stomped := j.2 }) s
      let s := takeRest k (chargeRest k s)
      match frameOf s k with
      | none => s
      | some g =>
        let s := countRx p g g.bad s
        if g.bad.isSome then settle k (discardBad k s)
        else match f.waits, g.desc with
        | true, some c =>
          if c.launchEn then
            let out := (c.onlyPort).getD 0
            let marks : CopyMarks := { droppedMarks out 0 with dropped := false, slot := true }
            letGo k (traceCopy g marks (feedSlot c.launchSlot (edited s g out) (startSeq (copyStart g)) s))
          else settle k s
        | _, _ => settle k s

/-- The frame being received on port `p`, if any, ends bad with a cause. -/
def endOpen (p cause : Nat) (s : State) : State :=
  match (s.core.open_.find p).bind (frameOf s) with
  | some f => endIn p f.bytes (.endedBad cause) s
  | none => s

/-- FRAME_END_RECEIVED: on a trunk it takes the oldest frame that the received words ended. -/
def effFrameEndReceived (p : Nat) (bytes : List Byte) (how : FrameEnd) (s : State) : State :=
  let s := if isTrunk s p then modTrunk p (fun t => { t with rx := { t.rx with ended := t.rx.ended.drop 1 } }) s else s
  endIn p bytes how s

/-- FRAME_HEAD_INTAKE: a frame still open on the port has ended bad. -/
def effFrameHeadIntake (p : Nat) (f : FrameHead) (s : State) : State :=
  if !portUp s p || !rCore s then s else intakeHead p f (endOpen p 3 s)

/-! ## Waiting for admission (R258) -/

/-- The first frame of pipeline `k` that waits for admission. -/
def firstWait (s : State) (k : Nat) : Option AdmWait := s.buf.adm.find? (fun w => w.pipe == k)

/-- ADMISSION_WAIT_TIMEOUT: the frame that has waited longest finds no cell within 2 µs. -/
def effAdmissionWaitTimeout (k : Nat) (s : State) : State :=
  match firstWait s k with
  | none => s
  | some w => headroomDrop w.frame (modBuf (fun b => { b with adm := b.adm.erase w }) s)

/-- Whether the account of a waiting frame has room now. -/
def canAdmit (s : State) (w : AdmWait) : Bool :=
  match frameOf s w.frame with
  | some f => (match admission s f.inPort f.cls with | .wait => false | _ => true)
  | none => true

/-- ADMISSION_CELL_FREE: the first waiting frame of pipeline `k` whose account has a cell is admitted; frames of other
accounts pass those that wait, frames of one account keep their order. -/
def effAdmissionCellFree (k : Nat) (s : State) : State :=
  match s.buf.adm.find? (fun w => w.pipe == k && canAdmit s w) with
  | none => s
  | some w =>
    let rest := s.buf.adm.erase w
    let s := modBuf (fun b => { b with adm := [] }) s
    let s := admitFrame w.frame w.outs true s
    modBuf (fun b => { b with adm := rest ++ b.adm }) s

/-! ## Reserved crossings (R248 to R250) -/

/-- The time in ps to send `l` bytes with framing on a mode: preamble and start delimiter, or START and END. -/
def framedPs (m l : Nat) : Nat := if m = 6 ∨ m = 7 then rawPs m (8 * (l / 8 + 2)) else rawPs m (l + 8)

/-- 18 core cycles in ps at the nominal core period, or on the harbour clock (R22, R249). -/
def crossPs (s : State) : Nat := if s.clk.coreSource = 1 then 18000 else 14400

/-- The remaining time of the express entry of port `out` suffices for a booking (R249). -/
def windowLeft (s : State) (out maxlen : Nat) : Bool :=
  match (portSched s out).next with
  | some v => decide ((crossPs s + framedPs (portMode s out) maxlen : Nat) * 65536 ≤ (v - (units s : Int)) * 1000)
  | none => false

/-- The booking of a START on port `p`. -/
def bookingOf (s : State) (p tag : Nat) : Option Booking :=
  (s.core.bookings.find? (fun e => e.2.inPort == p && e.2.channel == tag)).map (·.2)

/-- The conditions of R249 but for the transmitter. -/
def crossingOk (s : State) (p : Nat) (i : StartInfo) : Option Booking :=
  match bookingOf s p i.tag with
  | none => none
  | some b =>
    if i.tagv && i.express && portUp s b.outPort && expressOpen s b.outPort && (portSched s b.outPort).entry == b.entry
        && windowLeft s b.outPort b.maxlen && creditOk s b.outPort i.cls b.maxlen && (chanOf s b.channel).isSome then some b
    else none

/-- Frame `f` crosses under booking `b`: no lookup, policing or enqueue. -/
def cross (p : Nat) (f : FrameHead) (b : Booking) (s : State) : State :=
  let t := tagHead p (some b.channel) s
  let s := t.2
  let g := { mkFrame s p f with
    channel := some b.channel, tagged := t.1, traced := t.1 && parN s bTRACE 0 Par.ctTraceEn == 1,
    express := some b.maxlen, waits := false, copies := [(b.outPort, 0)] }
  let r := putFrame p g s
  match eliminate r.1 b.channel r.2 with
  | (false, s) => letGo r.1 (modFrame r.1 (fun g => { g with copies := [] }) s)
  | (true, s) =>
    let s := modFrame r.1 (fun g => { g with desc := chanOf s b.channel }) (modChan b.channel (Chan.addW 24 1) s)
    let s := modFwd p (fun c => { c with express := (c.express + 1) % 2 ^ 32 }) s
    let key : CntKey := ⟨p, g.cls, some b.channel, 0⟩
    let s := count bCORE 0x013 1 key (count bCORE 0x010 1 key s)
    modPort b.outPort (fun x => { x with tx := some (.crossing r.1 (portMtu s b.outPort)) })
      (emit (.crossing b.outPort (f.bytes.take 64)) (shapePort b.outPort s))

/-- RESERVED_CROSSING (R249). -/
def effReservedCrossing (p : Nat) (f : FrameHead) (s : State) : State :=
  if !portUp s p || !isTrunk s p || !rCore s then s
  else
    let s := endOpen p 3 s
    match f.start with
    | none => intakeHead p f s
    | some i =>
      let late := fun (s : State) => modFwd p (fun c => { c with late := (c.late + b2n i.express) % 2 ^ 32 }) s
      match crossingOk s p i with
      | some b =>
        if (portSched s b.outPort).tx.isSome then intakeHead p f (raise bCORE 2 (late s))
        else cross p f b s
      | none => intakeHead p f (late s)

/-! ## RECOVERY_RESET and FDB_AGE -/

/-- RECOVERY_RESET (R76): the sweep finds the reset timer of a recovering channel expired. -/
def effRecoveryReset (ch : Nat) (s : State) : State :=
  match chanOf s ch with
  | some c => if c.rcvyEn ∧ !c.idle ∧ !c.takeAny then modChan ch Chan.recoveryReset s else s
  | none => s

/-- FDB_AGE (R233): a learned entry that nothing has refreshed is removed once its age is AGE_TIME; time has then passed
up to that instant. -/
def effFdbAge (fid mac : Nat) (s : State) : State :=
  let limit := secTicks (parN s bLKP 0 Par.lkAgeTime)
  match fdbFind s fid mac with
  | none => s
  | some e =>
    if limit = 0 ∨ e.static_ then s
    else modCore (fun k => { k with fdb := k.fdb.filter (fun x => x.static_ || x.fid != fid || x.mac != mac) })
      (passTicks (e.age + limit - s.ticks) s)

end Sys2Proof.Machine
end

