-- ==== Sys2Proof/Machine/BufOps.lean ====
section
/-! DEFINITION. The buffer's own rows: the deadlock watchdog (R264 to R266), a port that goes down (R268, R269), the
scrub (R256), and FLUSH_READ. -/

namespace Sys2Proof.Machine

/-! ## The watchdog (R264 to R266) -/

/-- A class is lossless on port `p`: lossless-edge or credited. -/
def losslessOn (s : State) (p c : Nat) : Bool := losslessEdge s p c || credited s p c

/-- Queue `q` of port `p` is blocked by back-pressure (R264). -/
def blocked (s : State) (p q : Nat) : Bool :=
  match (outQ s p q).frames with
  | [] => false
  | (k, _) :: _ =>
    let n := match frameOf s k with
      | some f => if f.ended then f.bytes.length else portMtu s p
      | none => 0
    pausedBy s p q || (isTrunk s p && decide ((trunk s p).balance.get 0 q < (cellsOf n : Int)))

/-- The watchdog timer of queue `q` runs: it holds its value while the gate is closed. -/
def wdRunning (s : State) (p q : Nat) : Bool :=
  losslessOn s p q && blocked s p q && (gatesNow s p).testBit q && !sends s p q

/-- WD_DEMOTE (R264, R265, R93): class `q` is demoted throughout the device, and its pauses are released. -/
def effWdDemote (p q : Nat) (s : State) : State :=
  if 8 ≤ q ∨ !rBuf s ∨ parN s bBUF 0 Par.bfWdEn = 0 ∨ demoted s q ∨ !wdRunning s p q then s
  else
    let s := modBuf (fun b => { b with demoted := setBit b.demoted q }) s
    let s := (List.range 64).foldl (fun s p => setPause p q false s) s
    raise bBUF 0 (report bBUF 0x02 [w32 q, w32 p, w32 q] s)

/-- CLASS_RESTORED (R266): every lossless-edge account of the class lies below its release level. -/
def effClassRestored (c : Nat) (s : State) : State :=
  if !demoted s c ∨ !(List.range 64).all (fun p => !losslessEdge s p c || pauseReleased s p c) then s
  else report bBUF 0x03 [w32 c] (modBuf (fun b => { b with demoted := clrBit b.demoted c }) s)

/-! ## A port that goes down (R268, R269) -/

/-- A frame in queue `q` of a port that is down is removed, counted and recorded. -/
def flushCopy (p : Nat) (s : State) (e : Nat × Nat) : State :=
  match frameOf s e.1 with
  | none => s
  | some f =>
    let s := capture f p 6 false (countFlush f p s)
    settle e.1 (traceCopy f (droppedMarks p 6) (removeCopy e.1 p s))

/-- Frames and cells in the queues of a port. -/
def queued (s : State) (p : Nat) : Nat × Nat :=
  (List.range 8).foldl (fun a q => (a.1 + (outQ s p q).frames.length, a.2 + (outQ s p q).depth)) (0, 0)

/-- The charge of every cell on the ingress accounts of port `p` moves to the orphan count. -/
def orphanPort (p : Nat) (s : State) : State :=
  let n := (List.range 8).foldl (fun a c => a + (inAcct s p c).use) 0
  let s := modCore (fun k => { k with frames := k.frames.map (fun e =>
    if e.2.inPort = p ∧ e.2.part ≠ .none_ then (e.1, { e.2 with part := .orphan }) else e) }) s
  modBuf (fun b => { b with orphans := b.orphans + n, ins := b.ins.filter (fun e => e.1 / 8 ≠ p) }) s

/-- A port has entered DOWN, and its flush is still to be done. -/
def flushDue (s : State) (p : Nat) : Bool :=
  if isTrunk s p then !(trunk s p).flushed else !(edge s p).flushed

/-- PORT_FLUSH (R268, R294): queues emptied, ingress cells orphaned, pause states and resident frames cleared. -/
def effPortFlush (p : Nat) (s : State) : State :=
  if !flushDue s p || (s.buf.flushing.find p).isSome then s
  else
    let s := endOpen p 2 s
    let n := queued s p
    let s := match (portSched s p).tx with
      | some (.crossing k _) => settle k (modFrame k (fun f => { f with copies := [] }) s)
      | _ => s
    let s := modPort p (fun x => { x with tx := none }) s
    let s := (List.range 8).foldl (fun s q => (outQ s p q).frames.foldl (flushCopy p) s) s
    let s := orphanPort p s
    let s := modBuf (fun b => { b with asserted := b.asserted.filter (fun e => e.1 / 8 ≠ p) }) s
    let s := modEdge p (fun e => { e with due := 0, asserted := 0 }) s
    let s := slotsDown p s
    modBuf (fun b => { b with flushing := b.flushing.set p n }) s

/-- FLUSH_DONE (R269): no copy for the port remains in the pipelines. -/
def effFlushDone (p : Nat) (s : State) : State :=
  match s.buf.flushing.find p with
  | none => s
  | some n =>
    if (queued s p).1 ≠ 0 ∨ s.buf.adm.any (fun w => w.outs.contains p) then s
    else
      let s := modBuf (fun b => { b with flushing := b.flushing.del p }) s
      let s := if isTrunk s p then reachUp p (modTrunk p (fun t => { t with flushed := true }) s)
        else modEdge p (fun e => { e with flushed := true }) s
      report bBUF 0x04 [w32 p, w32 n.1, w32 n.2] s

/-- Flush counters of channels from `c` on, two to a word, the lower channel in bits 31:16. -/
def flushWords (s : State) : Nat → Nat → List Word
  | 0, _ => []
  | 1, c => [w32 (s.core.flushes.get 0 c * 2 ^ 16)]
  | n + 2, c => w32 (s.core.flushes.get 0 c * 2 ^ 16 + s.core.flushes.get 0 (c + 1)) :: flushWords s n (c + 2)

/-- FLUSH_READ (R268, R317): the number of channels returned, then their counters. -/
def bodyFlushRead (h : CmdHdr) (first n : Nat) (s : State) : Resp :=
  let size := parN s bLKP 0 Par.lkLlSize
  if n < 1 ∨ 1024 < n ∨ size < first + n then refuse stOutOfRange s
  else if !rBuf s then refuse stNotReady s
  else
    let m := min n (2 * roomFor h 1)
    okWith (w32 m :: flushWords s m first) s

/-! ## The scrub (R256, R391) -/

/-- Corrected words of a unit in the day they fall in (R403): the day number above 2^20, the count below it. -/
def countEcc (b unit n : Nat) (s : State) : State :=
  let key := b * 65536 + unit
  let day := s.ticks / 54000000000000
  let old := s.hlth.eccDay.get 0 key
  let was := if old / 2 ^ 20 = day then old % 2 ^ 20 else 0
  let now := min (was + n) (2 ^ 20 - 1)
  let s := { s with hlth := { s.hlth with eccDay := s.hlth.eccDay.set key (day * 2 ^ 20 + now) } }
  if parN s bHLTH 0 Par.hlEccRetire < now ∧ !s.hlth.rotFirst.contains key then
    { s with hlth := { s.hlth with rotFirst := s.hlth.rotFirst ++ [key] } }
  else s

/-- A scrub that cannot run is skipped and counted. -/
def skipScrub (s : State) : State :=
  modBuf (fun b => { b with skipped := (b.skipped + 1) % 2 ^ 32, scrubWait := false }) s

/-- BANK_SCRUB (R256): with its grant the scrub of `bank` runs and corrects words; otherwise a scrub falls due: one
still waiting is skipped, and the new one asks for its grant. -/
def effBankScrub (bank corrected : Nat) (s : State) : State :=
  if !rBuf s then s
  else if govGranted s .bankScrub then
    let s := if corrected = 0 then s else countEcc bBUF bank corrected (raise bBUF 3 s)
    govEnd .bankScrub (report bBUF 0x08 [w32 bank, w32 corrected] s)
  else
    let s := if govWaiting s .bankScrub then skipScrub (govCancel .bankScrub s) else s
    match govRequest .bankScrub s with
    | (.queued, s) => modBuf (fun b => { b with scrubWait := true }) s
    | (_, s) => skipScrub s

end Sys2Proof.Machine
end

