-- ==== Sys2Proof/Machine/Tables.lean ====
section
/-! DEFINITION. The commands of the lookup tables, the Light List and the reserved crossings (R233 to R241, R248, R95,
Tables SW-2, SW-3 and SW-5). -/

namespace Sys2Proof.Machine

/-! ## Table entries (R235, R237, R346): key fields, then result fields -/

/-- The words of an entry. -/
def entryWords (shape : List Bool) (e : List Nat) : List Word :=
  (shape.zip e).flatMap (fun x => if x.1 then w64 (x.2 >>> 64) ++ w64 x.2 else w64 x.2)

/-- Field `i` of an entry. -/
def ef (e : List Nat) (i : Nat) : Nat := e.getD i 0

/-- The method, key bytes and units of a stream identification entry (Table SW-3, R235). -/
def streamKey (s : State) (e : List Nat) : List Byte :=
  if ef e 0 ≤ 1 then bytesBE 6 (ef e 2) ++ bytesBE 2 (ef e 3)
  else ipKeyBytes (ef e 2) (streamMask s (ef e 2)) (if ef e 0 = 2 then 4 else 16) (ef e 3) (ef e 4) (ef e 5) (ef e 6)
    (ef e 7) (ef e 8) (ef e 9) (ef e 10)

/-- The channel of a stream entry. -/
def streamChan (e : List Nat) : Nat := if ef e 0 ≤ 1 then ef e 4 else ef e 11

/-- Every field of an entry lies in its range (R11). -/
def entryInRange (s : State) (table : Nat) (e : List Nat) : Bool :=
  let size := parN s bLKP 0 Par.lkLlSize
  match table with
  | 0 => ef e 0 < 4096 && ef e 3 < 4096 && ef e 4 ≤ 1 && ef e 5 ≤ 1
  | 1 => ef e 0 < 4096 && ef e 1 < 2 ^ 48 && (if groupMac (ef e 1) then ef e 2 < 1024 else ef e 2 < 64) && ef e 3 ≤ 1
  | 2 =>
    ef e 0 ≤ 3 && ef e 1 ≤ 64 && streamChan e < size &&
      (if ef e 0 ≤ 1 then ef e 2 < 2 ^ 48 && ef e 3 < 4096
       else ef e 2 < 8 && ef e 3 < 2 ^ 48 && ef e 4 < 4096 && (ef e 0 == 3 || (ef e 5 < 2 ^ 32 && ef e 6 < 2 ^ 32))
         && ef e 5 < 2 ^ 128 && ef e 6 < 2 ^ 128 && ef e 7 < 64 && ef e 8 < 256 && ef e 9 < 65536 && ef e 10 < 65536)
  | 3 => ef e 0 < 1024
  | _ => false

/-- Units of a set in use by stream entries, as a mask. -/
def unitsUsed (s : State) (set : Nat) : Nat :=
  s.core.streams.foldl (fun a x => if x.set = set then a ||| x.units else a) 0

/-- The places that an entry of a method may take in a set (R235). -/
def unitPlaces (method : Nat) : List Nat :=
  if method ≤ 1 then [1, 2, 4, 8] else if method = 2 then [3, 12] else [15]

/-- Writes one entry, atomically; none where its set is full. -/
def writeEntry (table : Nat) (e : List Nat) (s : State) : Option State :=
  match table with
  | 0 =>
    let v : VlanEntry := ⟨ef e 1 % 2 ^ 64, ef e 2 % 2 ^ 64, ef e 3, ef e 4 == 1⟩
    let f := fun (t : Tab VlanEntry) => if ef e 5 = 0 then t.del (ef e 0) else t.set (ef e 0) v
    some (modCore (fun k => { k with vlan := f k.vlan }) s)
  | 1 =>
    let x : FdbEntry :=
      { fid := ef e 0, mac := ef e 1, group := groupMac (ef e 1), target := ef e 2, static_ := ef e 3 == 1,
        age := s.ticks - secTicks (ef e 4) }
    let set := fdbSet x.fid x.mac
    if (fdbFind s x.fid x.mac).isSome then
      some (modCore (fun k => { k with fdb := k.fdb.map (fun y => if y.fid = x.fid ∧ y.mac = x.mac then x else y) }) s)
    else if 8 ≤ (s.core.fdb.filter (fun y => fdbSet y.fid y.mac == set)).length then none
    else some (modCore (fun k => { k with fdb := k.fdb ++ [x] }) s)
  | 2 =>
    let key := streamKey s e
    let m := ef e 0
    let prof := if m ≤ 1 then 0 else ef e 2
    let same := fun (x : StreamEntry) => x.method == m && x.inPort == ef e 1 && x.profile == prof && x.key == key
    if s.core.streams.any same then
      let f := fun (x : StreamEntry) => if same x then { x with channel := streamChan e } else x
      some (modCore (fun k => { k with streams := k.streams.map f }) s)
    else
      let set := streamSet m key
      match (unitPlaces m).find? (fun u => unitsUsed s set &&& u == 0) with
      | none => none
      | some u =>
        let x : StreamEntry :=
          { method := m, inPort := ef e 1, profile := prof, key := key, set := set, units := u, channel := streamChan e }
        some (modCore (fun k => { k with streams := k.streams ++ [x] }) s)
  | 3 => some (modCore (fun k => { k with groups := k.groups.set (ef e 0) (ef e 1 % 2 ^ 64) }) s)
  | _ => some s

/-- Writes entries from index `i` on: the state, or the status and index of the first one refused. -/
def writeEntries (table : Nat) : Nat → List (List Nat) → State → (Nat × Nat) ⊕ State
  | _, [], s => .inr s
  | i, e :: r, s =>
    if !entryInRange s table e then .inl (stOutOfRange, i)
    else match writeEntry table e s with
    | none => .inl (stNoResource, i)
    | some s => writeEntries table (i + 1) r s

/-- TABLE_WRITE (R237): an entry refused is named, and nothing is written. -/
def bodyTableWrite (table : Nat) (es : List (List Nat)) (s : State) : Resp :=
  if !rLkp s then refuse stNotReady s
  else if 3 < table then refuse stOutOfRange s
  else match writeEntries table 0 es s with
  | .inl (st, i) => refuseAt st i s
  | .inr s => ok s

/-- TABLE_LOAD (R237, R18): the entries wait for the governor's grant. -/
def bodyTableLoad (h : CmdHdr) (table : Nat) (es : List (List Nat)) (s : State) : Resp :=
  if !rLkp s then refuse stNotReady s
  else if 3 < table then refuse stOutOfRange s
  else if !s.core.loads.isEmpty then refuse stBusy s
  else match writeEntries table 0 es s with
  | .inl (st, i) => refuseAt st i s
  | .inr _ =>
    match govRequest .tableLoad s with
    | (.tooLarge, s) => refuse stNoResource s
    | (.full, s) => refuse stBusy s
    | (.queued, s) =>
      accepted 0x0503 0 h (modCore (fun k => { k with loads := [⟨h, table, es, 0, false⟩] }) s)

/-- One entry of a load; one that no longer finds room is not written. -/
def loadEntry (table : Nat) (n : Nat × State) (e : List Nat) : Nat × State :=
  match writeEntry table e n.2 with
  | some s => (n.1 + 1, s)
  | none => n

/-- A step of a load that has its grant: the next entry, or with `last` all that remain; TABLE_LOAD_DONE. -/
def loadStep (last : Bool) (s : State) : State :=
  match s.core.loads with
  | [] => s
  | l :: r =>
    if !l.granted then s
    else
      let now := if last then l.entries else l.entries.take 1
      let w := now.foldl (loadEntry l.table) (l.written, s)
      let rest := l.entries.drop now.length
      if last || rest.isEmpty then
        completeWith 0x0503 0 bLKP 0x02 [w32 l.table, w32 w.1] stOk
          (govEnd .tableLoad (modCore (fun k => { k with loads := r }) w.2))
      else modCore (fun k => { k with loads := { l with entries := rest, written := w.1 } :: r }) w.2

/-- A stream entry as TABLE_READ returns it: an IP key's wildcarded fields read as zeros. -/
def streamFields (x : StreamEntry) : List Nat :=
  if x.method ≤ 1 then [x.method, x.inPort, beAt x.key 0 6, beAt x.key 6 2, x.channel]
  else
    let w := if x.method = 2 then 4 else 16
    [x.method, x.inPort, x.profile, beAt x.key 1 6, beAt x.key 7 2, beAt x.key 9 w, beAt x.key (9 + w) w,
     beAt x.key (9 + 2 * w) 1, beAt x.key (10 + 2 * w) 1, beAt x.key (11 + 2 * w) 2, beAt x.key (13 + 2 * w) 2,
     x.channel]

/-- A forwarding database entry as TABLE_READ returns it. -/
def fdbFields (s : State) (x : FdbEntry) : List Nat :=
  [x.fid, x.mac, x.target, b2n x.static_, if x.static_ then 0 else (s.ticks - x.age) / 625000000]

/-- A VLAN entry as TABLE_READ returns it. -/
def vlanFields (s : State) (v : Nat) : List Nat :=
  match s.core.vlan.find v with
  | none => [v, 0, 0, 0, 0, 0]
  | some x => [v, x.member, x.untag, x.fid, b2n x.learn, 1]

/-- TABLE_READ (R237): COUNT entries from the one named on; the hashed tables are read in the order in which their
entries were made. -/
def bodyTableRead (h : CmdHdr) (table : Nat) (key : List Nat) (n : Nat) (s : State) : Resp :=
  let room := roomFor h 2
  let send := fun (l : List (List Word)) => okWith ((l.flatten).take room) s
  if !rLkp s then refuse stNotReady s
  else if 3 < table then refuse stOutOfRange s
  else if table = 0 then
    if 4096 ≤ ef key 0 then refuse stOutOfRange s
    else send (((List.range 4096).drop (ef key 0)).take n |>.map (fun v => entryWords (entryShape 0 0) (vlanFields s v)))
  else if table = 1 then
    let l := s.core.fdb.dropWhile (fun x => x.fid != ef key 0 || x.mac != ef key 1)
    send ((l.take n).map (fun x => entryWords (entryShape 1 0) (fdbFields s x)))
  else if table = 2 then
    let kb := streamKey s key
    let l := s.core.streams.dropWhile (fun x => x.method != ef key 0 || x.inPort != ef key 1 || x.key != kb)
    send ((l.take n).map (fun x => entryWords (entryShape 2 x.method) (streamFields x)))
  else
    if 1024 ≤ ef key 0 then refuse stOutOfRange s
    else send (((List.range 1024).drop (ef key 0)).take n |>.map
      (fun g => entryWords (entryShape 3 0) [g, s.core.groups.get 0 g]))

/-! ## Channels (R239 to R241, Table SW-5) -/

/-- The configuration bits of word `i` of a descriptor (Table SW-4); the others are state or reserved. -/
def confMask (i : Nat) : Nat :=
  match i with
  | 0 => 0x3FFFFFC0
  | 1 => 0xFFFFFFFF
  | 2 => 0xFFFFFFFF
  | 3 => 0xFFFF8000
  | 4 => 0xFFFFFFFF
  | 5 => 0xFFFFFFFF
  | 6 => 0x00FFFFFF
  | 7 => 0x00FFFFFF
  | 11 => 0xFFFC0000
  | 12 => 0xFFFFFFFF
  | 13 => 0xFFF400FF
  | _ => 0

/-- A descriptor with no word set. -/
def Chan.blank : Chan := { words := List.replicate 32 0, tcFrac := 0, tpFrac := 0, idle := true }

/-- The configuration of `d` over the state of `c`; HR_LIMIT and RCVY_RESET given as 0 take 4 and 100. -/
def Chan.withConf (d : List Word) (c : Chan) : Chan :=
  let c := { c with words := (List.range 32).map (fun i =>
    w32 (clrMask 32 (c.w i) (confMask i) ||| ((d.getD i 0).toNat &&& confMask i))) }
  let c := if c.hrLimit = 0 then c.setF 11 21 18 4 else c
  if c.rcvyReset = 0 then c.setF 13 31 20 100 else c

/-- State fields of `c` initialised by the groups of a RESET_STATE mask: 0 policer, 1 802.1CB, 2 hold-repeat,
3 counters (Table SW-4). -/
def Chan.resetState (now mask : Nat) (c : Chan) : Chan :=
  let c := if mask.testBit 0 then
      { ((c.setW 8 c.cbs).setW 9 c.pbs).setW 10 now with tcFrac := 0, tpFrac := 0 } else c
  let c := if mask.testBit 1 then (((c.setF 13 19 19 1).setW 14 0).setW 15 0).setHist 0 else c
  let c := if mask.testBit 2 then c.setF 11 17 14 0 else c
  if mask.testBit 3 then (List.range 8).foldl (fun c i => c.setW (24 + i) 0) c else c

/-- The field checks of CHANNEL_ADD and CHANNEL_MODIFY. -/
def confOk (s : State) (c : Chan) : Bool :=
  decide (c.cir ≤ c.pir) && decide (c.rcvyReset ≤ 2000) && c.vlanOp != 3 && c.claimMode != 3 && chanSlotOk s c

/-- The pin limit holds with channel `ch` described by `c` (R240). -/
def pinFits (s : State) (ch : Nat) (c : Chan) : Bool :=
  let others := (s.core.chans.filter (fun e => e.1 ≠ ch && e.2.valid && mustPin s e.1 e.2)).length
  decide (others + b2n (mustPin s ch c) ≤ 2048)

/-- A channel number of the Light List (R240). -/
def chanInList (s : State) (ch : Nat) : Bool := ch < parN s bLKP 0 Par.lkLlSize

/-- A descriptor takes effect: held, cached, pinned as R239 says; launches that depend on it are found anew. -/
def putChan (ch : Nat) (c : Chan) (s : State) : State :=
  let s := modCore (fun k => { k with chans := k.chans.set ch c }) s
  armLaunch 3 (armLaunch 2 (armLaunch 1 (armLaunch 0 (cacheIn ch (updatePin ch s)))))

/-- CHANNEL_ADD (Table SW-5). -/
def bodyChannelAdd (ch : Nat) (d : List Word) (s : State) : Resp :=
  let c := ((Chan.blank.withConf d).resetState (rollNs s) 15).setF 0 31 31 1
  if !rLkp s || !rStore s then refuse stNotReady s
  else if !chanInList s ch then refuse stOutOfRange s
  else if (chanOf s ch).isSome then refuse stBusy s
  else if !confOk s c then refuse stOutOfRange s
  else if !pinFits s ch c then refuse stNoResource s
  else ok (putChan ch c s)

/-- The pin limit with every staged modification applied (R241). -/
def stagedPinsFit (s : State) (mods : Tab (Nat × List Word)) : Bool :=
  let after := fun (ch : Nat) (c : Chan) =>
    match mods.find ch with
    | some m => c.withConf m.2
    | none => c
  decide ((s.core.chans.filter (fun e => e.2.valid && mustPin s e.1 (after e.1 e.2))).length ≤ 2048)

/-- CHANNEL_MODIFY (Table SW-5, R241, R340). -/
def bodyChannelModify (ch : Nat) (stage : Bool) (mask : Nat) (d : List Word) (s : State) : Resp :=
  if !rLkp s || !rStore s then refuse stNotReady s
  else if !chanInList s ch then refuse stOutOfRange s
  else match chanOf s ch with
  | none => refuse stNotReady s
  | some c0 =>
    let c := (c0.withConf d).resetState (rollNs s) mask
    if !confOk s c then refuse stOutOfRange s
    else if stage then
      let mods := s.core.stagedMods.set ch (mask, d)
      if commitNames s bLKP then refuse stBusy s
      else if 256 < mods.length ∨ !stagedPinsFit s mods then refuse stNoResource s
      else ok (modCore (fun k => { k with stagedMods := mods }) s)
    else if !pinFits s ch c then refuse stNoResource s
    else ok (putChan ch c s)

/-- The pin check that a COMMIT of LKP makes (R241). -/
def checkMods (s : State) : Option Nat := if stagedPinsFit s s.core.stagedMods then none else some stNoResource

/-- A COMMIT or start of LKP applies every staged modification of a channel that is still valid (R241). -/
def applyMods (s : State) : State :=
  let mods := s.core.stagedMods
  mods.foldl (fun s e =>
    match chanOf s e.1 with
    | none => s
    | some c => putChan e.1 ((c.withConf e.2.2).resetState (rollNs s) e.2.1) s) (modCore (fun k => { k with stagedMods := [] }) s)

/-- CHANNEL_PIN (Table SW-5): clearing PIN_REQ leaves a scheduled channel pinned. -/
def bodyChannelPin (ch : Nat) (pin : Bool) (s : State) : Resp :=
  if !rLkp s || !rStore s then refuse stNotReady s
  else if !chanInList s ch then refuse stOutOfRange s
  else match chanOf s ch with
  | none => refuse stNotReady s
  | some c0 =>
    let c := c0.setF 0 29 29 (b2n pin)
    if pin ∧ !pinFits s ch c then refuse stNoResource s
    else
      let s := updatePin ch (modCore (fun k => { k with chans := k.chans.set ch c }) s)
      ok (if pin then cacheIn ch s else s)

/-- CHANNEL_REMOVE (Table SW-5). -/
def bodyChannelRemove (ch : Nat) (s : State) : Resp :=
  if !rLkp s then refuse stNotReady s
  else if !chanInList s ch then refuse stOutOfRange s
  else if s.core.streams.any (fun e => e.channel == ch) || booked s ch then refuse stBusy s
  else
    let s := modChan ch (fun c => ((c.setF 0 31 30 0).toStore)) s
    let s := modCore (fun k => { k with cache := k.cache.erase ch, stagedMods := k.stagedMods.del ch }) s
    ok (armLaunch 3 (armLaunch 2 (armLaunch 1 (armLaunch 0 s))))

/-- Words that the spec leaves open, one draw each. -/
def drawWords : Nat → State → List Word × State
  | 0, s => ([], s)
  | n + 1, s =>
    let (v, s) := drawNat s
    let (r, s) := drawWords n s
    (w32 v :: r, s)

/-- CHANNEL_READ (Table SW-5): a channel never added has VALID = 0 and what Store holds. -/
def bodyChannelRead (ch : Nat) (s : State) : Resp :=
  if !rLkp s then refuse stNotReady s
  else if !chanInList s ch then refuse stOutOfRange s
  else if !s.core.cache.contains ch && !rStore s then refuse stNotReady s
  else match s.core.chans.find ch with
  | some c => okWith c.words s
  | none =>
    let (l, s) := drawWords 32 s
    okWith ((Chan.setF 0 31 30 0 { words := l, tcFrac := 0, tpFrac := 0, idle := true }).words) s

/-! ## Reserved crossings (R248, R95) -/

/-- The time in ps that entry `i` of a list stays open, as far as it is known: an angle entry's at the present speed of
its shaft. -/
def entryPs (s : State) (g : Gcl) (i : Nat) : Option Nat :=
  let len := eLength (g.entry i)
  if g.ref = 0 then some (len * 1000 / 65536)
  else match shaftAt s g.shaft (units s) with
  | some (_, sp) => if sp = 0 then none else some (len * 10 ^ 12 / sp.natAbs)
  | none => none

/-- The entry named is an express entry whose window holds MAXLEN with its framing. -/
def expressFits (s : State) (out entry maxlen : Nat) : Bool :=
  match (portSched s out).gcl with
  | none => false
  | some g =>
    decide (entry < g.entries.length) && eExpress (g.entry entry) &&
      (match entryPs s g entry with
       | some t => decide (framedPs (portMode s out) maxlen ≤ t)
       | none => true)

/-- R95 forbids the booking. -/
def pauseForbids (s : State) (out cls : Nat) : Bool :=
  isEdge s out && (parN s (bP out) 0 Par.epFlowMode == 1 || (parN s (bP out) 0 Par.epPfcEn).testBit cls)

/-- CROSSING_BOOK (R248). -/
def bodyCrossingBook (ch inPort outPort entry maxlen : Nat) (s : State) : Resp :=
  if !rCore s then refuse stNotReady s
  else match chanOf s ch with
  | none => refuse stNotReady s
  | some c =>
    if 64 ≤ inPort ∨ 64 ≤ outPort ∨ maxlen < 64 ∨ 10240 < maxlen ∨ !isTrunk s inPort then refuse stOutOfRange s
    else if !expressFits s outPort entry maxlen ∨ pauseForbids s outPort c.cls then refuse stOutOfRange s
    else if s.core.bookings.any (fun e => e.2.outPort == outPort && e.2.entry == entry)
        || decide (1024 ≤ (s.core.bookings.filter (fun e => pipeOf e.2.inPort == pipeOf inPort)).length)
        || (!mustPin s ch c && decide (2048 ≤ pinnedCount s)) then refuse stNoResource s
    else match s.core.bookings.freeFrom 0 4096 with
    | none => refuse stNoResource s
    | some k =>
      let s := modCore (fun x => { x with bookings := x.bookings.set k ⟨ch, inPort, outPort, entry, maxlen⟩ }) s
      okWith (w64 k) (report bCORE 0x02 [1, w32 ch, w32 inPort, w32 outPort] (cacheIn ch (updatePin ch s)))

/-- CROSSING_RELEASE. -/
def bodyCrossingRelease (k : Nat) (s : State) : Resp :=
  if !rCore s then refuse stNotReady s
  else match s.core.bookings.find k with
  | none => refuse stOutOfRange s
  | some b =>
    let s := modCore (fun x => { x with bookings := x.bookings.del k }) s
    ok (report bCORE 0x02 [0, w32 b.channel, w32 b.inPort, w32 b.outPort] (updatePin b.channel s))

end Sys2Proof.Machine
end

