-- ==== Sys2Proof/Machine/Edge.lean ====
section
/-! DEFINITION. Ethernet edge ports (chapter 04): link states, pause and PFC, PTP messages and ESMC. -/

namespace Sys2Proof.Machine

/-- The presence of port `p` as a reference candidate is judged anew (R135). -/
def presence (p : Nat) (s : State) : State := effCandidatePresenceChange (0x20 + p) (portPresent s (0x20 + p)) s

/-- What edge port `p` drives its line with (R30, R88); where the spec names nothing for DOWN and LOCKING, idle (DESIGN
CHOICE, log entry 54). -/
def lineSig (s : State) (p : Nat) : LineSig :=
  if (portLanes s p).any (fun l => (lane s l).squelched) then .squelched
  else match (edge s p).link with
  | .up => .frames
  | .holdoff => .idle
  | _ =>
    if 3 ≤ portMode s p then .remoteFault
    else if portMode s p = 1 ∧ parN s (bP p) 0 Par.epAnEn = 1 ∧ parN s (bP p) 0 Par.epSgmii = 0 then .basePage 2
    else .idle

/-- Edge port `p` drives its line anew where what it drives it with has changed. -/
def driveLine (p : Nat) (s : State) : State :=
  let g := lineSig s p
  if !isEdge s p || (edge s p).line == g then s else emit (.line p g) (modEdge p (fun e => { e with line := g }) s)

/-- Enters an edge link state and reports it (Table EP-8). -/
def setEdgeLink (p : Nat) (l : EdgeLink) (s : State) : State :=
  let old := (edge s p).link
  if old = l then s
  else driveLine p (report (bP p) 0x20 [w32 l.code, w32 old.code] (modEdge p (fun e => { e with link := l }) s))

/-- The Sync interval of port `p` in 2^-16 ns. -/
def syncInterval (s : State) (p : Nat) : Int :=
  let l := par s (bP p) 0 Par.epPtpLogSync
  perSecU * 2 ^ l.toNat / 2 ^ (-l).toNat

/-- The next Sync of port `p` is due an interval from now where it is a MASTER, and none is otherwise: C62 is loaded anew
(R126). -/
def planSync (p : Nat) (s : State) : State :=
  let on := decide (ptpRole s p = 1) && (edge s p).ptp.state == 6 && rGuhRun s
  armSyncs { s with guh := { s.guh with
    syncs := if on then s.guh.syncs.set p ((units s : Int) + syncInterval s p) else s.guh.syncs.del p } }

/-- The 1588 port state changes (Table EP-8). -/
def setPtpState (p st : Nat) (s : State) : State :=
  if (edge s p).ptp.state = st then s
  else presence p (planSync p (report (bP p) 0x23 [w32 st] (modPtp p (fun x => { x with state := st }) s)))

/-- The conditions of R86 that are being received have ended. -/
def clearLinkFaults (p : Nat) (s : State) : State :=
  endCause (bP p) 4 (endCause (bP p) 2 (modEdge p (fun e => { e with
    rxFault := false, locFault := false, hiBer := false, anRestart := false, filter := false }) s))

/-- Received pause states and pending two-step stamps are discarded (R89), with the exchanges they belong to. -/
def edgeReleased (p : Nat) (s : State) : State :=
  let s := shapePort p s
  modEdge p (fun e => { e with
    paused := [], ptpDrop := (e.ptpDrop + e.ptp.waiting.length) % 2 ^ 32,
    ptp := { e.ptp with
      waiting := [], held := [], sync := none, msDiff := none, dreq := none, pdreq := none, presp := none } }) s

/-- An edge port enters DOWN (R85, R89). -/
def edgeDown (p : Nat) (s : State) : State :=
  let was := (edge s p).link
  if was = .down then s
  else
    let live := was == .up || was == .holdoff
    let s := wordLockGone p (if live then edgeReleased p (endOpen p 2 s) else s)
    let s := modEdge p (fun e => { e with
      adaptDone := false, anDone := false, flushed := !live && e.flushed, qlCand := none }) s
    let s := setEdgeLink p .down (clearLinkFaults p s)
    let s := if ptpRole s p = 1 ∧ live then setPtpState p 2 s else s
    let s := if was = .up then raise (bP p) 0 s else s
    presence p s

/-- SIGNAL_DETECTED on an edge port: DOWN to LOCKING (Table EP-4). -/
def edgeSignal (p : Nat) (s : State) : State :=
  if blkRun s (bP p) ∧ (edge s p).link = .down ∧ parN s (bP p) 0 Par.epLinkAdmin = 1
      ∧ (portLanes s p).all (fun l => (lane s l).sigDet && (lane s l).cdrLock) then
    setEdgeLink p .locking (modEdge p (fun e => { e with
      anDone := false
      adaptDone := (portLanes s p).all (laneAdapted s) }) s)
  else s

/-- The lanes of port `p` see a signal (R62, R85). -/
def portSignal (p : Nat) (s : State) : State :=
  let s := if isTrunk s p || isEdge s p then
    (portLanes s p).foldl (fun s l => modLane l (fun x => { x with sigDet := true }) s) s else s
  if isTrunk s p then trunkSignal p s else if isEdge s p then edgeSignal p s else s

/-- Auto-negotiation runs on port `p` (Table EP-1). -/
def anRuns (s : State) (p : Nat) : Bool := portMode s p == 1 && parN s (bP p) 0 Par.epAnEn == 1

/-- What auto-negotiation found lets the link go on: an SGMII control word must report 1000 Mb/s (Table EP-2), in bits
11:10 as SGMII places them (PRESUMED). -/
def anOk (s : State) (p abilities : Nat) : Bool :=
  !anRuns s p || parN s (bP p) 0 Par.epSgmii == 0 || fld abilities 11 10 == 2

/-- EDGE_LOCKED (R85): word lock, adaptation and auto-negotiation done, and no fault received.  In HOLDOFF and UP the
same row tells that they hold again: the conditions of R86 have ended and nothing persists (DEDUCED, log entry 27). -/
def effEdgeLocked (p abilities : Nat) (s : State) : State :=
  if !isEdge s p || (edge s p).link == .down || !(edge s p).adaptDone || !anOk s p abilities then s
  else
    let s := wordLockHeld p s
    let s := if anRuns s p && !(edge s p).anDone then
      report (bP p) 0x21 [1, w32 abilities] (modEdge p (fun e => { e with anDone := true }) s) else s
    let s := clearLinkFaults p s
    if (edge s p).link = .locking then setEdgeLink p .holdoff (modEdge p (fun e => { e with holdFrom := s.ticks }) s)
    else s

/-- The hold-off of an edge port has elapsed since it began or was last restarted (R87), in time ticks. -/
def holdoffOver (s : State) (p : Nat) : Bool :=
  decide ((edge s p).holdFrom + parN s (bP p) 0 Par.epHoldoff * 625000 ≤ s.ticks)

/-- EDGE_HOLDOFF_EXPIRED (R85, R87): HOLDOFF elapsed with word lock held throughout, and the flush of the port
complete. -/
def effEdgeHoldoffExpired (p : Nat) (s : State) : State :=
  if !isEdge s p || (edge s p).link != .holdoff || !(edge s p).flushed || !holdoffOver s p
      || !(portLanes s p).all (fun l => (lane s l).wordLock) then s
  else
    let s := setEdgeLink p .up s
    presence p (if ptpRole s p = 1 then setPtpState p 1 s else s)

/-- WORD_LOCK_LOST (R86, R87): a condition of the link-down filter begins where the port can have it; the filter counts
in HOLDOFF and UP, and a loss of word lock in HOLDOFF restarts the hold-off. -/
def effWordLockLost (x : LinkLoss) (s : State) : State :=
  let p := x.port
  if !isEdge s p || (edge s p).link == .down then s
  else
    let filter := fun (s : State) => modEdge p (fun e => { e with filter := e.link == .holdoff || e.link == .up }) s
    match x.cond with
    | .wordLock =>
      let s := wordLockGone p (filter s)
      if (edge s p).link = .holdoff then modEdge p (fun e => { e with holdFrom := s.ticks }) s else s
    | .hiBer =>
      if 3 ≤ portMode s p then beginCause (bP p) 4 (modEdge p (fun e => { e with hiBer := true }) (filter s)) else s
    | .localFault => modEdge p (fun e => { e with locFault := true }) (filter s)
    | .remoteFault => beginCause (bP p) 2 (modEdge p (fun e => { e with rxFault := true }) (filter s))
    | .anRestart =>
      if anRuns s p then modEdge p (fun e => { e with anRestart := true, anDone := false }) (filter s) else s

/-- EDGE_LINK_DOWN_FILTER (R86): suspended for a quad's failover (R28). -/
def effEdgeLinkDownFilter (p : Nat) (s : State) : State :=
  if isEdge s p && (edge s p).filter && !(quad s (p / 4)).filterOff then edgeDown p s else s

/-- AN_FAIL (Table EP-7). -/
def effAnFail (p : Nat) (s : State) : State :=
  if anRuns s p && (edge s p).link == .locking then raise (bP p) 1 (report (bP p) 0x21 [0, 0] s) else s

/-- A port's LINK_ADMIN has gone from 1 to 0 (R81, R85). -/
def adminDown (p : Nat) (s : State) : State :=
  if isTrunk s p then presence p (trunkAdminDown p s) else if isEdge s p then edgeDown p s else s

/-- LINK_ADMIN_DOWN: LINK_ADMIN of the port's kind goes from 1 to 0. -/
def effLinkAdminDown (p : Nat) (s : State) : State :=
  let n := if isTrunk s p then Par.dfLinkAdmin else Par.epLinkAdmin
  if parN s (bP p) 0 n = 1 then adminDown p (setPar (bP p) 0 n 0 s) else s

/-! ## Pause and priority flow control (R90 to R96) -/

/-- The classes a received PAUSE or PFC frame acts on, with their quanta (R91). -/
def pauseActs (s : State) (p : Nat) (pfc : Bool) (enable : Nat) (quanta : List Nat) : List (Nat × Nat) :=
  let mode := parN s (bP p) 0 Par.epFlowMode
  if mode = 1 ∧ !pfc then (List.range 8).map (fun c => (c, quanta.headD 0))
  else if mode = 2 ∧ pfc then
    ((List.range 8).filter (fun c => enable.testBit c && (parN s (bP p) 0 Par.epPfcEn).testBit c)).map
      (fun c => (c, quanta.getD c 0))
  else []

/-- PFC_FRAME_RECEIVED (R91): a later frame replaces the remaining time, zero quanta release the class. -/
def effPfcFrameReceived (p : Nat) (pfc : Bool) (enable : Nat) (quanta : List Nat) (s : State) : State :=
  if !isEdge s p || (edge s p).link != .up then s
  else
    let acts := pauseActs s p pfc enable quanta
    modEdge p (fun e => { e with
      pfcRx := (e.pfcRx + 1) % 2 ^ 32
      paused := acts.foldl (fun m a => if a.2 = 0 then m.del a.1 else m.set a.1 (a.2 % 65536)) e.paused }) (shapePort p s)

/-- PAUSE_EXPIRED (R91). -/
def effPauseExpired (p c : Nat) (s : State) : State :=
  if isEdge s p && ((edge s p).paused.find c).isSome then
    modEdge p (fun e => { e with paused := e.paused.del c }) (shapePort p s)
  else s

/-- PFC_SEND (R92, R93): every class that changed shares one frame; during a transmission it waits for the frame boundary. -/
def effPfcSend (p : Nat) (s : State) : State := pauseFollows p s

/-- PFC_REFRESH (R92): repeated while pause stays asserted, at the next frame boundary. -/
def effPfcRefresh (p : Nat) (s : State) : State :=
  if !isEdge s p || (edge s p).link != .up || (edge s p).asserted == 0 then s
  else
    let s := modEdge p (fun e => { e with due := e.asserted ||| e.due }) s
    if (portSched s p).tx.isNone then sendPause p (edge s p).due s else s

/-- PFC_STORM (R96). -/
def effPfcStorm (p c : Nat) (s : State) : State :=
  if isEdge s p && ((edge s p).paused.find c).isSome then raise (bP p) 5 (report (bP p) 0x22 [w32 c] s) else s

/-! ## PTP (R98 to R102, R131 to R133) -/

/-- The engine's next sequence number of a message kind. -/
def nextSeq (p kind : Nat) (s : State) : Nat × State :=
  let n := (edge s p).ptp.seq.get 0 kind
  (n, modPtp p (fun x => { x with seq := x.seq.set kind ((n + 1) % 65536) }) s)

/-- The delay mechanism of port `p` is peer-to-peer: by its profile, or as a peer-to-peer transparent clock. -/
def peerDelay (s : State) (p : Nat) : Bool :=
  ptpRole s p == 3 || parN s (bP p) 0 Par.epPtpProfile == 1 || parN s (bP p) 0 Par.epPtpProfile == 2

/-- The stamps of port `p` serve the engine: the counter runs and the latencies are published (R35, R111). -/
def ptpStampOk (s : State) (p : Nat) : Bool := rGuhRun s && portLatOk s p

/-- The difference from master to slave of a Sync that is complete, delayAsymmetry taken off: offsetFromMaster is what the
mean delay leaves of it, and enters Guhild on a port in SLAVE (R132). -/
def syncDone (p : Nat) (t1 t2 corr : Int) (s : State) : State :=
  let ms := t2 - t1 - corr - ptpAsym s p
  let s := modPtp p (fun x => { x with msDiff := some ms, sync := none }) s
  if (edge s p).ptp.state = 9 ∧ ptpStampOk s p then
    let o := ms - (edge s p).ptp.meanDelay
    phaseSample (0x20 + p) (-o) (effGuhSample (0x20 + p) (-o) (modPtp p (fun x => { x with offset := o }) s))
  else s

/-- A mean delay is measured, by halves rounded down; nothing without valid stamps. -/
def meanMeasured (p : Nat) (twice : Int) (s : State) : State :=
  if ptpStampOk s p then modPtp p (fun x => { x with meanDelay := twice / 2 }) s else s

/-- A message of the peer delay mechanism, from arrival `at_` (IEEE 1588-2019, 11.4): a request is answered, a response
measures the link. -/
def peerTakes (p : Nat) (m : PtpMsg) (at_ : Int) (s : State) : State :=
  let x := (edge s p).ptp
  match m.msgType with
  | 2 =>
    let two := parN s (bP p) 0 Par.epPtpStep == 0 || parN s (bP p) 0 Par.epPtpTransport == 2
    let s := if two then modPtp p (fun y => { y with waiting := y.waiting ++ [(3, m.seqId)] }) s else s
    emit (.ptp p 3 m.seqId (at_ % guhWrap).toNat (ptpStampOk s p) m.correction) s
  | 3 =>
    match x.pdreq with
    | some (q, t1) =>
      if q ≠ m.seqId then s
      else
        let corr := m.correction + ptpAsym s p
        if m.twoStep then modPtp p (fun y => { y with presp := some ⟨q, m.origin, at_, corr⟩ }) s
        else meanMeasured p (at_ - t1 - corr) (modPtp p (fun y => { y with pdreq := none }) s)
    | none => s
  | 10 =>
    match x.pdreq, x.presp with
    | some (q, t1), some h =>
      if q ≠ m.seqId ∨ h.seq ≠ q then s
      else meanMeasured p (h.arrived - t1 - (m.origin - h.receipt) - h.corr - m.correction)
        (modPtp p (fun y => { y with pdreq := none, presp := none }) s)
    | _, _ => s
  | _ => s

/-- A message of the delay request-response mechanism, or a Sync (IEEE 1588-2019, 11.2 and 11.3): a MASTER answers a
Delay_Req, a time receiver measures. -/
def delayTakes (p : Nat) (m : PtpMsg) (at_ : Int) (s : State) : State :=
  let x := (edge s p).ptp
  match m.msgType with
  | 0 =>
    if m.twoStep then modPtp p (fun y => { y with sync := some ⟨m.seqId, at_, m.correction⟩ }) s
    else syncDone p m.origin at_ m.correction s
  | 8 =>
    match x.sync with
    | some h => if h.seq = m.seqId then syncDone p m.origin h.arrived (h.corr + m.correction) s else s
    | none => s
  | 1 => if x.state = 6 ∧ !peerDelay s p then emit (.ptp p 9 m.seqId (at_ % guhWrap).toNat (ptpStampOk s p) m.correction) s else s
  | 9 =>
    match x.dreq, x.msDiff with
    | some (q, t3), some ms =>
      if q ≠ m.seqId ∨ peerDelay s p then s
      else meanMeasured p (ms + (m.origin - t3 - m.correction)) (modPtp p (fun y => { y with dreq := none }) s)
    | _, _ => s
  | _ => s

/-- The engine takes a message of a boundary clock port (R98, R132): the port state that it decides, the parent's
clockClass of an Announce, and what the message does in its mechanism. -/
def engineTakes (p : Nat) (m : PtpMsg) (s : State) : State :=
  let s := modPtp p (fun x => { x with received := x.received + 1 }) s
  let s := if m.msgType = 11 then
      let s := modPtp p (fun x => { x with parent := m.clockClass % 256 }) s
      if rRefs s then (evaluate s) else s
    else s
  let s := if 1 ≤ m.state ∧ m.state ≤ 9 then setPtpState p m.state s else s
  let at_ := dueOf s (rxPin s p m.stamp)
  if peerDelay s p ∧ (m.msgType = 2 ∨ m.msgType = 3 ∨ m.msgType = 10) then peerTakes p m at_ s else delayTakes p m at_ s

/-- A message on its way through a transparent clock leaves corrected by the port it names (R99). -/
def clockPasses (p : Nat) (m : PtpMsg) (s : State) : State :=
  let twoStep := parN s (bP m.outPort) 0 Par.epPtpStep == 0 || m.transport == 2
  let out := txPin s m.outPort m.outStamp
  let r := tcAdds m.outPort p m.msgType m.domain m.seqId twoStep (signed48 out (rxPin s p m.stamp)) s
  if ptpRole s m.outPort = 2 ∨ ptpRole s m.outPort = 3 then
    emit (.ptp m.outPort m.msgType m.seqId out (portLatOk s p && portLatOk s m.outPort) (m.correction + r.1)) r.2
  else s

/-- PTP_MESSAGE_RECEIVED (R98, R99): consumed by the engine, or corrected as a transparent clock on its way out of the
port it names; the peer delay messages of a peer-to-peer transparent clock are the engine's. -/
def effPtpMessageReceived (p : Nat) (m : PtpMsg) (s : State) : State :=
  if !isEdge s p || (edge s p).link != .up || !rGuhRun s then s
  else if ptpRole s p = 1 then
    if m.transport = parN s (bP p) 0 Par.epPtpTransport ∧ m.domain = parN s (bP p) 0 Par.epPtpDomain then engineTakes p m s
    else s
  else if ptpRole s p = 3 ∧ (m.msgType = 2 ∨ m.msgType = 3 ∨ m.msgType = 10) then
    peerTakes p m (dueOf s (rxPin s p m.stamp)) s
  else if 64 ≤ m.outPort then s
  else clockPasses p m s

/-- The Syncs of a pipeline that wait for their egress stamps. -/
def stampsWaiting (s : State) (pipe : Nat) : Nat :=
  s.edges.foldl (fun a e => if pipeOf e.1 = pipe then a + e.2.ptp.waiting.length else a) 0

/-- What the egress stamp of a message is for: the Follow_Up of a Sync or of a Pdelay_Resp, or the engine's own request. -/
def stampServes (p kind seqId stamp : Nat) (s : State) : State :=
  match kind with
  | 0 => emit (.ptp p 8 seqId stamp (ptpStampOk s p) 0) s
  | 3 => emit (.ptp p 10 seqId stamp (ptpStampOk s p) 0) s
  | 1 => modPtp p (fun x => { x with dreq := some (seqId, dueOf s stamp) }) s
  | _ => modPtp p (fun x => { x with pdreq := some (seqId, dueOf s stamp) }) s

/-- PTP_EGRESS_STAMP (R102): `raw` is the counter at the internal stamping point; with the pipeline's FIFO of 64 full the
stamp is lost. -/
def effPtpEgressStamp (p seqId raw : Nat) (s : State) : State :=
  match (edge s p).ptp.waiting.find? (fun w => w.2 == seqId) with
  | none => s
  | some w =>
    if !isEdge s p then s
    else
      let full := decide (64 < stampsWaiting s (pipeOf p))
      let s := modPtp p (fun x => { x with waiting := x.waiting.erase w }) s
      if full then
        raise (bP p) 6 (report (bP p) 0x25 [w32 seqId]
          (modEdge p (fun e => { e with ptpDrop := (e.ptpDrop + 1) % 2 ^ 32 }) s))
      else stampServes p w.1 seqId (txPin s p raw) s

/-- The flags of an Announce (R131, R133): 0 leap61, 1 leap59, 2 currentUtcOffsetValid, 3 ptpTimescale, 4 timeTraceable,
5 frequencyTraceable. -/
def announceFlags (s : State) : Nat :=
  let g := fun (n : Nat) => parN s bGUH 0 n
  let prime := s.guh.refQl == 0x10 && s.guh.refId != 0xFF
  b2n (g Par.gtLeap == 1) + 2 * b2n (g Par.gtLeap == 2) + 4 * b2n (g Par.gtUtcValid == 1)
    + 8 * b2n (g Par.gtTimescale == 0) + 16 * b2n (s.guh.state == .locked && s.guh.refTime && prime) + 32 * b2n prime

/-- The clockClass sent on port `p` (R98, R133). -/
def sentClass (s : State) (p : Nat) : Nat :=
  qlClass (parN s (bP p) 0 Par.epPtpProfile) (parN s bGUH 0 Par.gtTimescale == 1) (servedQuality s)

/-- PTP_SYNC_SEND (R98, R99, R133): the engine of a boundary clock port sends a Sync or an Announce as MASTER, a
Delay_Req as time receiver; Pdelay_Req also runs on a peer-to-peer transparent clock.  A request leaves with
delayAsymmetry taken off its correctionField (R100). -/
def effPtpSyncSend (p kind : Nat) (s : State) : State :=
  if !isEdge s p || (edge s p).link != .up || !rGuhRun s then s
  else
    let role := ptpRole s p
    let st := (edge s p).ptp.state
    if role = 1 ∧ st = 6 ∧ kind = 0 then
      let (n, s) := nextSeq p 0 (planSync p s)
      let s := emit (.ptp p 0 n (units s) (ptpStampOk s p) 0) s
      if parN s (bP p) 0 Par.epPtpStep = 0 ∨ parN s (bP p) 0 Par.epPtpTransport = 2 then
        modPtp p (fun x => { x with waiting := x.waiting ++ [(0, n)] }) s
      else s
    else if role = 1 ∧ st = 6 ∧ kind = 11 then
      let (n, s) := nextSeq p 11 s
      emit (.announce p n (sentClass s p) (par s bGUH 0 Par.gtUtcOffset + s.guh.leapAdj) (announceFlags s)) s
    else if (role = 1 ∧ (st = 8 ∨ st = 9) ∧ kind = 1 ∧ !peerDelay s p)
        ∨ ((role = 1 ∨ role = 3) ∧ kind = 2 ∧ peerDelay s p) then
      let (n, s) := nextSeq p kind s
      emit (.ptp p kind n (units s) (ptpStampOk s p) (-(ptpAsym s p)))
        (modPtp p (fun x => { x with waiting := x.waiting ++ [(kind, n)] }) s)
    else s

/-- PTP_PORT_READ (R346): the members of the portDS of IEEE 1588-2019 in the standard's order, two words each:
portIdentity, portState, logMinDelayReqInterval, peerMeanPathDelay, logAnnounceInterval, announceReceiptTimeout,
logSyncInterval, delayMechanism, logMinPdelayReqInterval, versionNumber, minorVersionNumber, delayAsymmetry,
portEnable, masterOnly.  The device has no setting for the announce members, which are open values. -/
def bodyPtpPortRead (p : Nat) (s : State) : Resp :=
  if 64 ≤ p then refuse stOutOfRange s
  else if !isEdge s p then refuse stNotReady s
  else
    let x := (edge s p).ptp
    let g := fun (n : Nat) => par s (bP p) 0 n
    let peer := parN s (bP p) 0 Par.epPtpProfile == 1 || parN s (bP p) 0 Par.epPtpProfile == 2
    let (a, s) := drawInt s
    let (b, s) := drawNat s
    okWith (w64 (s.boot.serial % 2 ^ 48 * 2 ^ 16 + (p + 1)) ++ w64 (if ptpRole s p = 1 then x.state else 0)
      ++ w64i (g Par.epPtpLogMindelay) ++ w64i x.meanDelay ++ w64i a ++ w64 b ++ w64i (g Par.epPtpLogSync)
      ++ w64 (if peer then 2 else 1) ++ w64i (g Par.epPtpLogMindelay) ++ w64 2 ++ w64 1 ++ w64i (g Par.epPtpAsym)
      ++ w64 (b2n (ptpRole s p == 1)) ++ w64 0) s

/-! ## ESMC (R103, R104) -/

/-- Port `p` is a selected SyncE reference. -/
def synceSelected (s : State) (p : Nat) : Bool :=
  [0, 1, 2].any (fun i => (selOf s i).sel == 0x20 + p && isEdge s p && kindFor s i (0x20 + p) == 4)

/-- The SSM code sent on port `p`: QL-DNU by a port that is the selected SyncE reference. -/
def ssmSent (s : State) (p : Nat) : Nat :=
  if synceSelected s p then 0xF else qlSsm (refPar s Par.rfEecOption) (servedQuality s)

/-- Sends an ESMC PDU. -/
def sendEsmc (p : Nat) (event : Bool) (s : State) : State :=
  let k := ssmSent s p
  emit (.esmc p k event (parN s (bP p) 0 Par.epEsmcExtended == 1)) (modEdge p (fun e => { e with qlSent := k }) s)

/-- ESMC runs on port `p`. -/
def esmcOn (s : State) (p : Nat) : Bool :=
  isEdge s p && (edge s p).link == .up && parN s (bP p) 0 Par.epEsmcEn == 1

/-- ESMC_PDU_SEND: once per second. -/
def effEsmcPduSend (p : Nat) (s : State) : State := if esmcOn s p then sendEsmc p false s else s

/-- ESMC_EVENT_PDU: within 10 ms of a change of the level sent. -/
def effEsmcEventPdu (p : Nat) (s : State) : State :=
  if esmcOn s p && (edge s p).qlSent != ssmSent s p then sendEsmc p true s else s

/-- The SSM codes of Table RF-3 and the extended ones (PRESUMED). -/
def ssmKnown (opt k : Nat) : Bool :=
  k == 0xF || [0x20, 0x21, 0x22, 0x23].contains k
    || (if opt = 1 then [0x2, 0x4, 0x8, 0xB].contains k else [0x1, 0x7, 0x4, 0xD, 0x0, 0xA, 0xC, 0xE].contains k)

/-- QL_RX changes (Table EP-8): the candidate's quality with it. -/
def setQlRx (p k : Nat) (s : State) : State :=
  if (edge s p).qlRx = k then s
  else
    let s := report (bP p) 0x24 [w32 k] (modEdge p (fun e => { e with qlRx := k }) s)
    if rRefs s then (evaluate s) else s

/-- ESMC_PDU_RECEIVED (R104): accepted once it has come in two consecutive PDUs; an unknown code counts as QL-DNU. -/
def effEsmcPduReceived (p ssm : Nat) (s : State) : State :=
  if !isEdge s p || (edge s p).link != .up then s
  else
    let k := if ssmKnown (refPar s Par.rfEecOption) ssm then ssm else 0xF
    let s := endCause (bP p) 7 s
    if (edge s p).qlCand = some k then setQlRx p k s else modEdge p (fun e => { e with qlCand := some k }) s

/-- ESMC_TIMEOUT (R104): in every link state. -/
def effEsmcTimeout (p : Nat) (s : State) : State :=
  if !isEdge s p then s
  else beginCause (bP p) 7 (setQlRx p 0xFF (modEdge p (fun e => { e with qlCand := none }) s))

end Sys2Proof.Machine
end

