-- ==== Sys2Proof/Machine/Lanes.lean ====
section
/-! DEFINITION. Serial lanes and quads (chapter 02): PLLs and failover, adaptation, the figure of merit, published
latencies and the spare receive slice. -/

namespace Sys2Proof.Machine

/-! ## Published latency (R34 to R37) -/

/-- A latency constant of lane `l` in a mode and slice: 0 k, 1 c_t, 2 t_cal, 3 to 6 the bounds of barrel and FIFO; the
factory's with a valid calibration store, else the nominal ones (R37).  The transmit direction has no slice index. -/
def latConst (cal : Bool) (l mode slice : Nat) (rx : Bool) (k : Nat) : Nat :=
  let i := 4096 + (((l * 8 + mode) * 2 + (if rx then slice else 0)) * 2 + b2n rx) * 8 + k
  if cal then Config.factory i else Config.nominal i

/-- The latency of R34 in 2^-16 ns, rounded to the nearest unit. -/
def latency (cal : Bool) (l mode slice : Nat) (rx : Bool) (temp : Int) (m : LatMeas) : Nat :=
  let bw := baudWidth mode
  let ct := sext 32 (latConst cal l mode slice rx 1)
  let dt := temp - sext 32 (latConst cal l mode slice rx 2)
  let ui := ((1024 * m.barrel + m.fifo * bw.2) * 65536 * 10 ^ 12 : Nat)
  let num := (ui : Int) + ct * dt * 65536 * ((1024 * bw.1 : Nat) : Int)
  ((latConst cal l mode slice rx 0 : Int) + roundDiv num (1024 * bw.1 * 10 ^ 6)).toNat % 2 ^ 32

/-- The measured values lie within their factory bounds (Table LN-11, LAT_RANGE). -/
def latInRange (l mode slice : Nat) (rx : Bool) (m : LatMeas) : Bool :=
  let c := latConst true l mode slice rx
  decide (c 3 ≤ m.barrel) && decide (m.barrel ≤ c 4) && decide (c 5 ≤ m.fifo) && decide (m.fifo ≤ c 6)

/-- Fault source `k` of lane `l` (Table LN-11). -/
def laneFault (l k : Nat) (s : State) : State := raise (bQ (l / 4)) (8 + 6 * (l % 4) + k) s

/-- A lane event. -/
def laneEvent (l lo : Nat) (words : List Word) (s : State) : State := report (bQ (l / 4)) lo (w32 (l % 4) :: words) s

/-- One direction's latency is evaluated from a measurement; a change increments LAT_SEQ at the same lane word boundary
(R34, R35). -/
def publish (l : Nat) (rx : Bool) (m : LatMeas) (s : State) : State :=
  let x := lane s l
  let cal := rBootCal s
  let v := latency cal l x.mode x.slice rx (quad s (l / 4)).temp m
  let old := if rx then x.rxLat else x.txLat
  let seq := (if rx then x.rxSeq else x.txSeq) + b2n (v != old)
  let s := if rx then
      modLane l (fun x => { x with rxLat := v, rxSeq := seq % 256, rxMeas := m, latCal := cal }) s
    else modLane l (fun x => { x with txLat := v, txSeq := seq % 256, txMeas := m, latCal := cal }) s
  let s := if v = old then s else laneEvent l 0x12 [w32 (b2n rx), w32 (seq % 256)] s
  if cal && !latInRange l x.mode x.slice rx m then laneFault l 5 s else s

/-- Both directions are published and valid. -/
def publishBoth (l : Nat) (tx rx : LatMeas) (s : State) : State :=
  modLane l (fun x => { x with latValid := true }) (publish l true rx (publish l false tx s))

/-- LATENCY_CHANGED (R35). -/
def effLatencyChanged (l : Nat) (rx : Bool) (m : LatMeas) (s : State) : State :=
  if (lane s l).mode ≠ 0 ∧ (lane s l).cdrLock then publish l rx m s else s

/-- LATENCY_TEMP_UPDATE (R34, R183): every 10 ms, for a quad's sensor reading; 16 stands for the reading that the pin
latencies of TIC follow (DESIGN CHOICE, log 31: the spec names no sensor for them). -/
def effLatencyTempUpdate (q : Nat) (temp : Int) (s : State) : State :=
  let temp := max (-128) (min 127 temp)
  if q = 16 then { s with tic := { s.tic with temp := temp } }
  else
  let s := modQuad q (fun x => { x with temp := temp }) s
  (List.range 4).foldl (fun s n =>
    let x := lane s (4 * q + n)
    if x.mode ≠ 0 ∧ x.latValid then publish (4 * q + n) true x.rxMeas (publish (4 * q + n) false x.txMeas s) else s) s

/-! ## Figure of merit and equaliser (R32, R33) -/

/-- The figure of merit of an eye under CDR lock (R33): floor (255 × min (v, h)), with v and h clamped to 1. -/
def eyeFom (e : Eye) : Nat :=
  min (if e.h0 = 0 then Config.noCursor e.vin % 256 else min 255 (255 * e.vin / (2 * e.h0))) (min 255 (255 * e.w / 65536))

/-- The range of DFE tap `k`, counted from 0 (Table LN-3). -/
def tapRange (k : Nat) : Int × Int := if k < 2 then (-64, 63) else (-32, 31)

/-- One word of the sign-sign LMS (R32). -/
def lmsStep (taps : List Int) (w : Int × List Int) : List Int :=
  (List.range 12).map (fun k =>
    max (tapRange k).1 (min (tapRange k).2 (taps.getD k 0 + Int.sign w.1 * Int.sign (w.2.getD k 0))))

/-- dfe_lms of R32 over the words a pass has seen. -/
def dfeLms (taps : List Int) (p : LmsPass) : List Int := p.words.foldl lmsStep taps

/-- The sweep of R32: the first peak of the best FOM, none before the first pass, and the taps that the last pass
leaves. -/
def sweepPeaks : List (Nat × LmsPass) → Option (Nat × Nat) → List Int → Option (Nat × Nat) × List Int
  | [], best, taps => (best, taps)
  | (k, p) :: r, best, _ =>
    let f := eyeFom p.eye
    let better := match best with
      | none => true
      | some b => decide (b.2 < f)
    sweepPeaks r (if better then some (k, f) else best) (dfeLms (List.replicate 12 0) p)

/-- What an initial adaptation comes to (R32): peak, taps and FOM.  `given` is the one peak tried, if not all 16; an
adaptation of which no pass is given keeps `old`. -/
def runAdapt (given : Option Nat) (old : Nat) (r : AdaptRun) : Nat × List Int × Nat :=
  let peaks := match given with
    | some k => [k]
    | none => List.range 16
  let s := sweepPeaks (peaks.zip r.sweep) none (List.replicate 12 0)
  ((s.1.map (·.1)).getD (given.getD old), dfeLms s.2 r.last, eyeFom r.last.eye)

/-- The lane applies CTLE_PEAK and the stored DFE taps (ADAPT_MODE = FIXED, R32, R450). -/
def applyStored (l : Nat) (s : State) : State :=
  let peak := parN s (bQ (l / 4)) (l % 4) Par.lnCtlePeak
  modLane l (fun x => { x with ctle := peak, dfe := x.dfeStored }) s

/-! ## Adaptation (R32, R391, R450) -/

/-- The lane's port learns that the adaptation of its lanes is done (Table DF-16, Table EP-4). -/
def portAdapted (l : Nat) (s : State) : State :=
  let p := if (lane s l).mode = 5 then l / 4 * 4 else l
  if !(portLanes s p).all (laneAdapted s) then s
  else if isTrunk s p then modTrunk p (fun t => { t with adaptDone := true }) s
  else if isEdge s p then modEdge p (fun e => { e with adaptDone := true }) s
  else s

/-- The adaptation of a lane failed, with its FOM below FOM_FAIL or by ADAPT_TIMEOUT: its port in LOCKING, or a trunk in
ALIGNED, returns to DOWN (Table DF-16, Table EP-4). -/
def portAdaptFails (l : Nat) (s : State) : State :=
  let p := if (lane s l).mode = 5 then l / 4 * 4 else l
  if isTrunk s p then
    if (trunk s p).link = .locking ∨ (trunk s p).link = .aligned then presence p (linkDown p s) else s
  else if isEdge s p ∧ (edge s p).link = .locking then edgeDown p s
  else s

/-- The lane carries the traffic of a port beyond its initial adaptation (R32, Table DF-16, Table EP-4). -/
def laneCarries (s : State) (l : Nat) : Bool :=
  let p := if (lane s l).mode = 5 then l / 4 * 4 else l
  (isTrunk s p && ((trunk s p).link == .trained || (trunk s p).link == .timed || (trunk s p).link == .up))
    || (isEdge s p && ((edge s p).link == .holdoff || (edge s p).link == .up))

/-- An initial adaptation ends in its one ADAPT_DONE, which completes a LANE_ADAPT (R450). -/
def adaptEnds (l status cause fom : Nat) (s : State) : State :=
  let s := govCancel (.laneAdapt l) s
  let s := modLane l (fun x => { x with adapt := .none, adaptCmd := false }) s
  completeWith 0x0201 l (bQ (l / 4)) 0x10 [w32 (l % 4), w32 status, w32 cause, w32 fom] status s

/-- Port `p` is in LOCKING. -/
def portLocking (s : State) (p : Nat) : Bool :=
  (isTrunk s p && (trunk s p).link == .locking) || (isEdge s p && (edge s p).link == .locking)

/-- An initial adaptation in progress or waiting ends without a result (R450). -/
def adaptBreaks (l cause : Nat) (s : State) : State :=
  if (lane s l).adapt = .none then s else adaptEnds l stNotReady cause 0 s

/-- The lane requests the grant of its own initial adaptation (R391): held while the queue is full.  Larger than the
headroom, it is held too, until a headroom admits it. -/
def requestAdapt (l : Nat) (s : State) : State :=
  match govRequest (.laneAdapt l) s with
  | (.queued, s) => modLane l (fun x => { x with adapt := .waitGrant, bgAdapt := false }) s
  | (_, s) => modLane l (fun x => { x with adapt := .held, bgAdapt := false }) s

/-- ADAPT_REQUEST_RETRY (R391): every 100 µs. -/
def effAdaptRequestRetry (l : Nat) (s : State) : State := if (lane s l).adapt = .held then requestAdapt l s else s

/-- The lane starts adapting by itself, or uses the stored settings with ADAPT_MODE = FIXED (R32). -/
def startAdapt (l : Nat) (s : State) : State :=
  if (lane s l).adapt ≠ .none then s
  else if adaptFixed s l then portAdapted l (applyStored l s)
  else requestAdapt l s

/-- The PLL that serves lane `l`: the serving one in the paired arrangement, else the one PLL_SEL chose (R27, R41). -/
def lanePll (s : State) (l : Nat) : Nat :=
  let q := quad s (l / 4)
  if q.paired then q.serving else (lane s l).pll

/-- A PLL of quad `q` is locked. -/
def pllLocked (s : State) (q pll : Nat) : Bool := if pll = 0 then (quad s q).lockA else (quad s q).lockB

/-- CDR_LOCK (R32, R34): CDR frequency lock, with the positions measured at the lock. -/
def effCdrLock (l : Nat) (tx rx : LatMeas) (s : State) : State :=
  if (lane s l).mode = 0 ∨ (lane s l).cdrLock ∨ !blkRun s (bQ (l / 4)) ∨ !pllLocked s (l / 4) (lanePll s l) then s
  else
    let s := modLane l (fun x => { x with cdrLock := true, sigDet := true }) s
    startAdapt l (publishBoth l tx rx s)

/-- Lane `l` could be waiting for the CDR frequency lock of an adaptation of its own (R32): the rows give no signal
without that lock, so the wait shows by its end alone (DEDUCED). -/
def awaitsLock (s : State) (l : Nat) : Bool :=
  (lane s l).adapt == .none && (lane s l).mode != 0 && blkRun s (bQ (l / 4)) && !adaptFixed s l
    && pllLocked s (l / 4) (lanePll s l)

/-- ADAPT_TIMEOUT (R32, R450): CDR frequency lock is not reached within 2 ms. -/
def effAdaptTimeout (l : Nat) (s : State) : State :=
  if ((lane s l).adapt = .running ∨ awaitsLock s l) ∧ !(lane s l).cdrLock then
    portAdaptFails l (adaptEnds l stNotReady 1 0 (laneFault l 2 s))
  else s

/-- SIGNAL_DETECTED (R62, R85): a lane whose port enters LOCKING runs initial adaptation, unless it is adapted. -/
def effSignalDetected (p : Nat) (s : State) : State :=
  (portLanes s p).foldl (fun s l =>
    if portLocking s p && !laneAdapted s l then startAdapt l s else s) (portSignal p s)

/-- ADAPT_DONE (R32, R450) of an adaptation that saw `sweep`, a pass for each peak tried, and `last`, the final one: with
CTLE_MODE = FIXED at its start one peak was tried (R41).  With the FOM below FOM_FAIL, FOM_FAIL is raised, and a port that waits for the adaptation goes down. -/
def effAdaptDone (l : Nat) (sweep : List LmsPass) (last : LmsPass) (s : State) : State :=
  let b := bQ (l / 4)
  if (lane s l).adapt ≠ .running ∨ !(lane s l).cdrLock then s
  else
    let out := runAdapt (lane s l).peakGiven (lane s l).ctle ⟨sweep, last⟩
    let peak := out.1
    let fom := out.2.2
    let fails := decide (fom < parN s b (l % 4) Par.lnFomFail)
    let s := modLane l (fun x => { x with
      ctle := peak, dfe := out.2.1, dfeStored := out.2.1, fom := fom, fomLow := 0
      bgAdapt := !fails || laneCarries s l }) s
    let s := setPar b (l % 4) Par.lnCtlePeak peak s
    if fails then portAdaptFails l (adaptEnds l stOk 0 fom (laneFault l 1 s))
    else portAdapted l (adaptEnds l stOk 0 fom s)

/-- FOM_REFRESH (R33) over the window `e`: FOM_WARN after 10 consecutive refreshes below it. -/
def effFomRefresh (l : Nat) (e : Eye) (s : State) : State :=
  let x := lane s l
  if x.mode = 0 then s
  else
    let f := if x.cdrLock then eyeFom e else 0
    let low := if f < parN s (bQ (l / 4)) (l % 4) Par.lnFomWarn then x.fomLow + 1 else 0
    let s := modLane l (fun x => { x with fom := f, fomLow := min low 11 }) s
    if low = 10 then laneEvent l 0x11 [w32 f] s else s

/-- LANE_ADAPT (R450). -/
def bodyLaneAdapt (h : CmdHdr) (q n : Nat) (s : State) : Resp :=
  let l := 4 * q + n
  if 16 ≤ q ∨ 4 ≤ n then refuse stOutOfRange s
  else if (lane s l).mode = 0 ∨ !blkRun s (bQ q) then refuse stNotReady s
  else if (lane s l).adapt ≠ .none ∨ (lane s l).spare ≠ .idle then refuse stBusy s
  else if adaptFixed s l then ok (applyStored l s)
  else match govRequest (.laneAdapt l) s with
    | (.queued, s) =>
      accepted 0x0201 l h (modLane l (fun x => { x with adapt := .waitGrant, adaptCmd := true, bgAdapt := false }) s)
    | (.full, s) => refuse stBusy s
    | (.tooLarge, s) => refuse stNoResource s

/-! ## Registers of a quad -/

/-- QUAD_STATUS. -/
def quadStatus (s : State) (q : Nat) : Nat :=
  let x := quad s q
  wrapN 8 x.temp * 2 ^ 24 + x.failovers * 2 ^ 16 + x.serving * 2 ^ 15 + x.planB * 256 + x.planA * 16
    + b2n x.paired * 8 + b2n x.failBusy * 4 + b2n x.lockB * 2 + b2n x.lockA

/-- LANE_STATUS. -/
def laneStatus (s : State) (l : Nat) : Nat :=
  let x := lane s l
  x.fom * 2 ^ 24 + x.mode * 2 ^ 20 + lanePll s l * 2 ^ 19 + x.slice * 2 ^ 18 + x.spare.code * 2 ^ 15
    + b2n x.latValid * 2 ^ 14 + b2n x.latCal * 2 ^ 13 + b2n (x.adapt != .none) * 2 ^ 12 + b2n x.bgAdapt * 2 ^ 11
    + b2n x.cdrLock * 2 ^ 10 + b2n x.sigDet * 2 ^ 9 + b2n x.wordLock * 2 ^ 8 + x.txSpare * 2 ^ 4

/-- LANE_MEAS_TX and LANE_MEAS_RX. -/
def measWord (seq : Nat) (m : LatMeas) : Nat := seq % 256 * 2 ^ 24 + m.barrel % 128 * 2 ^ 10 + m.fifo % 1024

/-- LANE_READ: the lane's registers in the order of Table EF-16. -/
def bodyLaneRead (q n : Nat) (s : State) : Resp :=
  let l := 4 * q + n
  if 16 ≤ q ∨ 4 ≤ n then refuse stOutOfRange s
  else
    let x := lane s l
    okWith [w32 (laneStatus s l), w32 x.txLat, w32 x.rxLat, w32 (measWord x.txSeq x.txMeas),
            w32 (measWord x.rxSeq x.rxMeas)] s

/-! ## The spare receive slice (R38, R39, Table LN-6) -/

/-- SLICE_ABORT (R39). -/
def effSliceAbort (l cause : Nat) (s : State) : State := sliceAborts l cause s

/-- SPARE_TRAINING_DONE (Table LN-6): the spare has been adapted by R32. -/
def effSpareTrainingDone (l : Nat) (r : AdaptRun) (s : State) : State :=
  if (lane s l).spare ≠ .training then s
  else
    let out := runAdapt (lane s l).sparePeak (lane s l).spareCtle r
    let fom := out.2.2
    let s := modLane l (fun x => { x with spareCtle := out.1, spareDfe := out.2.1 }) (govEnd (.spareTrain l) s)
    if parN s (bQ (l / 4)) (l % 4) Par.lnSpareFomMin ≤ fom then modLane l (fun x => { x with spare := .comparing }) s
    else sliceAborts l abLowFom s

/-- SPARE_COMPARE_PASS (Table LN-6): 2^16 identical words, or none within 2^20. -/
def effSpareComparePass (l : Nat) (pass : Bool) (s : State) : State :=
  if (lane s l).spare ≠ .comparing then s
  else if pass then modLane l (fun x => { x with spare := .armed }) s
  else sliceAborts l abCompare s

/-- SLICE_SWAPPED (R38): the slices exchange roles at the boundary with what they were adapted to, and the receive latency is republished. -/
def effSliceSwapped (l : Nat) (m : LatMeas) (s : State) : State :=
  if (lane s l).spare ≠ .armed then s
  else
    let b := bQ (l / 4)
    let u := l % 4
    let old := (lane s l).slice
    let s := publish l true m (modLane l (fun x => { x with
      slice := 1 - old, spare := .idle, ctle := x.spareCtle, dfe := x.spareDfe, spareCtle := x.ctle, spareDfe := x.dfe }) s)
    let s := completeWith 0x0F02 (unitKey b u) b 0x13 [w32 u, w32 (1 - old)] stOk s
    rotSwapped b u (substituted none b u u (swapCause s b u) s)

/-- TX_SEGMENT_SWAPPED (R32): a weak driver segment is replaced, while spares remain. -/
def effTxSegmentSwapped (l : Nat) (s : State) : State :=
  let x := lane s l
  if x.mode = 0 then s
  else
    let s := laneFault l 4 s
    if 4 ≤ x.txSpare then s
    else laneEvent l 0x15 [w32 (x.txSpare + 1)] (modLane l (fun x => { x with txSpare := x.txSpare + 1 }) s)

/-! ## Loss of lock -/

/-- A trunk's TIME_OK clears and its presence as a candidate is judged anew (R66). -/
def trunkTimeLost (p cause : Nat) (s : State) : State :=
  if isTrunk s p then presence p (clearTimeOk p cause s) else s

/-- A lane loses CDR lock (R35, R39, R450): its latency becomes invalid; in LOCKING and ALIGNED the port returns to
DOWN, above them its link-down filter runs. -/
def laneLost (l : Nat) (s : State) : State :=
  let s := adaptBreaks l 2 (sliceAborts l abWordLock s)
  let s := modLane l (fun x => { x with
    cdrLock := false, wordLock := false, latValid := false, bgAdapt := false, fom := 0, fomLow := 0 }) s
  let p := if (lane s l).mode = 5 then l / 4 * 4 else l
  if isTrunk s p then
    let s := trunkTimeLost p 3 s
    if (trunk s p).link = .locking ∨ (trunk s p).link = .aligned then presence p (linkDown p s) else s
  else if isEdge s p then
    if (edge s p).link = .locking then edgeDown p s
    else modEdge p (fun e => { e with filter := e.filter || e.link == .holdoff || e.link == .up }) s
  else s

/-- CDR_LOS (R35). -/
def effCdrLos (l : Nat) (s : State) : State := if (lane s l).cdrLock then laneLost l (laneFault l 0 s) else s

/-! ## Quad PLLs (R27 to R31) -/

/-- What the edge ports of quad `q` drive their lines with is judged anew (R30, R88). -/
def driveLines (q : Nat) (s : State) : State := (List.range 4).foldl (fun s n => driveLine (4 * q + n) s) s

/-- The lanes of quad `q` that are in a mode. -/
def activeLanes (s : State) (q : Nat) : List Nat :=
  ((List.range 4).map (fun n => 4 * q + n)).filter (fun l => (lane s l).mode != 0)

/-- The quad has a locked PLL that serves a lane, or, with every lane off, that would (R31). -/
def hasServing (s : State) (q : Nat) : Bool :=
  let ls := activeLanes s q
  if ls.isEmpty then pllLocked s q (quad s q).serving || (!(quad s q).paired && ((quad s q).lockA || (quad s q).lockB))
  else ls.any (fun l => pllLocked s q (lanePll s l))

/-- Every PLL that serves a lane of the quad is locked (R31). -/
def allServing (s : State) (q : Nat) : Bool := (activeLanes s q).all (fun l => pllLocked s q (lanePll s l))

/-- READY_1 is judged anew after a loss of lock: it clears while the quad has no locked serving PLL (R31). -/
def quadLoss (q : Nat) (s : State) : State :=
  if hasServing s q then s else modQuad q (fun x => { x with ready := false }) s

/-- QUAD_READY (R31): the PLLs with a plan have locked since the start, and the latency constants are loaded. -/
def effQuadReady (q : Nat) (s : State) : State :=
  if !blkRun s (bQ q) then s
  else
    let x := quad s q
    let s := if !x.lockA && !x.lockB then
      endCause (bQ q) 0 (endCause (bQ q) 1 (endCause (bQ q) 2
        (modQuad q (fun x => { x with lockA := x.planA != 0, lockB := x.planB != 0 }) s))) else s
    if (quad s q).planA = 0 ∧ (quad s q).planB = 0 then s
    else if allServing s q && hasServing s q then
      driveLines q ((activeLanes s q).foldl (fun s l => modLane l (fun x => { x with squelched := false }) s)
        (modQuad q (fun x => { x with ready := true }) s))
    else s

/-- The receivers of a failover (R28): stamps invalid, swap sequences aborted, the trunk withdrawn as a candidate, the
frame being received ended as a bad frame. -/
def failoverLane (l : Nat) (s : State) : State :=
  let s := modLane l (fun x => { x with latValid := false }) (sliceAborts l abFailover s)
  let s := trunkTimeLost l 4 s
  endOpen l 3 s

/-- QUAD_PLL_UNLOCK (R28, R29): in the paired arrangement the quad fails over from the serving PLL. -/
def effQuadPllUnlock (q pll : Nat) (s : State) : State :=
  let b := bQ q
  if !pllLocked s q pll ∨ 2 ≤ pll then s
  else
    let s := modQuad q (fun x => if pll = 0 then { x with lockA := false } else { x with lockB := false }) s
    let s := beginCause b pll s
    let other := 1 - pll
    let s := if (quad s q).paired ∧ (quad s q).serving = pll then bistYield b (8 + other) s else s
    if (quad s q).paired ∧ (quad s q).serving = pll ∧ pllLocked s q other then
      let s := modQuad q (fun x => { x with
        serving := other, failovers := min (x.failovers + 1) 255, failBusy := true, filterOff := true }) s
      let s := report b 0x02 [] s
      let s := substituted none b (8 + pll) (8 + other) 3 s
      (activeLanes s q).foldl (fun s l => failoverLane l s) s
    else quadLoss q s

/-- FAILOVER_DONE (R28): the lanes have re-locked and publish re-measured latencies, those of lane n at place n. -/
def effFailoverDone (q : Nat) (meas : List (LatMeas × LatMeas)) (s : State) : State :=
  if !(quad s q).failBusy then s
  else
    let s := modQuad q (fun x => { x with failBusy := false }) s
    let s := (activeLanes s q).foldl (fun s l =>
      if !(lane s l).cdrLock then s
      else
        let m := meas.getD (l % 4) ((lane s l).txMeas, (lane s l).rxMeas)
        publishBoth l m.1 m.2 s) s
    report (bQ q) 0x03 [] s

/-- FAILOVER_FILTER_END (R28). -/
def effFailoverFilterEnd (q : Nat) (s : State) : State := modQuad q (fun x => { x with filterOff := false }) s

/-- PLL_RELOCK_FAIL (R29). -/
def effPllRelockFail (q : Nat) (s : State) : State :=
  let x := quad s q
  if blkRun s (bQ q) ∧ x.paired ∧ (x.lockA != x.lockB) then raise (bQ q) 3 s else s

/-- QUAD_PLL_RELOCKED (R29): the PLL becomes the standby; with no other locked, it serves (DEDUCED). -/
def effQuadPllRelocked (q pll : Nat) (s : State) : State :=
  let x := quad s q
  if !blkRun s (bQ q) ∨ pllLocked s q pll ∨ 2 ≤ pll ∨ (if pll = 0 then x.planA else x.planB) = 0 then s
  else
    let alone := !pllLocked s q (1 - pll)
    let s := modQuad q (fun x =>
      let x := if alone then { x with serving := pll } else x
      if pll = 0 then { x with lockA := true } else { x with lockB := true }) s
    let s := endCause (bQ q) pll s
    let s := if allServing s q then endCause (bQ q) 2 s else s
    driveLines q ((activeLanes s q).foldl (fun s l =>
      if pllLocked s q (lanePll s l) then modLane l (fun x => { x with squelched := false }) s else s) s)

/-- NO_SERVING_PLL (R30): the transmitter of a lane without a locked PLL is squelched, and CDR_LOCK is 0. -/
def effNoServingPll (q n : Nat) (s : State) : State :=
  let l := 4 * q + n % 4
  if (lane s l).mode = 0 ∨ pllLocked s q (lanePll s l) then s
  else
    let s := beginCause (bQ q) 2 s
    quadLoss q (driveLines q (laneLost l (modLane l (fun x => { x with squelched := true }) s)))

/-- The hardware of a quad stops (R341, R448, R450): its lanes squelched, its loops off; plans in effect are taken again
at the start. -/
def quadStops (q : Nat) (s : State) : State :=
  let s := (List.range 4).foldl (fun s n =>
    let l := 4 * q + n
    let s := adaptBreaks l 4 (sliceAborts l abStopped s)
    let s := if (lane s l).cdrLock then laneLost l s else s
    modLane l (fun x => { x with squelched := true, sigDet := false }) s) s
  let s := driveLines q s
  modQuad q (fun x => { x with lockA := false, lockB := false, failBusy := false, filterOff := false, ready := false }) s

/-- The quad PLLs lose their reference (R448): every lane is squelched, as by R30. -/
def quadStopsClock (q : Nat) (s : State) : State :=
  let s := modQuad q (fun x => { x with lockA := false, lockB := false, failBusy := false }) s
  quadLoss q ((activeLanes s q).foldl (fun s l => effNoServingPll q (l % 4) s) s)

/-- The hardware of a quad starts: the plans and the modes set take effect, with PLL A serving (R27, R31, R41). -/
def quadStarts (q : Nat) (s : State) : State :=
  let b := bQ q
  let s := modQuad q (fun x => { x with
    planA := parN s b 0 Par.lnPllAPlan, planB := parN s b 0 Par.lnPllBPlan, paired := parN s b 0 Par.lnPllMode == 1,
    serving := 0, lockA := false, lockB := false, ready := false }) s
  (List.range 4).foldl (fun s n =>
    modLane (4 * q + n) (fun x => { x with
      mode := parN s b n Par.lnLaneMode, pll := parN s b n Par.lnPllSel, latValid := false }) s) s

end Sys2Proof.Machine
end

