-- ==== Sys2Proof/Machine/Clocks.lean ====
section
/-! DEFINITION. Clock synthesis (chapter 07): oscillators, the loops, what feeds the core, Store and alignment lines. -/

namespace Sys2Proof.Machine

/-- Changes CSYN. -/
def modClk (f : Clk → Clk) (s : State) : State := { s with clk := f s.clk }

/-- CSYN runs: it is in RUN and its loops are not stopped (R448). -/
def csynRuns (s : State) : Bool := blkRun s bCSYN && !s.clk.csynStopped

/-- Time PLL `pll` is locked. -/
def timeLocked (s : State) (pll : Nat) : Bool := if pll = 0 then s.clk.lockA else s.clk.lockB

/-! ## What feeds the core (R166, R167) -/

/-- The core moves to a source, and CORE_SOURCE_CHANGED reports it. -/
def coreFrom (src : Nat) (s : State) : State :=
  let old := s.clk.coreSource
  if src = old then s else report bCSYN 0x03 [w32 src, w32 old] (modClk (fun c => { c with coreSource := src }) s)

/-- The source the core falls back to: the harbour clock, or the oscillator with no time PLL locked. -/
def fallback (s : State) : Nat := if timeLocked s s.clk.timeServing then 1 else 2

/-- Away from the core PLL, the core follows the time PLLs: harbour clock or oscillator. -/
def coreFollows (s : State) : State := if s.clk.coreSource = 0 then s else coreFrom (fallback s) s

/-- CORE_PLL_UNLOCK (R166). -/
def effCorePllUnlock (s : State) : State :=
  if !s.clk.coreLock then s
  else coreFrom (fallback s) (beginCause bCSYN 5 (modClk (fun c => { c with coreLock := false }) s))

/-- The core returns to the core PLL where it holds lock and CORE_RETURN = 0 (R167). -/
def coreReturns (s : State) : State :=
  if s.clk.coreLock ∧ parN s bCSYN 0xF0 Par.ckCoreReturn = 0 then coreFrom 0 s else s

/-- CORE_RETURN (R167): the core PLL has held lock for 100 ms. -/
def effCoreReturn (s : State) : State :=
  if csynRuns s then coreReturns (endCause bCSYN 5 (modClk (fun c => { c with coreLock := true }) s)) else s

/-! ## Time PLLs (R161 to R163) -/

/-- A swap that SPARE_SWAP asked for cannot be made: the command ends with NOT_READY. -/
def timeSwapFails (s : State) : State :=
  if !s.clk.swapReq then s
  else
    let s := govCancel .timePllSwap (modClk (fun c => { c with swapReq := false }) s)
    rotFails bCSYN 0 (completeDone 0x0F02 (unitKey bCSYN 0) stNotReady s)

/-- TIME_PLL_UNLOCK (R162): the other PLL takes over, and the failed one attempts to re-lock; on the spare, its fault
alone. -/
def effTimePllUnlock (pll : Nat) (s : State) : State :=
  if 2 ≤ pll ∨ !timeLocked s pll then s
  else
    let s := modClk (fun c => if pll = 0 then { c with lockA := false, relockA := true }
      else { c with lockB := false, relockB := true }) s
    let s := timeSwapFails (beginCause bCSYN (1 + pll) s)
    if s.clk.timeServing ≠ pll then s
    else if timeLocked s (1 - pll) then
      let s := bistYield bCSYN 0 s
      let s := report bCSYN 0x02 [w32 (1 - pll), 0] (modClk (fun c => { c with timeServing := 1 - pll }) s)
      substituted none bCSYN 0 0 3 s
    else coreFollows s

/-- TIME_PLL_RELOCK_FAIL (R162): the failed PLL has not locked within 10 ms. -/
def effTimePllRelockFail (s : State) : State :=
  if s.clk.relockA || s.clk.relockB then
    raise bCSYN 3 (modClk (fun c => { c with relockA := false, relockB := false }) s)
  else s

/-- TIME_PLL_RELOCKED (R162): it becomes the spare, or, with no other locked, it serves. -/
def effTimePllRelocked (pll : Nat) (s : State) : State :=
  if 2 ≤ pll ∨ timeLocked s pll ∨ !csynRuns s then s
  else
    let alone := !timeLocked s s.clk.timeServing
    let s := modClk (fun c =>
      let c := if alone then { c with timeServing := pll } else c
      if pll = 0 then { c with lockA := true, relockA := false } else { c with lockB := true, relockB := false }) s
    coreFollows (endCause bCSYN 4 (endCause bCSYN (1 + pll) s))

/-- TIME_PLL_BOTH (R163): no time PLL is locked while CSYN runs. -/
def effTimePllBoth (s : State) : State :=
  if !csynRuns s then s
  else
    let s := timeSwapFails (modClk (fun c => { c with lockA := false, lockB := false }) s)
    coreFollows (beginCause bCSYN 4 s)

/-- TIME_PLL_SWAPPED (R162): the swap that SPARE_SWAP asked for, under its grant. -/
def effTimePllSwapped (s : State) : State :=
  if !s.clk.swapReq ∨ !govGranted s .timePllSwap ∨ !s.clk.lockA ∨ !s.clk.lockB then s
  else
    let new := 1 - s.clk.timeServing
    let s := govEnd .timePllSwap (modClk (fun c => { c with timeServing := new, swapReq := false }) s)
    let s := completeWith 0x0F02 (unitKey bCSYN 0) bCSYN 0x02 [w32 new, 1] stOk s
    rotSwapped bCSYN 0 (substituted none bCSYN 0 0 (swapCause s bCSYN 0) s)

/-! ## Store, PCIe and AUX loops (R21, R168, R159) -/

/-- STORE is not ready any more. -/
def storeLost (s : State) : State := { s with storeTrained := false }

/-- STORE_PLL_UNLOCK (R168). -/
def effStorePllUnlock (s : State) : State :=
  if !s.clk.storeLock then s
  else storeLost (beginCause bCSYN 6 (modClk (fun c => { c with storeLock := false }) s))

/-- STORE_TRAINED (R21, R421): the Store PLL is locked and the interface trained, or its training failed. -/
def effStoreTrained (ok : Bool) (size : Nat) (s : State) : State :=
  if (hdr s bSTORE).state = .off ∨ s.clk.csynStopped then s
  else if !ok then raise bSTORE 2 (storeLost s)
  else { modClk (fun c => { c with storeLock := true }) (endCause bCSYN 6 (endCause bSTORE 2 s)) with
    storeTrained := true, storeSize := if 1 ≤ size ∧ size ≤ 4 then size else s.storeSize }

/-- STORE_RETRAIN (R24). -/
def effStoreRetrain (ok : Bool) (s : State) : State :=
  if !s.storeTrained then s
  else
    let s := { s with storeRetrains := min (s.storeRetrains + 1) 255 }
    if ok then report bSTORE 0x02 [] s else raise bSTORE 2 (storeLost s)

/-- PCIE_PLL_UNLOCK (R168). -/
def effPciePllUnlock (s : State) : State :=
  if !s.clk.pcieLock then s
  else pcieDown (beginCause bCSYN 7 (modClk (fun c => { c with pcieLock := false }) s))

/-- AUX_UNLOCK (R159). -/
def effAuxUnlock (k : Nat) (s : State) : State :=
  if 2 ≤ k ∨ !(if k = 0 then s.clk.auxLock0 else s.clk.auxLock1) then s
  else beginCause bCSYN 8 (modClk (fun c => if k = 0 then { c with auxLock0 := false } else { c with auxLock1 := false }) s)

/-! ## Oscillators (R160) -/

/-- A DPLL and its course offset at once by the measured difference of the oscillators, within the clamp (R160, R170). -/
def offsetDpll (d : Int) (x : Dpll) : Dpll :=
  { x with
    out := clampOut (x.out - d)
    goal := clampOut (x.goal - d)
    int := x.int - d
    trail := x.trail.map (fun e => (e.1, e.2 - d)) }

/-- The loops move to oscillator `o`: the main DPLL output and every mooring value take the measured difference, so
that the tick frequency stays. -/
def oscSwitch (o : Nat) (s : State) : State :=
  let d := s.clk.oscDiff
  let s := modClk (fun c => { c with osc := o, oscDiff := -d }) s
  let s := modSel 0 (fun x => { x with dpll := offsetDpll d (x.dpll.anchor (slewLimit s) s.ticks) }) s
  let s := { s with refs := { s.refs with
    secs := s.refs.secs.map (Option.map (· - d)), hours := s.refs.hours.map (Option.map (· - d)),
    hourSum := s.refs.hourSum - d * s.refs.hourN, holdFreq := s.refs.holdFreq - d } }
  report bCSYN 0x01 (w32 o :: w64i d) s

/-- Oscillator `o` is active. -/
def oscActive (s : State) (o : Nat) : Bool :=
  if o = 0 then s.clk.oscOkA else s.clk.oscOkB && parN s bCSYN 0xF0 Par.ckOscBFreq != 0

/-- Oscillator `o` is lost (R160): no edge for 4 of its periods.  A spare is not active any more; the one in service
hands over, and without a spare every loop that uses it is lost. -/
def oscGone (o : Nat) (s : State) : State :=
  if 2 ≤ o ∨ !oscActive s o then s
  else
    let s := modClk (fun c => if o = 0 then { c with oscOkA := false } else { c with oscOkB := false }) s
    let s := { s with tic := { s.tic with mons := s.tic.mons.del (12 + o) } }
    if s.clk.osc ≠ o then s
    else
    let s := raise bCSYN 0 s
    if oscActive s (1 - o) then oscSwitch (1 - o) s
    else
      let t := s.clk.timeServing
      effTimePllBoth (effTimePllUnlock t (effTimePllUnlock (1 - t) (effStorePllUnlock (effCorePllUnlock
        (effAuxUnlock 1 (effAuxUnlock 0 s))))))

/-- OSC_LOST (R160): an oscillator is lost.  The row does not say which; with both active it is an open value (DESIGN
CHOICE, log entry 30). -/
def effOscLost (s : State) : State :=
  if oscActive s (1 - s.clk.osc) then
    let (o, s) := drawNat s
    oscGone (o % 2) s
  else oscGone s.clk.osc s

/-- OSC_PREF changed (R160): the oscillator it names is in service whenever it is active. -/
def oscPrefer (s : State) : State :=
  let o := parN s bCSYN 0xF0 Par.ckOscPref
  if csynRuns s ∧ o < 2 ∧ s.clk.osc ≠ o ∧ oscActive s o then oscSwitch o s else s

/-- OSC_RETURN (R160): a lost oscillator has run for 10 s; the one OSC_PREF names goes back into service.  The
difference measured meanwhile is an open value. -/
def effOscReturn (osc : Nat) (s : State) : State :=
  if 2 ≤ osc ∨ oscActive s osc ∨ (osc = 1 ∧ parN s bCSYN 0xF0 Par.ckOscBFreq = 0) then s
  else
    let alone := !oscActive s s.clk.osc
    let s := modClk (fun c => if osc = 0 then { c with oscOkA := true } else { c with oscOkB := true }) s
    if s.clk.osc = osc then s
    else
      let (d, s) := drawInt s
      let s := modClk (fun c => { c with oscDiff := d }) s
      if alone ∨ parN s bCSYN 0xF0 Par.ckOscPref = osc then oscSwitch osc s else s

/-! ## Spare alignment lines (R177) -/

/-- A swap of output `o`'s line is in progress. -/
def lineSwapping (s : State) (o : Nat) : Bool := govWaiting s (.lineSwap o) || govGranted s (.lineSwap o)

/-- DLL_SWAPPED (R177): the line of output `o` and its group's spare are exchanged at a falling edge. -/
def effDllSwapped (o : Nat) (s : State) : State :=
  if 16 ≤ o ∨ !govGranted s (.lineSwap o) then s
  else
    let g := o / 8
    let u := 0x10 + o
    let on := !(clkOut s o).onSpare
    let s := modOut o (fun x => { x with onSpare := on }) (govEnd (.lineSwap o) s)
    let s := modClk (fun c => { c with dllBusy := if on then setBit c.dllBusy g else clrBit c.dllBusy g }) s
    let s := completeWith 0x0F02 (unitKey bCSYN u) bCSYN 0x06 [w32 o, w32 g] stOk s
    let s := if on then substituted none bCSYN u (0x20 + g) (swapCause s bCSYN u) s
      else substituted none bCSYN (0x20 + g) u (swapCause s bCSYN u) s
    rotSwapped bCSYN u s

/-- DLL_FAIL (Table CK-6). -/
def effDllFail (o : Nat) (s : State) : State := if o < 16 ∧ csynRuns s then raise bCSYN 11 s else s

/-! ## Stop and start of CSYN (R448) -/

/-- The loops of CSYN stop: every one but the PCIe PLL.  FATAL, the outputs and the ready bits follow from TIMEPLL. -/
def csynStops (s : State) : State :=
  let s := timeSwapFails s
  let s := modClk (fun c => { c with
    csynStopped := true, lockA := false, lockB := false, relockA := false, relockB := false, coreLock := false,
    storeLock := false, auxLock0 := false, auxLock1 := false }) s
  let s := coreFrom 2 (storeLost s)
  (List.range 16).foldl (fun s q => quadStopsClock q s) s

/-- The loops of CSYN lock on the parameters in effect, with the oscillator that OSC_PREF names where it is active, else
the other; with neither they do not lock.  An oscillator that was lost stays so until OSC_RETURN (R160), one that is
present otherwise runs (PRESUMED); the measured difference is an open value. -/
def csynStarts (s : State) : State :=
  let (d, s) := drawInt s
  let pref := parN s bCSYN 0xF0 Par.ckOscPref % 2
  let o := if oscActive s pref then pref else 1 - pref
  let on := oscActive s o
  let s := modClk (fun c => { c with
    csynStopped := false, lockA := on, lockB := on, coreLock := on, storeLock := on, auxLock0 := on, auxLock1 := on,
    oscDiff := if oscActive s (1 - o) then d else 0, osc := o, timeServing := 0,
    ssc := parN s bCSYN 0xF0 Par.ckSscMode }) s
  if on then coreFrom 0 ([1, 2, 4, 5, 6, 8].foldl (fun s i => endCause bCSYN i s) s) else s

end Sys2Proof.Machine
end

