-- ==== Sys2Proof/Machine/Tic.lean ====
section
/-! DEFINITION. The time-interval counter (chapter 08): edges, calibration pairs, measurements, FIFOs, encoders, monitor
marks and interpolator swaps. -/

namespace Sys2Proof.Machine

/-- Changes TIC. -/
def modTic (f : Tic → Tic) (s : State) : State := { s with tic := f s.tic }
/-- Channel `c`. -/
def ticCh (s : State) (c : Nat) : TicCh := s.tic.chs.get TicCh.reset c
/-- Changes channel `c`. -/
def modCh (c : Nat) (f : TicCh → TicCh) (s : State) : State :=
  modTic (fun t => { t with chs := t.chs.set c (f (t.chs.get TicCh.reset c)) }) s
/-- Interpolator `i`. -/
def interp (s : State) (i : Nat) : Interp := s.tic.interps.get Interp.reset i
/-- Changes interpolator `i`. -/
def modInterp (i : Nat) (f : Interp → Interp) (s : State) : State :=
  modTic (fun t => { t with interps := t.interps.set i (f (t.interps.get Interp.reset i)) }) s
/-- Encoder channel `e`. -/
def encOf (s : State) (e : Nat) : Enc := s.tic.encs.get Enc.reset e
/-- Changes encoder channel `e`. -/
def modEnc (e : Nat) (f : Enc → Enc) (s : State) : State :=
  modTic (fun t => { t with encs := t.encs.set e (f (t.encs.get Enc.reset e)) }) s

/-- The interpolator in service for unit `u` (R182, R199). -/
def servingUnit (s : State) (u : Nat) : Nat :=
  if s.tic.x0 = u then 29 else if s.tic.x1 = u then 30 else u

/-- The pin that interpolator `i` serves. -/
def pinServed (s : State) (i : Nat) : Nat := if i = 29 then s.tic.x0 else if i = 30 then s.tic.x1 else i

/-- A channel held by an enabled encoder (R195). -/
def encHolds (s : State) (c : Nat) : Bool := decide (c < 24) && (encOf s (c / 3)).on

/-! ## Stamps (R182 to R184, R187) -/

/-- D_i(c) of R200 in 2^-16 nominal bins, from the hits of a code-density test. -/
def densityPos (hits : List Nat) (c : Nat) : Int :=
  roundDiv ((2 * (hits.take c).foldl (· + ·) 0 + hits.getD c 0) * 50 : Nat) 3

/-- D_i(c) in 2^-16 nominal bins: the overlay's table, else the factory's, or the linear one without calibration (R187,
R405). -/
def tapPos (s : State) (i c : Nat) : Int :=
  if rBootCal s then
    match s.hlth.overlays.find i with
    | some h => densityPos h c
    | none => (Config.codeTable i c : Nat)
  else (c * 65536 : Nat)

/-- elapsed of R183 in 2^-48 ps. -/
def elapsed (s : State) (i c : Nat) : Int := (interp s i).offset * 65536 + (interp s i).scale * tapPos s i c

/-- A pin latency constant of pin `p` with interpolator `i`: 0 k in 2^-16 ns, 1 c_t in fs/°C, 2 t_cal (R183, as R34); the
nominal ones without calibration (R187). -/
def pinConst (s : State) (p i k : Nat) : Nat :=
  let n := 32768 + (i * 256 + p) * 4 + k
  if rBootCal s then Config.factory n else Config.nominal n

/-- The stamp of R183: the rolling time at pin `p` of an edge latched by interpolator `i`. -/
def stampOf (s : State) (p i : Nat) (l : Latch) : Nat :=
  let drift := sext 32 (pinConst s p i 1) * (s.tic.temp - sext 32 (pinConst s p i 2))
  wrapN 48 ((l.tick : Int) - (pinConst s p i 0 : Nat)
    + roundDiv (-(elapsed s i l.code * 65536 * 1000 + drift * 65536 * 2 ^ 48)) (2 ^ 48 * 10 ^ 6))

/-- When an edge entered the line of interpolator `i`, in Guhild time with steps removed. -/
def enters (s : State) (i : Nat) (l : Latch) : Int :=
  dueOf s l.tick + roundDiv (-(elapsed s i l.code * 65536)) (2 ^ 48 * 1000) - s.guh.stepSum

/-- An edge that enters at `t` finds interpolator `i` in its dead time, the 50 ns after the last edge that it latched
(R184). -/
def inDeadTime (s : State) (i : Nat) (t : Int) : Bool :=
  match (interp s i).last with
  | some l => decide (t - l < 50 * 65536)
  | none => false

/-- The unit that comes in with a running swap: the spare, or the displaced unit that returns. -/
def comesIn (s : State) (w : TicSwap) : Nat := if servingUnit s w.unit = w.spare then w.unit else w.spare

/-- A swap with one more stamp pair, of difference `d` in 2^-16 ns: the comparison passes when 4,096 in a row agree within
25 ps each and 1 ps in their mean (R199). -/
def TicSwap.compare (w : TicSwap) (d : Int) : TicSwap :=
  let ds := if |d| * 1000 ≤ 25 * 65536 then (d :: w.diffs).take 4096 else []
  { w with
    seen := w.seen + 1
    diffs := ds
    passed := w.passed || (ds.length == 4096 && decide (|ds.foldl (· + ·) 0| * 1000 ≤ 4096 * 65536)) }

/-- An edge of pin `p` stamped by unit `i` is compared where a swap of that unit runs under its grant, its 16 pairs made,
and the unit that comes in has stamped it too (R199). -/
def comparePair (p i : Nat) (l : Latch) (s : State) : State :=
  match s.tic.swap, l.other with
  | some w, some c =>
    if servingUnit s w.unit == i && w.cal == 0 && govGranted s (.interpSwap w.unit) then
      modTic (fun t => { t with
        swap := some (w.compare (signed48 (stampOf s p (comesIn s w) { l with code := c }) (stampOf s p i l))) }) s
    else s
  | _, _ => s

/-- What becomes of a counted edge (R184). -/
inductive EdgeFate where
  | passed
  | dead
  | stamped (stamp : Nat)
  deriving DecidableEq, Repr

/-- An edge on channel `c`: it is counted, offered for stamping with every CH_PRESCALE-th, and stamped unless it falls in
dead time (R184). -/
def takeEdge (c : Nat) (l : Latch) (s : State) : EdgeFate × State :=
  let ph := (ticCh s c).phase + 1
  let offered := decide (max 1 (parN s bTIC c Par.tcChPrescale) ≤ ph)
  let i := servingUnit s c
  let t := enters s i l
  let counted := modCh c (fun x => { x with count := (x.count + 1) % 2 ^ 32, phase := if offered then 0 else ph }) s
  if !offered then (.passed, counted)
  else if inDeadTime s i t then (.dead, counted)
  else (.stamped (stampOf s c i l), comparePair c i l (modInterp i (fun x => { x with last := some t }) counted))

/-- The channels a measurement names; INTERVAL uses TIC_START too (R190). -/
def measMask (a : TicArgs) : Nat := if a.mode = 1 then a.channels ||| 2 ^ 24 else a.channels

/-- The open measurement that owns channel `c`. -/
def measOf (s : State) (c : Nat) : Option Meas := s.tic.meas.find? (fun m => (measMask m.args).testBit c)

/-- Replaces a measurement, found by the channels it names. -/
def setMeas (m : Meas) (s : State) : State :=
  modTic (fun t => { t with meas := t.meas.map (fun x => if x.args.channels = m.args.channels then m else x) }) s

/-! ## FIFOs (R192, R193) -/

/-- Word 1 to 3 of a record (Table TC-4). -/
def recWords (ns frac kind ch aux seq ctx : Nat) (edge invalid stale lost : Bool) : List Word :=
  [w32 ns, w32 (frac * 65536 + kind * 4096 + b2n edge * 2048 + b2n invalid * 1024 + b2n stale * 512 + b2n lost * 256 + ch),
   w32 aux, w32 (seq * 65536 + ctx)]

/-- A record generated for channel `c`: SEQ advances; with the FIFO full FIFO_POLICY decides.  An interval stays valid
without GUH_RUN (R187). -/
def pushRec (c kind : Nat) (edge stale : Bool) (t : Nat) (aux ctx : Nat) (lostToo : Bool) (from_ : Nat) (s : State) : State :=
  let x := ticCh s c
  let full := decide (512 ≤ x.fifo.length)
  let keepNew := parN s bTIC c Par.tcFifoPolicy == 1
  let lost := x.lost || lostToo || (full && keepNew)
  let r := recWords (t / 65536 % 2 ^ 32) (t % 65536) kind from_ aux x.seq ctx edge (!rGuhRun s && kind != 1) stale lost
  let seq := (x.seq + 1) % 65536
  if full then
    let fifo := if keepNew then x.fifo.drop 1 ++ [r] else x.fifo
    raise bTIC 0 (modCh c (fun x => { x with
      fifo := fifo, seq := seq, dropped := (x.dropped + 1) % 2 ^ 32, lost := !keepNew }) s)
  else
    let s := modCh c (fun x => { x with fifo := x.fifo ++ [r], seq := seq, lost := false }) s
    if x.fifo.length = 255 then report bTIC 0x03 [w32 c] s else s

/-! ## Measurements (R188 to R191) -/

/-- Causes in MEAS_DONE: the stated limit, STOP, BLOCK_STOP, TIC not ready. -/
abbrev mdLimit : Nat := 0
abbrev mdStop : Nat := 1
abbrev mdBlockStop : Nat := 2
abbrev mdNotReady : Nat := 3

/-- A measurement ends, reported by MEAS_DONE (R188). -/
def measEnds (m : Meas) (cause : Nat) (s : State) : State :=
  let s := modTic (fun t => { t with meas := t.meas.filter (fun x => x.args.channels ≠ m.args.channels) }) s
  let s := (List.range 25).foldl (fun s c =>
    if (measMask m.args).testBit c then modCh c (fun x => { x with gate := [] }) s else s) s
  completeWith 0x0B01 m.args.channels bTIC 0x01
    [w32 m.args.channels, w32 m.args.mode, w32 m.written, w32 cause] stOk s

/-- Every open measurement ends. -/
def measAll (cause : Nat) (s : State) : State := s.tic.meas.foldl (fun s m => measEnds m cause s) s

/-- One more record of a measurement in TIMESTAMP mode, which ends at COUNT (R189). -/
def measCount (m : Meas) (s : State) : State :=
  let m := { m with written := m.written + 1 }
  if m.args.count ≠ 0 ∧ m.args.count ≤ m.written then measEnds m mdLimit (setMeas m s) else setMeas m s

/-- The open start closes at instant `t` with an end record (R190). -/
def closeStart (m : Meas) (o : OpenStart) (t : Int) (timeout : Bool) (s : State) : State :=
  let s := pushRec 24 3 false (interp s (servingUnit s 24)).stale (wrapN 48 t) o.ns
    (b2n timeout * 32768 + o.stops % 128) false 24 s
  let m := { m with start := none, written := m.written + 1 }
  if m.args.again then setMeas m s else measEnds m mdLimit (setMeas m s)

/-- An edge on TIC_START (R190). -/
def startEdge (m : Meas) (t : Int) (s : State) : State :=
  match m.start with
  | some _ => modCh 24 (fun x => { x with ignored := (x.ignored + 1) % 2 ^ 32 }) s
  | none =>
    setMeas { m with start := some ⟨t, wrapN 48 t / 65536 % 2 ^ 32, 0, m.starts % 256⟩, starts := m.starts + 1 } s

/-- A stop edge on channel `c` (R190). -/
def stopEdge (c : Nat) (m : Meas) (t : Int) (edge : Bool) (s : State) : State :=
  match m.start with
  | none => s
  | some o =>
    if t ≤ o.stamp then s
    else if o.stamp + m.args.timeout < t then closeStart m o (o.stamp + m.args.timeout) true s
    else
      let d := (t - o.stamp).toNat
      let s := pushRec c 1 edge (interp s (servingUnit s c)).stale d o.ns (o.stops % 64 * 256 + o.num) false c s
      let o := { o with stops := o.stops + 1 }
      let m := { m with start := some o, written := m.written + 1 }
      if m.args.stopsMax ≤ o.stops then closeStart m o t false s else setMeas m s

/-- The integer square root, found bit by bit from bit `n`. -/
def isqrtFrom : Nat → Nat → Nat → Nat
  | 0, v, r => if (r + 1) * (r + 1) ≤ v then r + 1 else r
  | n + 1, v, r =>
    let q := r + 2 ^ (n + 1)
    isqrtFrom n v (if q * q ≤ v then q else r)

/-- The integer square root of a number below 2^128. -/
def isqrt (v : Nat) : Nat := isqrtFrom 63 v 0

/-- The regression of R191 over the points of a gate: f in 2^-32 Hz, y in 2^-48 and resid in 2^-16 ns, each rounded to
the nearest, the last down.  Edge counts are modulo 2^32. -/
def regress (nominal : Nat) (pts : List GatePt) : Nat × Int × Nat :=
  let n : Int := pts.length
  let k0 : Int := ((pts.map (·.1)).headD 0 : Nat)
  let t0 : Int := (pts.map (·.2)).headD 0
  let z := pts.map (fun p => (((p.1 : Int) - k0) % 2 ^ 32, p.2 - t0))
  let sum := fun (f : Int × Int → Int) => (z.map f).foldl (· + ·) 0
  let sk := sum (·.1)
  let st := sum (·.2)
  let b := n * sum (fun p => p.1 * p.1) - sk * sk
  let a := n * sum (fun p => p.1 * p.2) - sk * st
  let yy := n * sum (fun p => p.2 * p.2) - st * st
  if a ≤ 0 ∨ b ≤ 0 then (0, 0, 0)
  else
    let sec : Int := 65536 * 10 ^ 9
    let f := roundDiv (sec * 2 ^ 32 * b) a.toNat
    let y := roundDiv (sec * 2 ^ 32 * b * 2 ^ 48) (a * (nominal : Int)).toNat - 2 ^ 48
    let r := (yy * b - a * a).toNat / (n * b * (n - 2)).toNat
    (f.toNat, y, isqrt r)

/-- The gate of channel `c` closes: FREQ_DONE, then the next gate opens at the same edge or the channel is done.  After a
gate of one edge the next gate opens at the next stamped edge (DESIGN CHOICE, log 31). -/
def gateDone (c : Nat) (m : Meas) (s : State) : State :=
  let pts := (ticCh s c).gate.reverse
  let n := pts.length
  let s := if n < 3 then report bTIC 0x02 [w32 c, 1, 0, 0, 0, 0, 0, 0, w32 n] s
    else
      let r := regress m.args.freqNom pts
      report bTIC 0x02 ([w32 c, 0] ++ w64 r.1 ++ w64i r.2.1 ++ w64 r.2.2 ++ [w32 n])
        (modCh c (fun x => { x with freqLast := r.1 }) s)
  let m := { m with written := m.written + 1 }
  if m.args.again then setMeas m (modCh c (fun x => { x with gate := if n < 2 then [] else x.gate.take 1 }) s)
  else
    let m := { m with live := clrBit m.live c }
    let s := setMeas m (modCh c (fun x => { x with gate := [] }) s)
    if m.live = 0 then measEnds m mdLimit s else s

/-- The gate of channel `c` closes if it cannot hold an edge at `t` (R191). -/
def gateCloses (c : Nat) (t : Int) (s : State) : State :=
  match measOf s c, (ticCh s c).gate.getLast? with
  | some m, some first => if m.live.testBit c ∧ m.args.gate < t - first.2 then gateDone c m s else s
  | _, _ => s

/-- A stamped edge of a frequency gate (R191): one that lies beyond GATE closes the gate first, and then the gate that
opened at its last edge if it lies beyond that too. -/
def gateEdge (c : Nat) (t : Int) (s : State) : State :=
  let t := t - s.guh.stepSum
  let s := gateCloses c t (gateCloses c t s)
  match measOf s c with
  | some m =>
    if m.live.testBit c then modCh c (fun x => { x with gate := (x.count, t) :: x.gate }) s else s
  | none => s

/-! ## Edges (R183, R184) -/

/-- TIC_EDGE: an edge is counted, and stamped unless prescaled away or in dead time; what the stamp is used for
follows its channel's owner.  On a channel of an enabled encoder it is an edge that the filter does not accept. -/
def effTicEdge (c : Nat) (falling : Bool) (l : Latch) (s : State) : State :=
  let pol := parN s bTIC c Par.tcChEdge
  if !rTic s || 25 ≤ c || (pol == 0 && falling) || (pol == 1 && !falling) then s
  else match takeEdge c l s with
  | (.stamped stamp, s) =>
    let t := dueOf s stamp
    match measOf s c with
    | none => s
    | some m =>
      if !m.cal.isEmpty then s
      else if m.args.mode = 0 then
        measCount m (pushRec c 0 falling (interp s (servingUnit s c)).stale (wrapN 48 t) (ticCh s c).count 0 false c s)
      else if m.args.mode = 1 then (if c = 24 then startEdge m t s else stopEdge c m t falling s)
      else gateEdge c t s
  | (_, s) => s

/-- INTERVAL_TIMEOUT (R190): a start left open for TIMEOUT is closed. -/
def effIntervalTimeout (s : State) : State :=
  match s.tic.meas.find? (fun m => m.start.isSome) with
  | none => s
  | some m =>
    match m.start with
    | none => s
    | some o => closeStart m o (o.stamp + m.args.timeout) true s

/-- FREQ_DONE (R191): the gate time of channel `c` has passed. -/
def effFreqDone (c : Nat) (s : State) : State :=
  match measOf s c with
  | none => s
  | some m => if m.args.mode = 2 ∧ m.live.testBit c then gateDone c m s else s

/-! ## Calibration pairs (R185, R186) -/

/-- The 1,600 ps of one tick in 2^-32 ps. -/
def tickPs : Int := 1600 * 2 ^ 32

/-- The swap that runs 16 pairs on interpolator `i` under its grant (R199). -/
def swapOn (s : State) (i : Nat) : Option TicSwap :=
  s.tic.swap.filter (fun w => comesIn s w == i && govGranted s (.interpSwap w.unit))

/-- A pair has run on interpolator `i`: one less of the 16 that its measurement or its swap waits for (R186, R199). -/
def pairRan (i : Nat) (s : State) : State :=
  let w := swapOn s i
  modTic (fun t => { t with
    meas := t.meas.map (fun m => { m with
      cal := (m.cal.map (fun e => if e.1 = i then (i, e.2 - 1) else e)).filter (fun e => e.2 ≠ 0) })
    swap := match w with
      | some w => some { w with cal := w.cal - 1 }
      | none => t.swap }) s

/-- CAL_PAIR (R185): a pair of codes.  The edges of an idle channel serve the comparison of a swap too (R199).  On an idle channel the interpolator is then in dead time (R186), until 50 ns after
the pair (DESIGN CHOICE, log 31). -/
def effCalPair (i : Nat) (c1 c2 : Latch) (s : State) : State :=
  if !rTic s ∨ 31 ≤ i then s
  else
    let now := bareTime s
    let s := if inDeadTime s i now then s else modInterp i (fun x => { x with last := some now }) s
    let x := interp s i
    let first := x.first || (swapOn s i).any (fun w => w.cal == 16)
    let s := pairRan i (comparePair (pinServed s i) i c2 (comparePair (pinServed s i) i c1 s))
    let p1 := tapPos s i c1.code
    let p2 := tapPos s i c2.code
    let d := p2 - p1
    if d < 400 * 65536 ∨ 700 * 65536 < d then raise bTIC 1 s
    else
      let sc := tickPs * 65536 / d
      let o := tickPs - sc * p1 / 65536
      let s := modInterp i (fun x => { x with
        scale := if first then sc else x.scale + (sc - x.scale) / 16
        offset := if first then o else x.offset + (o - x.offset) / 16
        first := false
        stale := false
        calAt := now }) s
      if s.tic.interps.any (fun e => e.2.stale) then s else endCause bTIC 2 s

/-- CAL_STALE (R186): no pair has completed within 10 × CAL_INTERVAL on a channel that runs. -/
def effCalStale (c : Nat) (s : State) : State :=
  if !rTic s || 25 ≤ c || ((measOf s c).isNone && !encHolds s c) then s
  else
    let i := servingUnit s c
    let s := passTo ((interp s i).calAt + s.guh.stepSum + (655360000 * parN s bTIC c Par.tcCalInterval : Nat)) s
    beginCause bTIC 2 (modInterp i (fun x => { x with stale := true }) s)

/-! ## TIC_ARM and TIC_READ -/

/-- The ranges of Table TC-2 that the mode uses. -/
def ticArgsOk (a : TicArgs) : Bool :=
  let us := 65536000
  decide (a.mode ≤ 2) && decide (a.channels < 2 ^ 25) && a.channels != 0 && decide (a.count < 2 ^ 32)
    && (a.mode != 1 || (decide (1 ≤ a.stopsMax) && decide (a.stopsMax ≤ 64) && decide (us ≤ a.timeout)
          && decide (a.timeout ≤ 2000000 * us)))
    && (a.mode != 2 || (decide (1000 * us ≤ a.gate) && decide (a.gate ≤ 10000000 * us)
          && decide (2 ^ 32 ≤ 1000 * a.freqNom) && decide (a.freqNom ≤ 400000000 * 2 ^ 32)))

/-- Calibration of a unit starts anew (R185, R186). -/
def calAnew (i : Nat) (s : State) : State :=
  let now := bareTime s
  modInterp i (fun x => { x with first := true, calAt := now }) s

/-- TIC_ARM (R188): the measurement opens after 16 calibration pairs on each interpolator it uses, which start with the
first-pair rule (R186). -/
def bodyTicArm (h : CmdHdr) (a : TicArgs) (s : State) : Resp :=
  if !rTic s then refuse stNotReady s
  else if a.stop then
    if a.channels = 0 ∨ 2 ^ 25 ≤ a.channels then refuse stOutOfRange s
    else
      let ms := s.tic.meas.filter (fun m => measMask m.args &&& a.channels != 0)
      ok (ms.foldl (fun s m => measEnds m mdStop s) s)
  else if !ticArgsOk a then refuse stOutOfRange s
  else
    let cs := (List.range 25).filter (fun c => (measMask a).testBit c)
    if cs.any (fun c => (measOf s c).isSome || encHolds s c) then refuse stBusy s
    else
      let s := cs.foldl (fun s c =>
        modCh c (fun x => { x with gate := [] }) (calAnew (servingUnit s c) s)) s
      let cal := cs.map (fun c => (servingUnit s c, 16))
      let m : Meas := { hdr := h, args := a, cal := cal, written := 0, starts := 0, start := none, live := a.channels }
      accepted 0x0B01 a.channels h (modTic (fun t => { t with meas := t.meas ++ [m] }) s)

/-- TIC_READ (R194, R317). -/
def bodyTicRead (h : CmdHdr) (c n : Nat) (s : State) : Resp :=
  if 25 ≤ c ∨ n < 1 ∨ 256 < n then refuse stOutOfRange s
  else if !rTic s then refuse stNotReady s
  else if parN s bTIC c Par.tcFifoReader = 1 then refuse stBusy s
  else
    let k := min n (min (ticCh s c).fifo.length (roomFor h 4))
    okWith (w32 k :: ((ticCh s c).fifo.take k).flatten) (modCh c (fun x => { x with fifo := x.fifo.drop k }) s)

/-- A read of TIC_FIFO_DATA0 (R194): the head record of the selected channel is removed and latched. -/
def ticData0 (s : State) : Nat × State :=
  let c := s.tic.sel
  if (hdr s bTIC).state = .off ∨ parN s bTIC c Par.tcFifoReader = 0 then (0, s)
  else
    match (ticCh s c).fifo with
    | [] => (0, modTic (fun t => { t with latch := [0, 0xF000, 0, 0] }) s)
    | r :: rest =>
      ((r.headD 0).toNat, modTic (fun t => { t with latch := r }) (modCh c (fun x => { x with fifo := rest }) s))

/-- TIC_FIFO_DATA0; the bytes of the word go least significant first (R7). -/
def effTicFifoData0 (s : State) : State :=
  let r := ticData0 s
  emit (.regData (bytesLE 4 r.1)) r.2

/-! ## Encoders (R195, R196) -/

/-- The position after one count, 32 bits signed. -/
def encStep (pos : Int) (down : Bool) : Int := wrapI 32 (if down then pos - 1 else pos + 1)

/-- A change of the accepted levels counts up when A leads B: 00, 10, 11, 01. -/
def countsUp (a b a' b' : Bool) : Bool :=
  match a, b, a', b' with
  | false, false, true, false => true
  | true, false, true, true => true
  | true, true, false, true => true
  | false, true, false, false => true
  | _, _, _, _ => false

/-- An encoder record: kept for captured shafts where it counts, and written to the FIFO with ENC_FIFO = 1 (R197). -/
def encRecord (e c : Nat) (edge z : Bool) (stamp : Nat) (s : State) : State :=
  let x := encOf s e
  let t := dueOf s stamp
  let stale := (interp s (servingUnit s c)).stale
  let ctx := b2n x.down * 32768 + b2n z * 16384 + b2n x.quadDue * 8192
  let s := if parN s bTIC (0x40 + e) Par.tcEncFifo = 1 then
      pushRec (3 * e) 2 edge stale (wrapN 48 t) (wrapN 32 x.pos) ctx x.lost c s
    else s
  modEnc e (fun x => { x with
    quadDue := false, lost := false
    recs := if z then x.recs else ((t - s.guh.stepSum, x.pos) :: x.recs).take 4096 }) s

/-- What becomes of an encoder edge on channel `c` (R184, R195): a record if it is stamped; one in dead time yields none,
and the next record says so. -/
def encTaken (e c : Nat) (falling z : Bool) (l : Latch) (s : State) : State :=
  match takeEdge c l s with
  | (.passed, s) => s
  | (.dead, s) => modEnc e (fun x => { x with lost := true }) s
  | (.stamped stamp, s) => encRecord e c falling z stamp s

/-- The accepted level of A or B: the pin's once it has held for ENC_GLITCH ticks (R195). -/
def acceptedLevel (s : State) (e : Nat) (was : Bool) (p : PinLevel) : Bool :=
  if parN s bTIC (0x40 + e) Par.tcEncGlitch ≤ p.held then p.level else was

/-- ENCODER_EDGE (R195): the levels of A and B at a tick, through the filter, with what the interpolator of the pin edge
latched. -/
def effEncoderEdge (e : Nat) (a b : PinLevel) (l : Latch) (s : State) : State :=
  let x := encOf s e
  let a := acceptedLevel s e x.a a
  let b := acceptedLevel s e x.b b
  if !rTic s || 8 ≤ e || !x.on || (x.a == a && x.b == b) then s
  else if x.a != a && x.b != b then
    raise bTIC 3 (modEnc e (fun x => { x with a := a, b := b, quadErr := (x.quadErr + 1) % 2 ^ 32, quadDue := true }) s)
  else
    let c := 3 * e + b2n (x.b != b)
    let level := if x.b != b then b else a
    let down := countsUp x.a x.b a b == (parN s bTIC (0x40 + e) Par.tcEncDir == 1)
    let s := modEnc e (fun x => { x with
      a := a
      b := b
      down := down
      pos := encStep x.pos down
      zLast := if x.down = down then x.zLast else none }) s
    encTaken e c (!level) false l s

/-- The position at a Z rising edge against the last in the same direction: 4 × ENC_LINES apart (R196). -/
def zCheck (e : Nat) (s : State) : State :=
  let x := encOf s e
  let turn : Int := (4 * parN s bTIC (0x40 + e) Par.tcEncLines : Nat)
  match x.zLast with
  | some p => if wrapI 32 (if x.down then p - x.pos else x.pos - p) = wrapI 32 turn then s else raise bTIC 4 s
  | none => s

/-- ENC_Z (R196): an edge of Z makes a record.  A rising one is checked against the last in the same direction; a
turn back in between breaks the succession (DESIGN CHOICE, log 31). -/
def effEncZ (e : Nat) (falling : Bool) (l : Latch) (s : State) : State :=
  if !rTic s || 8 ≤ e || !(encOf s e).on then s
  else
    let mode := parN s bTIC (0x40 + e) Par.tcEncZMode
    let s := encTaken e (3 * e + 2) falling true l s
    if falling then s
    else if mode = 0 then modEnc e (fun x => { x with zLast := none }) s
    else
      let s := zCheck e s
      let setIt := mode == 2 && !(encOf s e).zSet
      let pos := if setIt then par s bTIC (0x40 + e) Par.tcEncZPosition else (encOf s e).pos
      let s := modEnc e (fun x => { x with pos := pos, zSet := x.zSet || setIt, zLast := some pos }) s
      if setIt then report bTIC 0x06 [w32 e, w32 (wrapN 32 pos)] s else s

/-! ## Monitor sources (R198) -/

/-- A monitor source: REF_IN0 to REF_IN11, OSC_A (12), OSC_B (13), the receive clock of a port with SYNCE_RX = 1 that
is UP (0x20 + port). -/
def monitorOk (s : State) (src : Nat) : Bool :=
  decide (src < 12) || (src == 12 && oscActive s 0) || (src == 13 && oscActive s 1)
    || (decide (0x20 ≤ src) && decide (src < 0x60) && portUp s (src - 0x20) && isEdge s (src - 0x20)
        && parN s (bP (src - 0x20)) 0 Par.epSynceRx == 1)

/-- Monitor source `src`. -/
def mon (s : State) (src : Nat) : Mon := s.tic.mons.get Mon.reset src

/-- Changes monitor source `src`. -/
def modMon (src : Nat) (f : Mon → Mon) (s : State) : State :=
  modTic (fun t => { t with mons := t.mons.set src (f (t.mons.get Mon.reset src)) }) s

/-- A PPS input as a monitor source. -/
def ppsSource (s : State) (src : Nat) : Bool := decide (src < 12) && candPar s src Par.rfRefType == 0

/-- The nominal frequency of a monitor source in Hz, as numerator and denominator. -/
def monHz (s : State) (src : Nat) : Nat × Nat :=
  if src = 12 then (parN s bCSYN 0xF0 Par.ckOscAFreq * 1000000, 1)
  else if src = 13 then (parN s bCSYN 0xF0 Par.ckOscBFreq * 1000000, 1)
  else sourceHz s src

/-- The whole milliseconds that `n` edges of a source take at nominal frequency. -/
def wholeMs (s : State) (src n : Nat) : Nat := n * 1000 * (monHz s src).2 / (monHz s src).1

/-- The first of M0 to M3, each by the unit that serves it, that is not in dead time. -/
def freeMonitor (s : State) (l : Latch) : Option Nat :=
  ([25, 26, 27, 28].map (servingUnit s)).find? (fun i => !inDeadTime s i (enters s i l))

/-- The difference of the oscillators as their marks give it (R160): the spare minus the one in service. -/
def oscCompare (s : State) : State :=
  let y := fun o => marksFreq (monHz s (12 + o)) (mon s (12 + o)).marks
  match y s.clk.osc, y (1 - s.clk.osc) with
  | some a, some b => modClk (fun c => { c with oscDiff := b - a }) s
  | _, _ => s

/-- A mark stamped by interpolator `i` joins the series of its source, Guhild steps removed, which reaches back 10 s, the
longest MON_WINDOW; it is the phase sample of a PPS input and feeds the comparison of the oscillators. -/
def markStamped (src i : Nat) (l : Latch) (s : State) : State :=
  let t := dueOf s (stampOf s (32 + src) i l)
  let b := t - s.guh.stepSum
  let e := enters s i l
  let s := comparePair (32 + src) i l (modInterp i (fun x => { x with last := some e }) s)
  let s := modMon src (fun m => { m with
    owed := false
    marks := (m.count, b) :: m.marks.filter (fun q => decide (b - 10 * (perSecU : Int) ≤ q.2)) }) s
  if ppsSource s src then ppsSample src t s
  else if src = 12 ∨ src = 13 then oscCompare s
  else s

/-- MONITOR_MARK (R198): `edges` edges of a source since the last such row, the last of them latched.  It is a mark when
the input is PPS, when a whole millisecond of the count has passed, or when an earlier mark found all four interpolators
busy; an edge that a PPS input ignores (R140) is none (DEDUCED, log 31). -/
def effMonitorMark (src edges : Nat) (l : Latch) (s : State) : State :=
  if !rTic s || !monitorOk s src || edges == 0 then s
  else
    let m := mon s src
    let pps := ppsSource s src
    let near := m.marks.head?.any (fun q => decide (10 * (dueOf s l.tick - s.guh.stepSum - q.2) < 9 * (perSecU : Int)))
    let n := m.count + edges
    if pps && near then s
    else
      let s := modMon src (fun m => { m with count := n }) s
      if !pps && !m.owed && wholeMs s src n == wholeMs s src m.count then s
      else match freeMonitor s l with
        | none => modMon src (fun m => { m with owed := true }) s
        | some i => markStamped src i l s

/-! ## Interpolator swaps (R199) -/

/-- INTERP_SWAPPED (R199): the comparison has passed, and the exchange takes place in a dead time; a unit whose spare
already stands in for it returns. -/
def effInterpSwapped (s : State) : State :=
  match s.tic.swap with
  | none => s
  | some w =>
    if !govGranted s (.interpSwap w.unit) || !w.passed then s
    else
      let u := w.unit
      let x := w.spare
      let back := servingUnit s u == x
      let v := if back then 0xFF else u
      let out := servingUnit s u
      let s := modTic (fun t => { t with
        x0 := if x = 29 then v else t.x0
        x1 := if x = 29 then t.x1 else v
        swap := none
        meas := t.meas.map (fun m => { m with cal := m.cal.filter (fun e => e.1 ≠ out) }) }) (govEnd (.interpSwap u) s)
      let s := completeWith 0x0F02 (unitKey bTIC u) bTIC 0x04 [w32 u, w32 (if back then u else x)] stOk s
      let s := if back then substituted none bTIC x u (swapCause s bTIC u) s
        else substituted none bTIC u x (swapCause s bTIC u) s
      rotSwapped bTIC u s

/-- A running swap ends without the exchange: no event of TIC names it, so the command ends with COMMAND_DONE. -/
def interpFails (s : State) : State :=
  match s.tic.swap with
  | none => s
  | some w =>
    let s := govCancel (.interpSwap w.unit) (modTic (fun t => { t with swap := none }) s)
    rotFails bTIC w.unit (completeDone 0x0F02 (unitKey bTIC w.unit) stNotReady s)

/-- INTERP_MISMATCH (R199): no pass within 2^20 pairs aborts the swap. -/
def effInterpMismatch (s : State) : State :=
  if s.tic.swap.any (fun w => !w.passed && decide (2 ^ 20 ≤ w.seen)) then interpFails (raise bTIC 5 s) else s

/-! ## What a COMMIT changes -/

/-- The check of R197: no enabled encoder on a channel in an open measurement. -/
def checkTic (s : State) : Option Nat :=
  if (List.range 8).any (fun e => afterN s bTIC (0x40 + e) Par.tcEncEn == 1 && !(encOf s e).on
      && [3 * e, 3 * e + 1, 3 * e + 2].any (fun c => (measOf s c).isSome)) then some stBusy
  else none

/-- Encoders are enabled or disabled.  At an enable A and B are taken as low, and ENC_POSITION and ENC_QUAD_ERR are kept
over a disable and enable; the spec states neither (DESIGN CHOICE, log 31).  Calibration starts anew on the channels. -/
def applyTic (s : State) : State :=
  (List.range 8).foldl (fun s e =>
    let on := parN s bTIC (0x40 + e) Par.tcEncEn == 1
    if on = (encOf s e).on then s
    else
      let s := modEnc e (fun x => { Enc.reset with on := on, pos := x.pos, quadErr := x.quadErr }) s
      if on then [3 * e, 3 * e + 1, 3 * e + 2].foldl (fun s c => calAnew (servingUnit s c) s) s else s) s

/-- The hardware of TIC stops: measurements and a running swap end, calibration starts anew. -/
def ticStops (cause : Nat) (s : State) : State :=
  let s := interpFails (measAll cause s)
  modTic (fun t => { t with interps := t.interps.map (fun e => (e.1, { e.2 with first := true })), latch := [] }) s

end Sys2Proof.Machine
end

