-- ==== Sys2Proof/Machine/Health.lean ====
section
/-! DEFINITION. Self-test, rotation, spares, wear and the service record (R393 to R406), with the banks of BUF (R255)
and the Keeper's lockstep pairs (R388). -/

namespace Sys2Proof.Machine

/-! ## Banks of the buffer (R255) -/

/-- The state of bank `i`: 256 active and 16 spare banks at reset (R254). -/
def bankState (s : State) (i : Nat) : Nat := s.buf.banks.get (if i < 256 then 0 else 3) i

/-- A bank enters a state (Table BF-8). -/
def setBank (i st : Nat) (s : State) : State :=
  report bBUF 0x05 [w32 i, w32 st] (modBuf (fun b => { b with banks := b.banks.set i st }) s)

/-- The first spare bank. -/
def spareBank (s : State) : Option Nat := (List.range 272).find? (fun i => bankState s i == 3)

/-- A rotation or SPARE_SWAP begins to drain bank `i`: the spare joins allocation first. -/
def beginDrain (i spare cause : Nat) (s : State) : State :=
  let s := setBank i 1 (setBank spare 0 s)
  substituted none bBUF i spare cause (modBuf (fun b => { b with drain := some i, drainFor := spare }) s)

/-- BANK_DRAINED (R255): the draining bank's last cell is free. -/
def effBankDrained (s : State) : State :=
  match s.buf.drain with
  | none => s
  | some i =>
    let s := modBuf (fun b => { b with drain := none, banks := b.banks.set i 2 }) s
    rotSwapped bBUF i (completeWith 0x0F02 (unitKey bBUF i) bBUF 0x05 [w32 i, 2] stOk s)

/-- BANK_DRAIN_ABORT (R255): not drained within 100 ms. -/
def effBankDrainAbort (s : State) : State :=
  match s.buf.drain with
  | none => s
  | some i =>
    let s := setBank s.buf.drainFor 3 (modBuf (fun b => { b with drain := none, banks := b.banks.set i 0 }) s)
    rotFails bBUF i (completeWith 0x0F02 (unitKey bBUF i) bBUF 0x05 [w32 i, 0] stNotReady (raise bBUF 9 s))

/-! ## Isolation and substitutions (R393, R394) -/

/-- A unit is isolated, so that it may be tested (R393, Table HL-2); any interpolator is in factory test mode (R200), which
TEST_UNLOCK enters (DEDUCED, log 31). -/
def isolated (s : State) (b u : Nat) : Bool :=
  match unitClass b u with
  | some 0 => (lane s (4 * (b - 0x10) + u)).spare == .idle
  | some 1 => !s.clk.swapReq
  | some 2 => if u < 0x20 then (clkOut s (u - 0x10)).onSpare else !s.clk.dllBusy.testBit (u - 0x20)
  | some 3 => s.keep.testUnlocked || if u < 29 then servingUnit s u != u else if u = 29 then s.tic.x0 == 0xFF else s.tic.x1 == 0xFF
  | some 4 => 2 ≤ bankState s u
  | some 5 => lkpSpare s (lkpTable u) == u || unitRetired s b u
  | some 6 => u != s.keep.pair
  | some 7 => (quad s (b - 0x10)).paired && (quad s (b - 0x10)).serving != u - 8
  | _ =>
    if b = bBOOT then s.keep.bulk.isEmpty
    else if u = 0 then
      s.host.spiReplies.isEmpty && s.host.spiEvents.isEmpty && s.keep.waiting.all (fun w => w.hdr.origin != .spi)
    else !s.host.en && ringIdle s.host

/-- The copy to the spare bank of LKP unit `u`'s table is granted: it is made, then the table switches (R237). -/
def tableSwitch (u : Nat) (s : State) : State :=
  let t := lkpTable u
  let spare := lkpSpare s t
  let s := govEnd (.tableCopy u) (modCore (fun k => { k with banks := k.banks.set t u }) s)
  let cause := swapCause s bLKP u
  match findAccepted s 0x0F02 (unitKey bLKP u) with
  | some a =>
    rotSwapped bLKP u (substituted (some a.hdr) bLKP u spare cause
      { s with keep := { s.keep with accepted := s.keep.accepted.erase a } })
  | none => rotSwapped bLKP u (substituted none bLKP u spare cause s)

/-- What grants start beyond the governor's own marks: table copies, and the unlocking of a PLL in its slice. -/
def afterGrant (s : State) : State :=
  s.hlth.gov.grants.foldl (fun s g =>
    if g.ending then s
    else match g.kind with
      | .tableCopy u => tableSwitch u s
      | .bistSlice b =>
        match s.hlth.bist.find b with
        | some t => if t.inSlice then sliceLock b t.unit false s else s
        | none => s
      | _ => s) s

/-- The Keeper's spare pair comes into service. -/
def pairSwap (cause : Nat) (s : State) : State :=
  let old := s.keep.pair
  let s := bistYield bKEEP (1 - old) s
  substituted none bKEEP old (1 - old) cause { s with keep := { s.keep with pair := 1 - old, spareReady := false } }

/-- What a swap or drain needs before it can start: the status of a refusal, or the state in which it has started.  Two
points are the model's (DESIGN CHOICE, logs 30 and 31): the name of an output on its group spare, or of an interpolator
whose spare stands in for it, asks for the exchange back (R177, R199); of two free spares X0 is taken (R199). -/
def startSwap (b u cause : Nat) (s : State) : Nat × State :=
  let ask := fun (k : GovKind) (f : State → State) =>
    match govRequest k s with
    | (.queued, s) => (stOk, f s)
    | (.full, s) => (stBusy, s)
    | (.tooLarge, s) => (stNoResource, s)
  match unitClass b u with
  | some 0 =>
    let l := 4 * (b - 0x10) + u
    if (lane s l).mode = 0 ∨ !blkRun s b then (stNotReady, s)
    else if (lane s l).adapt ≠ .none ∨ (lane s l).spare ≠ .idle ∨ underTest s b u then (stBusy, s)
    else if (lane s l).retired.isSome then (stNoResource, s)
    else ask (.spareTrain l) (modLane l (fun x => { x with spare := .waitGrant }))
  | some 1 =>
    if !rTimePll s then (stNotReady, s)
    else if s.clk.swapReq ∨ underTest s b u then (stBusy, s)
    else if !s.clk.lockA ∨ !s.clk.lockB ∨ unitRetired s b u then (stNoResource, s)
    else ask .timePllSwap (modClk (fun c => { c with swapReq := true }))
  | some 2 =>
    let o := u - 0x10
    let g := o / 8
    if 0x20 ≤ u then (stNoResource, s)
    else if (List.range 16).any (fun j => j / 8 == g && lineSwapping s j) ∨ underTest s b u ∨ underTest s b (0x20 + g) then
      (stBusy, s)
    else if (clkOut s o).onSpare then (if unitRetired s b u then (stNoResource, s) else ask (.lineSwap o) id)
    else if s.clk.dllBusy.testBit g then (stBusy, s)
    else if s.clk.dllRetired.testBit g then (stNoResource, s)
    else ask (.lineSwap o) id
  | some 3 =>
    let x0 := s.tic.x0 == 0xFF && !unitRetired s b 29 && !underTest s b 29
    let x1 := s.tic.x1 == 0xFF && !unitRetired s b 30 && !underTest s b 30
    if !rTic s then (stNotReady, s)
    else if s.tic.swap.isSome ∨ underTest s b u then (stBusy, s)
    else if 29 ≤ u ∨ sparesOf s 3 = 0 then (stNoResource, s)
    else if servingUnit s u ≠ u then
      if unitRetired s b u then (stNoResource, s)
      else ask (.interpSwap u) (modTic (fun t => { t with swap := some (.start u (servingUnit s u)) }))
    else if x0 then ask (.interpSwap u) (modTic (fun t => { t with swap := some (.start u 29) }))
    else if x1 then ask (.interpSwap u) (modTic (fun t => { t with swap := some (.start u 30) }))
    else (stNoResource, s)
  | some 4 =>
    if !rBuf s then (stNotReady, s)
    else if s.buf.drain.isSome then (stBusy, s)
    else match spareBank s with
      | some x => if bankState s u = 0 then (stOk, beginDrain u x cause s) else (stNoResource, s)
      | none => (stNoResource, s)
  | some 5 =>
    let x := lkpSpare s (lkpTable u)
    if !rLkp s then (stNotReady, s)
    else if govWaiting s (.tableCopy u) || govGranted s (.tableCopy u) || underTest s b x then (stBusy, s)
    else if x = u ∨ unitRetired s b x then (stNoResource, s)
    else ask (.tableCopy u) id
  | _ => (stNoResource, s)

/-- HLTH serves its commands (R23, Table AR-7): BIST_RUN and SERVICE_RECORD_READ in Standby Light mode too (R372). -/
def hlthServes (s : State) : Bool := rHlth s || s.boot.phase == .standbyLight

/-- SPARE_SWAP (R38, R162, R177, R199, R237, R255, R393). -/
def bodySpareSwap (h : CmdHdr) (b u : Nat) (s : State) : Resp :=
  if nBlocks ≤ b ∨ !unitOk b u then refuse stBadParamId s
  else if !rHlth s then refuse stNotReady s
  else if unitClass b u = some 6 then
    if u = s.keep.pair ∧ s.keep.spareReady ∧ !s.keep.spareRetired then ok (pairSwap 1 s) else refuse stNoResource s
  else
    let r := startSwap b u 1 s
    if r.1 = stOk then accepted 0x0F02 (unitKey b u) h r.2 else refuse r.1 s

/-! ## Self-test (R396 to R398) -/

/-- BIST_RUN. -/
def bodyBistRun (h : CmdHdr) (b u : Nat) (s : State) : Resp :=
  if nBlocks ≤ b ∨ !unitOk b u then refuse stBadParamId s
  else if !hlthServes s ∨ (s.boot.phase = .standbyLight ∧ b ≠ bKEEP ∧ b ≠ bBOOT ∧ b ≠ bHOST) then refuse stNotReady s
  else if (s.hlth.bist.find b).isSome ∨ !isolated s b u then refuse stBusy s
  else match govRequest (.bistSlice b) (testBegun b u false s) with
    | (.queued, s) => accepted 0x0F01 b h s
    | (.full, _) => refuse stBusy s
    | (.tooLarge, _) => refuse stNoResource s

/-- A tap code lies in the calibrated span: its elapsed is at least one and less than two tick periods (R182, R185). -/
def inCalSpan (s : State) (i c : Nat) : Bool :=
  decide (tickPs * 65536 ≤ elapsed s i c) && decide (elapsed s i c < 2 * tickPs * 65536)

/-- The codes that fail the code-density test of interpolator `i` (R200): in the calibrated span and of width 0 or above
9 ps, where `h` of the 2^20 hits make a bin of 1,600 ps × h / 2^20. -/
def densityBad (s : State) (i : Nat) (hits : Tab Nat) : List Nat :=
  (List.range 1280).filter (fun c =>
    inCalSpan s i c && (hits.get 0 c == 0 || decide (9 * 2 ^ 20 < 1600 * hits.get 0 c)))

/-- What a slice of a test comes to: the detail word of a failure.  The last slice of a code-density test judges its bins;
the detail word is then the failing code range, lowest × 65,536 + highest (DESIGN CHOICE, log 40). -/
def sliceVerdict (s : State) (b : Nat) (t : Bist) (pass : Bool) (detail : Nat) : Option Nat :=
  if !pass then some detail
  else if unitClass b t.unit = some 3 ∧ t.total ≤ t.done + 1 then
    match densityBad s t.unit t.hits with
    | [] => none
    | c :: r => some (c * 65536 + r.getLastD c)
  else none

/-- BIST_SLICE (R396, R397, R200): the slice that runs ends, with the edges that it latched by tap code; a failure fails
the test at once, the next slice asks for its own grant. -/
def effBistSlice (b : Nat) (pass : Bool) (r : SliceResult) (s : State) : State :=
  match s.hlth.bist.find b with
  | none => s
  | some t =>
    if !t.inSlice then s
    else
      let s := govEnd (.bistSlice b) (sliceLock b t.unit true s)
      let t := { t with inSlice := false, hits := r.hits.foldl (fun m e => m.set e.1 (m.get 0 e.1 + e.2)) t.hits }
      let bad := sliceVerdict s b t pass r.detail
      let t := if bad.isNone then { t with done := t.done + 1 } else { t with failed := bad }
      let s := modHlth (fun x => { x with bist := x.bist.set b t, testSlice := t.done }) s
      if bad.isNone ∧ t.done < t.total then (govRequest (.bistSlice b) s).2 else s

/-- Flash cannot be written: RECORD_WRITE_FAIL and FLASH_ERROR are raised (R404, R367). -/
def recordFails (s : State) : State :=
  raise bBOOT 3 (raise bHLTH 5 (modHlth (fun x => { x with flashBad := true, recordOk := false }) s))

/-- The table of a passing code-density test is written to the overlay (R200, R405): 4,084 bytes that the spec does not
lay out (log 40: the hits of each code in two bytes, then zeros), the serial number and the CRC-32C.  The widest bin, in
2^-16 ps, and the number of bins wider than 6 ps are recorded (R403). -/
def writeOverlay (u : Nat) (hits : Tab Nat) (s : State) : State :=
  let h := (List.range 1280).map (hits.get 0)
  let wide := (h.filter (fun n => decide (6 * 2 ^ 20 < 1600 * n))).length
  let s := modHlth (fun x => { x with
    widest := x.widest.set u (100 * h.foldl max 0, wide) }) s
  if !s.boot.flashOk then recordFails s
  else
    let body := h.flatMap (fun n => bytesBE 2 (min n 65535)) ++ List.replicate 1524 0 ++ bytesBE 8 s.boot.serial
    let l := body ++ bytesBE 4 (crc32c body)
    let s := { s with flash := Memory.writeAll s.flash (0x460000 + 0x20000 + 4096 * u) l }
    logEntry 8 bTIC u [2] (modHlth (fun x => { x with overlays := x.overlays.set u h, recordOk := true }) s)

/-- A unit that passed its test returns to the spare set (R397); a displaced line or interpolator returns to its place,
so that the spare is free again. -/
def unitPasses (b u : Nat) (hits : Tab Nat) (s : State) : State :=
  if unitRetired s b u then s
  else match unitClass b u with
    | some 2 =>
      if u < 0x20 then
        { modOut (u - 0x10) (fun x => { x with onSpare := false }) s with
          clk := { (modOut (u - 0x10) (fun x => { x with onSpare := false }) s).clk with
                   dllBusy := clrBit s.clk.dllBusy ((u - 0x10) / 8) } }
      else s
    | some 3 =>
      let s := writeOverlay u hits s
      modTic (fun t => { t with
        x0 := if t.x0 = u then 0xFF else t.x0, x1 := if t.x1 = u then 0xFF else t.x1 }) s
    | some 4 => if bankState s u = 2 then setBank u 3 s else s
    | some 6 => { s with keep := { s.keep with spareReady := !s.keep.spareRetired } }
    | _ => s

/-- A unit that failed its test is retired (R394, R397), with what its block's chapter says. -/
def unitFails (b u detail : Nat) (s : State) : State :=
  if unitRetired s b u then s
  else
    let s := match unitClass b u with
      | some 0 => modLane (4 * (b - 0x10) + u) (fun x => { x with retired := some (1 - x.slice) }) (laneFault (4 * (b - 0x10) + u) 3 s)
      | some 2 => if u < 0x20 then s else modClk (fun c => { c with dllRetired := setBit c.dllRetired (u - 0x20) }) s
      | some 3 => report bTIC 0x05 [w32 u, w32 detail] s
      | some 4 => setBank u 4 s
      | some 6 => raise bKEEP 4 { s with keep := { s.keep with spareReady := false, spareRetired := true } }
      | some 1 | some 7 => sliceLock b u false s
      | _ => s
    let s := retireUnit b u none s
    if unitClass b u = some 3 ∧ sparesOf s 3 = 0 then raise bTIC 6 s else s

/-- BIST_DONE (R397): after the last slice or a failure. -/
def effBistDone (b : Nat) (s : State) : State :=
  match s.hlth.bist.find b with
  | none => s
  | some t =>
    match t.failed with
    | some d =>
      let s := modHlth (fun x => { x with passed := x.passed.set (unitKey b t.unit) false }) s
      unitFails b t.unit d (bistEnds b bistFail d (raise bHLTH 0 s))
    | none =>
      if t.done < t.total then s
      else
        let s := modHlth (fun x => { x with passed := x.passed.set (unitKey b t.unit) true }) s
        unitPasses b t.unit t.hits (bistEnds b bistPass 0 s)

/-! ## Rotation (R399, R403) -/

/-- Every unit that rotation can take, in class order and in number order (Table HL-2). -/
def rotUnits : List (Nat × Nat) :=
  (List.range 64).map (fun l => (bQ (l / 4), l % 4)) ++ [(bCSYN, 0)] ++ (List.range 16).map (fun o => (bCSYN, 0x10 + o))
    ++ (List.range 29).map (fun i => (bTIC, i)) ++ (List.range 272).map (fun i => (bBUF, i))
    ++ ((List.range 17) ++ (List.range 5).map (0x100 + ·) ++ (List.range 2).map (0x200 + ·)).map (fun u => (bLKP, u))
    ++ (List.range 2).map (fun u => (bKEEP, u)) ++ (List.range 32).map (fun i => (bQ (i / 2), 8 + i % 2))

/-- A unit of a class in ROT_MASK that rotation would take: one in service that its step displaces, or the pair or PLL
that stands by. -/
def rotTakes (s : State) (e : Nat × Nat) : Bool :=
  let k := (unitClass e.1 e.2).getD 8
  (parN s bHLTH 0 Par.hlRotMask).testBit k && !unitRetired s e.1 e.2
    && (match k with
        | 4 => bankState s e.2 == 0
        | 5 => lkpSpare s (lkpTable e.2) != e.2
        | 6 => e.2 != s.keep.pair
        | 7 => isolated s e.1 e.2
        | _ => true)

/-- The unit of the next step, and where the sequence then stands: a bank with too many corrected errors first. -/
def nextRot (s : State) : Option ((Nat × Nat) × State) :=
  match s.hlth.rotFirst.find? (fun k => (unitClass (k / 65536) (k % 65536)).any (fun c => spareBit s c)) with
  | some k => some ((k / 65536, k % 65536), modHlth (fun x => { x with rotFirst := x.rotFirst.erase k }) s)
  | none =>
    if parN s bHLTH 0 Par.hlRotEn = 0 then none
    else
      let all := rotUnits.zipIdx
      match ((all.drop s.hlth.rotAt) ++ (all.take s.hlth.rotAt)).find? (fun e => rotTakes s e.1) with
      | none => none
      | some e => some (e.1, modHlth (fun x => { x with rotAt := (e.2 + 1) % rotUnits.length }) s)

/-- Why a step is skipped (R399): 1 block not in RUN, 2 no spare, 3 no word lock, 4 block occupied. -/
def rotSkip (s : State) (b u : Nat) : Option Nat :=
  let k := (unitClass b u).getD 8
  if !blkRun s b then some 1
  else if k < 7 ∧ k ≠ 0 ∧ k ≠ 6 ∧ !spareBit s k then some 2
  else if k = 0 ∧ (lane s (4 * (b - 0x10) + u)).retired.isSome then some 2
  else if k = 0 ∧ !(lane s (4 * (b - 0x10) + u)).wordLock then some 3
  else if (s.hlth.bist.find b).isSome then some 4
  else none

/-- ROTATION_STEP (R399): the unit is isolated and tested, or the step is skipped. -/
def effRotationStep (s : State) : State :=
  if !rHlth s || s.boot.phase != .started || !s.boot.bootOk || s.hlth.rot.isSome then s
  else match nextRot s with
    | none => s
    | some ((b, u), s) =>
      let skip := fun (r : Nat) => report bHLTH 0x05 [w32 b, w32 u, w32 r] s
      match rotSkip s b u with
      | some r => skip r
      | none =>
        let s1 := modHlth (fun x => { x with rot := some (b, u), testBlock := b, testUnit := u, testSlice := 0, testSlices := 0 }) s
        let s1 := report bHLTH 0x05 [w32 b, w32 u, 0] s1
        let k := (unitClass b u).getD 8
        if k = 6 ∨ k = 7 then rotSwapped b u s1
        else
          let r := startSwap b u 2 s1
          if r.1 = stOk then r.2 else skip 4

/-! ## Wear (R400 to R402) -/

/-- WEAR_MEASUREMENT (R400). -/
def effWearMeasurement (site ppm : Nat) (s : State) : State :=
  if !rHlth s || 32 ≤ site then s
  else
    let s := if s.hlth.life.ageWorst < ppm then
      modHlth (fun x => { x with life := { x.life with ageWorst := min ppm (2 ^ 24 - 1), ageSite := site } }) s else s
    if parN s bHLTH 0 Par.hlAgeWarn < ppm ∧ !s.hlth.ageWarned.contains site then
      logEntry 7 bHLTH site (bytesBE 4 ppm)
        (raise bHLTH 3 (modHlth (fun x => { x with ageWarned := x.ageWarned ++ [site] }) s))
    else s

/-- TJ_SAMPLE (R401): one minute in its bin of 10 °C. -/
def effTjSample (temp : Int) (s : State) : State :=
  if !rHlth s then s
  else
    let bin := (min 15 (max 0 ((temp + 40) / 10))).toNat
    modHlth (fun x => { x with life := { x.life with
      tjHist := x.life.tjHist.set bin (x.life.tjHist.get 0 bin + 1), tjSum := x.life.tjSum + temp,
      tjCount := x.life.tjCount + 1 } }) s

/-- TJ_AVG in 0.1 °C. -/
def tjAvg (s : State) : Int := roundDiv (10 * s.hlth.life.tjSum) s.hlth.life.tjCount

/-- The days until the line fitted by least squares to daily means, the newest first, reaches `warn`; 65,535 where the
line does not fall (R402).  With means y of age i, n × Σiy - Σi × Σy over n × Σii - (Σi)² is the fall a day.  The days are
rounded up (DESIGN CHOICE, log 40). -/
def trendDays (warn : Nat) (means : List Nat) : Nat :=
  let n : Int := means.length
  let sum := fun (f : Nat × Nat → Nat) => (((means.zipIdx).map f).foldl (· + ·) 0 : Int)
  let si := sum (fun e => e.2)
  let sy := sum (fun e => e.1)
  let fall := n * sum (fun e => e.2 * e.1) - si * sy
  let det := n * sum (fun e => e.2 * e.2) - si * si
  if fall ≤ 0 then 65535
  else (min 65535 (max 0 (-((warn * n * det + fall * si - sy * det) / (n * fall))))).toNat

/-- The projected days of lane `l`: those of its active slice (R402). -/
def fomProjected (s : State) (l : Nat) : Nat :=
  trendDays (parN s (bQ (l / 4)) (l % 4) Par.lnFomWarn)
    ((s.hlth.fomMeans.get [] (2 * l + (lane s l).slice)).map (·.1))

/-- FOM_DAILY_FIT (R402): the day's mean and minimum of a slice; the projected days of the active one. -/
def effFomDailyFit (l slice mean low : Nat) (s : State) : State :=
  if !rHlth s || 64 ≤ l || 2 ≤ slice then s
  else
    let key := 2 * l + slice
    let s := modHlth (fun x => { x with fomMeans := x.fomMeans.set key (((mean, low) :: x.fomMeans.get [] key).take 30) }) s
    if slice ≠ (lane s l).slice then s
    else
      let d := fomProjected s l
      let s := modHlth (fun x => { x with fomDays := x.fomDays.set l d }) s
      if parN s bHLTH 0 Par.hlTrendHorizon ≤ d then modHlth (fun x => { x with fomTold := x.fomTold.erase l }) s
      else if s.hlth.fomTold.contains l then s
      else
        logEntry 7 bHLTH l (bytesBE 2 l ++ bytesBE 2 d)
          (raise bHLTH 4 (modHlth (fun x => { x with fomTold := x.fomTold ++ [l] }) s))

/-! ## Service record (R404, Table HL-3) -/

/-- The record's flash region. -/
abbrev recordBase : Nat := 0x460000

/-- The summary's bytes before its CRC.  The spec lists the content; the layout is the model's. -/
def summaryBody (s : State) (seq : Nat) : List Byte :=
  let f := s.hlth.life
  bytesBE 4 seq ++ bytesBE 4 (pohNow s) ++ bytesBE 4 f.cycles ++ bytesBE 4 f.chipResets ++ bytesBE 4 f.bootOks
    ++ (List.range 16).flatMap (fun i => bytesBE 4 (f.tjHist.get 0 i / 60))
    ++ bytesBE 4 (wrapN 32 (tjAvg s)) ++ bytesBE 4 f.ageWorst ++ bytesBE 1 f.ageSite
    ++ (List.range 8).flatMap (fun k => bytesBE 2 (sparesOf s k))
    ++ (List.range 8).flatMap (fun k =>
        bytesBE 2 (f.retired.filter (fun e => unitClass (e.1 / 65536) (e.1 % 65536) == some k)).length)
    ++ bytesBE 4 f.logLost ++ bytesBE 4 ((f.logNext + 24575) % 24576)

/-- The live summary with its CRC-32C. -/
def summaryBytes (s : State) (seq : Nat) : List Byte :=
  let b := summaryBody s seq
  b ++ bytesBE 4 (crc32c b)

/-- SUMMARY_WRITE (R404): the two halves in turn. -/
def effSummaryWrite (good : Bool) (s : State) : State :=
  if !good || !s.boot.flashOk then recordFails s
  else
    let seq := s.hlth.sumSeq + 1
    let life := { s.hlth.life with poh := pohNow s }
    let s := { s with flash := Memory.writeAll s.flash (recordBase + seq % 2 * 0x8000) (summaryBytes s seq) }
    modHlth (fun x => { x with sumSeq := seq % 2 ^ 32, sumDue := false, recordOk := true, flashBad := false,
                               saved := { life with poh := life.poh } }) s

/-- A sector of 4 KiB is erased. -/
def eraseSector (a : Nat) (m : List Host.Cell) : List Host.Cell := m.filter (fun c => c.1 / 4096 ≠ a / 4096)

/-- LOG_APPEND (R404): the oldest waiting entry is written; on entering a sector the one ahead is erased. -/
def effLogAppend (good : Bool) (s : State) : State :=
  match s.hlth.logWait with
  | [] => s
  | e :: rest =>
    if !good || !s.boot.flashOk then recordFails s
    else
      let n := s.hlth.life.logNext
      let at_ := recordBase + 0x40000 + 32 * n
      let ahead := recordBase + 0x40000 + 32 * ((n + 128) % 24576)
      let m := if n % 128 = 0 then eraseSector ahead s.flash else s.flash
      let s := { s with flash := Memory.writeAll m at_ e }
      modHlth (fun x => { x with
        logWait := rest, recordOk := true, flashBad := false, life := { x.life with logNext := (n + 1) % 24576 } }) s

/-- The lowest FOM_DAYS of the lanes. -/
def lowestDays (s : State) : Nat := s.hlth.fomDays.foldl (fun a e => min a e.2) 65535

/-- TREND_RECORD_WRITE (R404): a record of 64 bytes, and WEAR_REPORT. -/
def effTrendRecordWrite (s : State) : State :=
  if !rHlth s then s
  else if !s.boot.flashOk then recordFails s
  else
    let n := s.hlth.life.trendNext
    let r := bytesBE 4 (pohNow s) ++ bytesBE 4 s.hlth.life.ageWorst ++ bytesBE 4 (wrapN 32 (tjAvg s)) ++ bytesBE 4 (lowestDays s)
      ++ List.replicate 48 0
    let s := { s with flash := Memory.writeAll s.flash (recordBase + 0x10000 + 64 * n) r }
    let s := modHlth (fun x => { x with recordOk := true, life := { x.life with trendNext := (n + 1) % 1024 } }) s
    report bHLTH 0x06 [w32 s.hlth.life.ageWorst, w32 (wrapN 32 (tjAvg s)), w32 (lowestDays s)] s

/-- SERVICE_RECORD_READ (R406): bytes, or entries of the log; region 0 is the live summary. -/
def bodyServiceRecordRead (h : CmdHdr) (region start n : Nat) (s : State) : Resp :=
  let live := summaryBytes s s.hlth.sumSeq
  let size := match region with
    | 0 => live.length
    | 1 => 0x10000
    | 2 => 0x20000
    | _ => 24576
  if 3 < region ∨ size ≤ start then refuse stOutOfRange s
  else if !hlthServes s then refuse stNotReady s
  else
    let unit := if region = 3 then 32 else 1
    let k := min (min n (size - start)) (min (2048 / unit) (roomFor h 1 * 4 / unit))
    let bytes := match region with
      | 0 => (live.drop start).take k
      | 1 => Memory.readAll s.flash (recordBase + 0x10000 + start) k
      | 2 => Memory.readAll s.flash (recordBase + 0x20000 + start) k
      | _ => Memory.readAll s.flash (recordBase + 0x40000 + 32 * start) (32 * k)
    okWith (w32 k :: bytesWords bytes) s

/-! ## The Keeper's lockstep (R388) -/

/-- LOCKSTEP_MISMATCH: the spare pair takes over, the command executing completes with INTERNAL, and the failed pair is
tested; without a tested spare NO_SPARE_PAIR is raised. -/
def effLockstepMismatch (s : State) : State :=
  let s := raise bKEEP 0 s
  if !s.keep.spareReady ∨ s.keep.spareRetired then raise bKEEP 1 s
  else
    let old := s.keep.pair
    let s := match s.keep.bulk with
      | [] => s
      | a :: r => commandDone a.hdr a.opcode stInternal { s with keep := { s.keep with bulk := r } }
    let s := pairSwap 5 s
    if (s.hlth.bist.find bKEEP).isSome then s
    else (match govRequest (.bistSlice bKEEP) (testBegun bKEEP old false s) with
      | (.queued, s) => s
      | (_, _) => s)

/-- After a reset, units retired in the service record stay retired. -/
def applyRetired (s : State) : State :=
  let gone := (s.hlth.life.retired.filter (fun e => e.2)).map (·.1)
  let banks := (gone.filter (fun k => k / 65536 = bBUF)).map (· % 65536)
  let s := modBuf (fun b => { b with
    banks := banks.foldl (fun m i => m.set i 4)
      ((List.range (min banks.length 16)).foldl (fun m i => m.set (256 + i) 0) b.banks)
    sparesLost := banks.length - 16 }) s
  gone.foldl (fun s k =>
    let b := k / 65536
    let u := k % 65536
    match unitClass b u with
    | some 0 => modLane (4 * (b - 0x10) + u) (fun x => { x with retired := some 1 }) s
    | some 2 => if 0x20 ≤ u then modClk (fun c => { c with dllRetired := setBit c.dllRetired (u - 0x20) }) s else s
    | some 6 => { s with keep := { s.keep with spareRetired := true, spareReady := false, pair := 1 - u } }
    | _ => s) s

end Sys2Proof.Machine
end

