-- ==== Sys2Proof/Machine/Views.lean ====
section
/-! DEFINITION. What the read-only parameters show (R12, R317, R446): one view per parameter whose Range is a dash. -/

namespace Sys2Proof.Machine

/-- Seconds since Guhild was last in LOCKED (HOLDOVER_TIME); 0 in LOCKED and before the first. -/
def holdoverSecs (s : State) : Nat :=
  if s.guh.state = .locked ∨ s.guh.leftLocked = 0 then 0 else (s.ticks - s.guh.leftLocked) / 625000000

/-- DISPUTE_STATE of selector `i`: 0 none, 1 testing, 2 DISPUTED. -/
def disputeState (s : State) (i : Nat) : Nat :=
  let d := (selOf s i).disputes
  if d.any (fun e => e.2.disputed) then 2 else if d.any (fun e => e.2.beyond != 0) then 1 else 0

/-- KEEP. -/
def viewKeep (s : State) (i n : Nat) : Int :=
  if n = Par.efCmdDiscarded then s.keep.cmdDiscarded
  else if n = Par.efEvtLost then s.keep.evtLost
  else if n = Par.efKeyState then (keySlot s (i - 0x10)).perm
  else (s.aon.floors.get 0 (i - 0x10) : Nat)

/-- CSYN. -/
def viewCsyn (s : State) (i n : Nat) : Int :=
  if n = Par.ckTimeServing then s.clk.timeServing
  else if n = Par.ckCoreSource then s.clk.coreSource
  else if n = Par.ckOscDiff then s.clk.oscDiff
  else (clkOut s i).pending

/-- REFS. -/
def viewRefs (s : State) (i n : Nat) : Int :=
  if n = Par.rfCandState then (cand s i).state.code
  else if n = Par.rfQlEffective then candQl s i
  else if n = Par.rfFreqMeas then (cand s i).freq
  else if n = Par.rfPhaseMeas then (cand s i).phase
  else if n = Par.rfMooringFreq then holdoverFreq s
  else if n = Par.rfSelected then (selOf s (i - 0xF0)).sel
  else disputeState s (i - 0xF0)

/-- GUH. -/
def viewGuh (s : State) (n : Nat) : Int :=
  if n = Par.gtState then s.guh.state.code
  else if n = Par.gtPhaseError then s.guh.phaseErr
  else if n = Par.gtFreqOffset then dpllNow s 0
  else if n = Par.gtRefusedDiff then s.guh.refusedDiff
  else holdoverSecs s

/-- SEG_DUP_LOW. -/
def segDupLow (h : Shaft) : Nat := h.low % 65536 * 65536 + h.dup % 65536

/-- SHAFT. -/
def viewShaft (s : State) (i n : Nat) : Int :=
  let h := shaft s i
  if n = Par.shGearSrc then (h.gear.map (fun g => (g.src : Int))).getD 0
  else if n = Par.shGearNum then (h.gear.map (·.num)).getD 0
  else if n = Par.shGearDen then (h.gear.map (fun g => (g.den : Int))).getD 0
  else if n = Par.shGearOffset then (h.gear.map (·.offset)).getD 0
  else if n = Par.shShaftState then (shaftState s i).code
  else if n = Par.shSegQueued then h.segs.length
  else if n = Par.shClaimHeld then h.claim
  else if n = Par.shLastDiscont then h.discont
  else if n = Par.shSegRejected then h.rejected
  else if n = Par.shSegDupLow then segDupLow h
  else if n = Par.shSlotsUsed then s.shaft.slots.length
  else s.shaft.tq.length

/-- CH_OWNER: 0 free, 1 user measurement, 2 encoder. -/
def chOwner (s : State) (c : Nat) : Nat := if encHolds s c then 2 else if (measOf s c).isSome then 1 else 0

/-- TIC. -/
def viewTic (s : State) (i n : Nat) : Int :=
  if n = Par.tcChOwner then chOwner s i
  else if n = Par.tcFifoLevel then (ticCh s i).fifo.length
  else if n = Par.tcDropCount then (ticCh s i).dropped
  else if n = Par.tcStartIgnored then (if i = 24 then ((ticCh s i).ignored : Int) else 0)
  else if n = Par.tcFreqLast then (ticCh s i).freqLast
  else if n = Par.tcInterp then servingUnit s i
  else if n = Par.tcEncPosition then (encOf s (i - 0x40)).pos
  else (encOf s (i - 0x40)).quadErr

/-- PAIR. -/
def viewPair (s : State) (n : Nat) : Int :=
  if n = Par.prRoleState then ((s.pair.state.map PairRole.code).getD 0 : Nat)
  else if n = Par.prEpoch then s.pair.epoch
  else if n = Par.prClaim then ownClaim s
  else if n = Par.prPartnerClaim then heardClaim s
  else s.pair.hbDevice

/-- LKP. -/
def viewLkp (s : State) (n : Nat) : Int :=
  if n = Par.lkPinned then pinnedCount s
  else if n = Par.lkCached then s.core.cache.length
  else if n = Par.lkFdbUsed then s.core.fdb.length
  else s.core.streams.foldl (fun a e => a + popCount 4 e.units) 0

/-- BUF. -/
def viewBuf (s : State) (n : Nat) : Int :=
  if n = Par.bfPoolTotal then poolTotal s
  else if n = Par.bfPoolShared then poolShared s
  else if n = Par.bfPoolFree then poolFree s
  else if n = Par.bfOrphans then s.buf.orphans
  else if n = Par.bfDemoted then s.buf.demoted
  else s.buf.cap.wr

/-- Slots with MODE ≠ 0. -/
def slotsUsed (s : State) : Nat := (s.sched.slots.filter (fun e => e.2.args.mode != 0)).length

/-- SCHED. -/
def viewSched (s : State) (n : Nat) : Int :=
  if n = Par.scSlotsUsed then slotsUsed s
  else (s.sched.ports.filter (fun e => e.2.state == 2)).length

/-- TRACE. -/
def viewTrace (s : State) (n : Nat) : Int :=
  if n = Par.ctTraceWr then s.trace.ring.wr
  else if n = Par.ctTraceLost then s.trace.ring.lost
  else s.trace.tagged

/-- HLTH; FOM_DAYS before the first fit is the largest value (DESIGN CHOICE). -/
def viewHlth (s : State) (i n : Nat) : Int :=
  if n = Par.hlPoh then pohNow s
  else if n = Par.hlTjAvg then tjAvg s
  else if n = Par.hlAgeWorst then s.hlth.life.ageWorst
  else if n = Par.hlLogLost then s.hlth.life.logLost
  else ((s.hlth.fomDays.get 65535 i : Nat) : Int)

/-- A quad. -/
def viewQuad (s : State) (q i n : Nat) : Int :=
  let l := lane s (4 * q + i)
  if n = Par.lnTemp then (quad s q).temp
  else if n = Par.lnFom then l.fom
  else if n = Par.lnTxLatency then l.txLat
  else if n = Par.lnRxLatency then l.rxLat
  else l.slice

/-- A port; the link and measurement parameters of a kind read as for a link in DOWN outside its lane modes (R446). -/
def viewPort (s : State) (p i n : Nat) : Int :=
  let tr := isTrunk s p
  if n = Par.dfLinkState then (if tr then ((trunk s p).link.code : Int) else 0)
  else if n = Par.epLinkState then (if isEdge s p then ((edge s p).link.code : Int) else 0)
  else if n = Par.epQlRx then (if isEdge s p then ((edge s p).qlRx : Int) else 0xFF)
  else if n = Par.gxMeanDelay then (if tr then (trunk s p).time.meanDelay else 0)
  else if n = Par.gxAsymmetry then (if tr then (trunk s p).time.asym else 0)
  else if n = Par.gxOffset then (if tr then (trunk s p).time.offset else 0)
  else if n = Par.bpHeadroomReq then (if losslessEdge s p i then (headroomReq s p i : Int) else 0)
  else if n = Par.bpCreditReq then (if tr && credited s p i then (creditReq s p : Int) else 0)
  else if n = Par.sdGclState then (portSched s p).state
  else if n = Par.sdGclEntry then (portSched s p).entry
  else cbsNow s p i / 65536

/-- What a read-only parameter shows. -/
def roValue (s : State) (b i n : Nat) : Int :=
  if isPortB b then viewPort s (b - 0x20) i n
  else if isQuadB b then viewQuad s (b - 0x10) i n
  else match b with
  | 0x00 => viewKeep s i n
  | 0x04 => viewCsyn s i n
  | 0x05 => viewRefs s i n
  | 0x06 => viewGuh s n
  | 0x07 => viewShaft s i n
  | 0x08 => viewTic s i n
  | 0x09 => viewPair s n
  | 0x0B => viewLkp s n
  | 0x0C => viewBuf s n
  | 0x0D => viewSched s n
  | 0x0E => viewTrace s n
  | 0x0F => viewHlth s i n
  | _ => 0

/-- The value PARAM_GET returns: the value in effect, the view of a read-only parameter, and for the two ring read
indices the index as reads and commands have left it (R272, R415). -/
def paramValue (s : State) (r : PRow) (b i n : Nat) : Int :=
  if r.cls = .ro then roValue s b i n
  else if b = bBUF ∧ n = Par.bfCapRd then s.buf.cap.rd
  else if b = bTRACE ∧ n = Par.ctTraceRd then s.trace.ring.rd
  else par s b i n

end Sys2Proof.Machine
end

