-- ==== Sys2Proof/Machine/Regs.lean ====
section
/-! DEFINITION. The register space (chapter 15): where each register lies, its width, and what it reads.  A register is
given by its offset; a 64-bit register has its low word at the lower offset (R7). -/

namespace Sys2Proof.Machine

/-- A register: its width in bits and its value. -/
abbrev Reg := Nat × Nat

/-- A 32-bit register. -/
def r32 (v : Nat) : Option Reg := some (32, v % 2 ^ 32)
/-- A 64-bit register. -/
def r64 (v : Nat) : Option Reg := some (64, v % 2 ^ 64)

/-- The base of a block's window (R14, R347). -/
def winBase (b : Nat) : Nat := 0x10000 + b * 0x1000

/-- BLK_STATE STATE as read: OFF in Standby Light mode but for four windows (R350), and OFF for the ports of a 100G
quad that have no lane of their own (R26). -/
def stateView (s : State) (b : Nat) : BlkState :=
  if s.boot.phase = .standbyLight ∧ b ≠ bKEEP ∧ b ≠ bBOOT ∧ b ≠ bHOST ∧ b ≠ bHLTH then .off
  else if isPortB b ∧ (b - 0x20) % 4 ≠ 0 ∧ (lane s (b - 0x20)).mode = 5 then .off
  else (hdr s b).state

/-! ## Global registers (Table RG-2) -/

/-- READY_2 and READY_3: the UP bits of 32 ports. -/
def readyLinks (s : State) (p0 : Nat) : Nat := packBits 32 (fun i => portUp s (p0 + i))

/-- The copy of the calibration store in use: 0 none valid, 1 copy 0, 2 copy 1 (R368). -/
def calCopy (s : State) : Nat :=
  if !s.boot.calRead then 0 else if s.boot.cal0 then 1 else if s.boot.cal1 then 2 else 0

/-- BOOT_STATUS. -/
def bootStatus (s : State) : Nat :=
  let b := s.boot
  b2n b.bootOk * 2 ^ 31 + b2n (b.phase == .standbyLight) * 2 ^ 30 + b.image * 2 ^ 28 + calCopy s * 2 ^ 26
    + b.straps.bootSrc % 4 * 2 ^ 24 + b2n b.straps.testMode * 2 ^ 23 + b2n b.straps.spiMode * 2 ^ 22
    + min b.attempts 15 * 2 ^ 16 + b.cause % 256 * 2 ^ 8 + b.script % 16 * 2 ^ 4

/-- TIME_SNAP_CTRL. -/
def snapCtrl (s : State) : Nat :=
  let t := s.snap
  t.seq % 256 * 2 ^ 24 + t.gstate * 2 ^ 21 + b2n t.invalid * 2 ^ 20 + b2n t.stepped * 2 ^ 19

/-- ISO_STATUS. -/
def isoStatus (s : State) : Nat :=
  let i := s.iso
  b2n i.running * 2 ^ 31 + b2n i.level * 2 ^ 30 + b2n i.slow * 2 ^ 29 + i.stopBlock % 256 * 2 ^ 16
    + i.stopIndex % 256 * 2 ^ 8 + i.cause % 4

/-- PAIR_STATUS. -/
def pairStatus (s : State) : Nat :=
  let p := s.pair
  (p.state.map PairRole.code).getD 0 * 2 ^ 29 + b2n p.grant * 2 ^ 28 + b2n p.fatal * 2 ^ 27 + b2n p.actIn * 2 ^ 26
    + b2n (actOut s) * 2 ^ 25 + b2n (!p.hb.silent) * 2 ^ 24 + b2n (!p.trunk.silent) * 2 ^ 23
    + b2n (pairPar s Par.prHoldStandby == 1) * 2 ^ 22 + ownClaim s

/-- PAIR_PARTNER. -/
def pairPartner (s : State) : Nat := heardClaim s * 2 ^ 16 + s.pair.epoch % 2 ^ 16

/-- NMI_STATUS. -/
def nmiStatus (s : State) : Nat :=
  match s.host.nmi with
  | none => s.host.nmiCount % 256
  | some (b, i) => 2 ^ 31 + b % 256 * 2 ^ 16 + i % 32 * 2 ^ 8 + s.host.nmiCount % 256

/-- INT_N_CTRL. -/
def intNCtrl (s : State) : Nat := b2n s.host.spiEvtEn * 4 + b2n s.host.spiRplEn * 2 + b2n (intNLow s)

/-- RING_CTRL. -/
def ringCtrl (s : State) : Nat :=
  let h := s.host
  b2n h.en * 2 ^ 31 + b2n (ringIdle h) * 2 ^ 30 + b2n h.err * 2 ^ 29 + h.cmdLog2 * 2 ^ 8 + h.cplLog2 * 2 ^ 4 + h.evtLog2

/-- The global registers. -/
def globalReg (s : State) (o : Nat) : Option Reg :=
  match o with
  | 0x000 => r32 0x9680FB21
  | 0x004 => r32 s.boot.fwVersion
  | 0x008 => r64 s.boot.serial
  | 0x010 => r32 (ready0 s)
  | 0x014 => r32 (ready1 s)
  | 0x018 => r32 (readyLinks s 0)
  | 0x01C => r32 (readyLinks s 32)
  | 0x020 => r32 (bootStatus s)
  | 0x024 => r32 s.boot.scriptId
  | 0x040 => r32 (snapCtrl s)
  | 0x048 => r64 s.snap.sec
  | 0x050 => r32 s.snap.ns
  | 0x054 => r32 s.snap.frac
  | 0x058 => r64 s.snap.cycle
  | 0x070 => r32 s.iso.nextPeriod
  | 0x074 => r32 (isoStatus s)
  | 0x080 => r32 (pairStatus s)
  | 0x084 => r32 (pairPartner s)
  | 0x0A0 => r32 (nmiStatus s)
  | 0x0C0 => r32 (intPending s 0)
  | 0x0C4 => r32 (intPending s 1)
  | 0x0C8 => r32 (intPending s 2)
  | 0x0D0 => r32 (s.host.intMask.get 0 0)
  | 0x0D4 => r32 (s.host.intMask.get 0 1)
  | 0x0D8 => r32 (s.host.intMask.get 0 2)
  | 0x0DC => r32 (intNCtrl s)
  | 0x100 => r32 (ringCtrl s)
  | 0x108 => r64 s.host.cmdBase
  | 0x110 => r64 s.host.cplBase
  | 0x118 => r64 s.host.evtBase
  | 0x120 => r32 s.host.doorbell
  | 0x124 => r32 s.host.cmdHead
  | 0x128 => r32 s.host.cplTail
  | 0x12C => r32 s.host.cplHead
  | 0x130 => r32 s.host.evtTail
  | 0x134 => r32 s.host.evtHead
  | _ => none

/-! ## The standard header (Table RG-4) -/

/-- BLK_IDENT. -/
def blkIdent (b : Nat) : Nat :=
  b * 2 ^ 16 + (if isPortB b then b - 0x20 else if isQuadB b then b - 0x10 else 0) * 2 ^ 8 + 1

/-- A spare stands in for a unit of the block. -/
def spareIn (s : State) (b : Nat) : Bool :=
  (hdr s b).onSpare
    || (b == bCSYN && s.clk.outs.any (fun e => e.2.onSpare))
    || (b == bTIC && (s.tic.x0 != 0xFF || s.tic.x1 != 0xFF))
    || ((b == bBUF || b == bLKP || isQuadB b) && s.hlth.life.retired.any (fun e => e.2 && e.1 / 65536 == b))

/-- Block `b` has anything staged: parameters, gate lists of GCL_LOAD or modifications of CHANNEL_MODIFY. -/
def hasStaged (s : State) (b : Nat) : Bool :=
  s.staged.any (fun e => e.1 / 2 ^ 24 == b) || (b == bSCHED && !s.sched.staged.isEmpty)
    || (b == bLKP && !s.core.stagedMods.isEmpty)

/-- BLK_STATE. -/
def blkState (s : State) (b : Nat) : Nat :=
  b2n (commitNames s b) * 2 ^ 7 + b2n (hasStaged s b) * 2 ^ 6 + b2n (spareIn s b) * 2 ^ 5
    + (stateView s b).code

/-- FLT_FIRST. -/
def fltFirst (h : Hdr) : Nat :=
  match h.first with
  | none => 0
  | some f => 2 ^ 31 + f.reaction * 2 ^ 8 + f.index

/-- FLT_FIRST_TIME. -/
def fltFirstTime (h : Hdr) : Nat :=
  match h.first with
  | none => 0
  | some f => f.ns

/-- FLT_OVF. -/
def fltOvf (h : Hdr) : Nat := b2n h.ovf * 2 ^ 31 + h.ovfCount

/-- One counter. -/
def pcntOf (s : State) (b n : Nat) : Pcnt := (hdr s b).pcnt.get Pcnt.reset n

/-- The header registers of block `b` at window offset `o`. -/
def headerReg (s : State) (b o : Nat) : Option Reg :=
  let h := hdr s b
  let n8 := (o - 0x108) / 8
  let n4 := (o - 0x160) / 4
  let f8 := (o - 0x180) / 8
  match o with
  | 0x000 => r32 (blkIdent b)
  | 0x004 => r32 (blkState s b)
  | 0x010 => r32 h.fltStatus
  | 0x014 => r32 (fltFirst h)
  | 0x018 => r32 (fltFirstTime h)
  | 0x01C => r32 (fltOvf h)
  | 0x020 => r32 h.intStatus
  | 0x024 => r32 h.intEnable
  | 0x030 => r32 h.causeActive
  | 0x100 => r64 s.cycle
  | 0x1C0 => r32 h.pcntOvf
  | _ =>
    if 0x108 ≤ o ∧ o < 0x148 ∧ o % 8 = 0 ∧ n8 < pcntCount b then r64 (pcntOf s b n8).count
    else if 0x160 ≤ o ∧ o < 0x180 ∧ o % 4 = 0 ∧ n4 < pcntCount b then r32 (pcntOf s b n4).sel
    else if 0x180 ≤ o ∧ o < 0x1C0 ∧ o % 8 = 0 ∧ f8 < pcntCount b then r64 (pcntOf s b f8).filt
    else none

/-! ## Block registers -/

/-- The lane registers of a quad window at +0x400. -/
def laneReg (s : State) (l o : Nat) : Option Reg :=
  let x := lane s l
  match o with
  | 0x00 => r32 (laneStatus s l)
  | 0x04 => r32 x.txLat
  | 0x08 => r32 x.rxLat
  | 0x0C => r32 (measWord x.txSeq x.txMeas)
  | 0x10 => r32 (measWord x.rxSeq x.rxMeas)
  | _ => none

/-- A quad window. -/
def quadReg (s : State) (q o : Nat) : Option Reg :=
  if o = 0x200 then r32 (quadStatus s q)
  else if 0x400 ≤ o ∧ o < 0x500 then laneReg s (4 * q + (o - 0x400) / 0x40) ((o - 0x400) % 0x40)
  else none

/-- Microseconds of hold-off remaining, counted from the last entry to TRAINED from ALIGNED. -/
def holdoffLeft (s : State) (p : Nat) : Nat :=
  let t := trunk s p
  if t.heldOff ∨ ¬(t.link = .trained ∨ t.link = .timed) then 0
  else (t.trainedAt + parN s (bP p) 0 Par.dfHoldoff * 625 - s.ticks) / 625

/-- DF_STATUS. -/
def dfStatus (s : State) (p : Nat) : Nat :=
  let t := trunk s p
  let a := t.rx.alarm
  fld a 59 57 * 2 ^ 29 + b2n (a.testBit 54) * 2 ^ 28 + b2n (a.testBit 56) * 2 ^ 27 + b2n (a.testBit 55) * 2 ^ 26
    + b2n (a.testBit 53) * 2 ^ 25 + b2n t.creditActive * 2 ^ 24 + min (holdoffLeft s p) 0xFFFF * 2 ^ 8
    + b2n t.time.timeOk * 2 ^ 3 + (if isTrunk s p then t.link.code else 0)

/-- The trunk registers of a port window. -/
def dfReg (s : State) (p o : Nat) : Option Reg :=
  let r := (trunk s p).rx
  match o with
  | 0x800 => r32 (dfStatus s p)
  | 0x804 => r32 (fld r.alarm 45 14)
  | 0x808 => r32 (fld r.alarm 51 46)
  | 0x810 => r32 r.missing
  | 0x814 => r32 r.errStuff
  | 0x818 => r32 r.errTag
  | 0x81C => r32 r.errCw
  | 0x820 => r32 r.errSignal
  | 0x824 => r32 r.errTunnel
  | _ =>
    if 0x840 ≤ o ∧ o < 0x860 ∧ o % 4 = 0 then
      let c := (o - 0x840) / 4
      r32 (wrapN 16 ((trunk s p).balance.get 0 c) * 2 ^ 16 + (trunk s p).last.get 0 c % 128)
    else none

/-- EP_STATUS. -/
def epStatus (s : State) (p : Nat) : Nat :=
  let e := edge s p
  packBits 8 (fun c => (e.paused.find c).isSome) * 2 ^ 24 + e.asserted % 256 * 2 ^ 16
    + (if ptpRole s p = 1 then e.ptp.state % 16 else 0) * 2 ^ 12 + b2n e.anDone * 2 ^ 11 + b2n e.rxFault * 2 ^ 10
    + b2n e.locFault * 2 ^ 9 + b2n e.hiBer * 2 ^ 8 + fecOf s p * 2 ^ 5 + (if isEdge s p then e.link.code else 0)

/-- The edge registers of a port window. -/
def epReg (s : State) (p o : Nat) : Option Reg :=
  let e := edge s p
  match o with
  | 0x600 => r32 (epStatus s p)
  | 0x610 => r32 e.errFcs
  | 0x614 => r32 e.errLen
  | 0x618 => r32 e.fecCorr
  | 0x61C => r32 e.fecUncorr
  | 0x620 => r32 e.pfcRx
  | 0x624 => r32 e.pfcTx
  | 0x628 => r32 e.pfcGateMiss
  | 0x62C => r32 e.ptpDrop
  | _ => none

/-- The forwarding counters of a port window. -/
def fwdReg (s : State) (p o : Nat) : Option Reg :=
  let f := s.core.fwd.get FwdCnt.reset p
  match o with
  | 0xA00 => r32 f.badIn
  | 0xA04 => r32 f.stompTx
  | 0xA08 => r32 f.abortTx
  | 0xA0C => r32 f.stompedRx
  | 0xA10 => r32 f.missDrop
  | 0xA14 => r32 f.unknown
  | 0xA18 => r32 f.express
  | 0xA1C => r32 f.late
  | 0xA20 => r32 f.vlanDrop
  | 0xA24 => r32 f.linkLocal
  | _ => none

/-- The buffer registers of a port window. -/
def bfReg (s : State) (p o : Nat) : Option Reg :=
  let n := s.buf.cnt.get BufCnt.reset p
  let c := o % 0x20 / 4
  if o % 4 ≠ 0 then none
  else if 0xC00 ≤ o ∧ o < 0xC20 then r32 (b2n (asserted s p c) * 2 ^ 31 + (inAcct s p c).use)
  else if 0xC20 ≤ o ∧ o < 0xC40 then r32 (inAcct s p c).head
  else if 0xC40 ≤ o ∧ o < 0xC60 then r32 (b2n (wdRunning s p c) * 2 ^ 31 + (outQ s p c).depth)
  else if 0xC60 ≤ o ∧ o < 0xC80 then r32 (n.flush.get 0 c)
  else match o with
  | 0xC80 => r32 n.ingress
  | 0xC84 => r32 n.egress
  | 0xC88 => r32 n.wred
  | 0xC8C => r32 n.headroom
  | 0xC90 => r32 n.nobuf
  | 0xC94 => r32 n.excess
  | _ => none

/-- SD_STATUS. -/
def sdStatus (s : State) (p : Nat) : Nat :=
  let x := portSched s p
  let e := (entryNow s p).getD 0
  gatesNow s p * 2 ^ 24 + x.state % 4 * 2 ^ 22 + b2n ((x.gcl.map (fun g => g.ref == 1)).getD false) * 2 ^ 21
    + b2n (expressOpen s p) * 2 ^ 20 + b2n (eProtect e) * 2 ^ 19 + b2n (nextLaunch s p).isSome * 2 ^ 18
    + packBits 8 (fun q => (outQ s p q).escDue) * 2 ^ 10 + x.entry % 1024

/-- The scheduler registers of a port window. -/
def sdReg (s : State) (p o : Nat) : Option Reg :=
  let x := portSched s p
  let timeList := (x.gcl.map (fun g => g.ref == 0)).getD false
  match o with
  | 0xE00 => r32 (sdStatus s p)
  | 0xE08 => r64 (if timeList then wrapN 48 x.cycle else 0)
  | 0xE10 => r32 x.overrun
  | 0xE14 => r32 x.late
  | 0xE18 => r32 x.escs
  | 0xE1C => r32 x.launchLate
  | 0xE20 => r32 x.launchMissed
  | 0xE24 => r32 x.fitWait
  | _ =>
    if 0xE40 ≤ o ∧ o < 0xE60 ∧ o % 4 = 0 then r32 (wrapN 32 (cbsNow s p ((o - 0xE40) / 4) / 65536)) else none

/-- A port window. -/
def portReg (s : State) (p o : Nat) : Option Reg :=
  if o < 0x800 then epReg s p o
  else if o < 0xA00 then dfReg s p o
  else if o < 0xC00 then fwdReg s p o
  else if o < 0xE00 then bfReg s p o
  else sdReg s p o

/-- GUH_STATUS. -/
def guhStatus (s : State) : Nat :=
  let g := s.guh
  g.state.code * 2 ^ 29 + b2n g.protect * 2 ^ 28 + b2n g.refTime * 2 ^ 27 + b2n g.freqOnly * 2 ^ 26
    + b2n (parN s bGUH 0 Par.gtLeap != 0) * 2 ^ 25 + g.timescale % 2 * 2 ^ 24 + servedQuality s % 256 * 2 ^ 16
    + g.stepCount * 2 ^ 8 + g.refId % 256

/-- GUH. -/
def guhReg (s : State) (o : Nat) : Option Reg :=
  match o with
  | 0x200 => r32 (guhStatus s)
  | 0x208 => r64 (wrapN 64 s.guh.phaseErr)
  | 0x210 => r64 (wrapN 64 s.guh.stepLast)
  | 0x220 => r64 (s.guh.cmps.foldl (fun a e => setBit a e.1) 0)
  | 0x228 => r64 s.guh.cmpStepped
  | _ => none

/-- REFS_STATUS. -/
def refsStatus (s : State) : Nat :=
  (selOf s 0).sel % 256 * 2 ^ 24 + (selOf s 1).sel % 256 * 2 ^ 16 + (selOf s 2).sel % 256 * 2 ^ 8
    + b2n (anyDisputed s) * 2 ^ 7 + b2n ((List.range 3).any (fun i => (selOf s i).force.isSome)) * 2 ^ 6
    + b2n s.refs.valid * 2 ^ 5 + b2n (tracking s 0) * 2 ^ 4 + b2n (selOf s 2).hold * 2 ^ 3 + b2n (selOf s 1).hold * 2 ^ 2
    + b2n (selOf s 0).hold * 2

/-- REFS_CAND_k for candidate `c`. -/
def candReg (s : State) (c : Nat) : Nat :=
  let x := cand s c
  candQl s c % 256 * 2 ^ 24 + candPar s c Par.rfPriority % 256 * 2 ^ 16
    + packBits 3 (fun i => (selOf s i).sel == c) * 2 ^ 13 + packBits 3 (fun i => eligible s i c) * 2 ^ 10
    + candKind s c % 8 * 2 ^ 7 + x.state.code * 2 ^ 4 + x.cause % 8

/-- REFS. -/
def refsReg (s : State) (o : Nat) : Option Reg :=
  match o with
  | 0x200 => r32 (refsStatus s)
  | 0x204 => r32 (s.refs.dispA % 256 * 2 ^ 24 + s.refs.dispB % 256 * 2 ^ 16 + s.refs.dispRef % 256 * 2 ^ 8 + s.refs.dispSel % 4)
  | 0x208 => r64 (wrapN 48 (holdoverFreq s))
  | 0x210 => r32 s.refs.ppsExtra
  | _ =>
    if 0x400 ≤ o ∧ o < 0x530 ∧ o % 4 = 0 then
      let k := (o - 0x400) / 4
      r32 (candReg s (if k < 12 then k else 0x20 + k - 12))
    else none

/-- CSYN_STATUS. -/
def csynStatus (s : State) : Nat :=
  let c := s.clk
  c.coreSource % 4 * 2 ^ 30 + c.timeServing % 2 * 2 ^ 29 + c.osc % 2 * 2 ^ 28 + b2n (csynRuns s && oscActive s 0) * 2 ^ 27
    + b2n (csynRuns s && oscActive s 1) * 2 ^ 26 + b2n c.lockA * 2 ^ 25 + b2n c.lockB * 2 ^ 24 + b2n c.coreLock * 2 ^ 23
    + b2n c.storeLock * 2 ^ 22 + b2n c.pcieLock * 2 ^ 21 + b2n c.auxLock0 * 2 ^ 20 + b2n c.auxLock1 * 2 ^ 19
    + b2n (c.clamped != 0) * 2 ^ 18 + c.ssc % 4 * 2 ^ 16
    + (c.dllBusy % 4 + c.dllRetired % 4 * 2 ^ 4) * 2 ^ 8 + packBits 8 (fun g => c.outs.any (fun e => e.2.gen == some g))

/-- PENDING saturated to 17 signed bits. -/
def pendingField (d : Int) : Nat := wrapN 17 (max (-65536) (min 65535 d))

/-- OUT_STATUS_n. -/
def outStatus (s : State) (n : Nat) : Nat :=
  let c := clkOut s n
  c.mode % 4 * 2 ^ 30 + b2n c.lost * 2 ^ 29 + b2n (c.pending != 0) * 2 ^ 28 + b2n c.onSpare * 2 ^ 27
    + (c.gen.getD 0) % 8 * 2 ^ 24 + pendingField c.pending * 2 ^ 7 + c.line % 128

/-- CSYN. -/
def csynReg (s : State) (o : Nat) : Option Reg :=
  if o = 0x200 then r32 (csynStatus s)
  else if 0x400 ≤ o ∧ o < 0x500 ∧ o % 16 = 0 then r32 (outStatus s ((o - 0x400) / 16))
  else none

/-- TIC_STATUS. -/
def ticStatus (s : State) : Nat :=
  s.tic.x0 % 256 * 2 ^ 24 + s.tic.x1 % 256 * 2 ^ 16 + b2n (unitRetired s bTIC 29) * 2 ^ 15
    + b2n (unitRetired s bTIC 30) * 2 ^ 14 + b2n (rBootCal s) * 2 ^ 13 + b2n s.tic.swap.isSome * 2 ^ 12
    + packBits 8 (fun e => (encOf s e).on)

/-- TIC. -/
def ticReg (s : State) (o : Nat) : Option Reg :=
  let d := fun k => (s.tic.latch.getD k 0).toNat
  match o with
  | 0x200 => r32 (ticStatus s)
  | 0x210 => r32 s.tic.sel
  | 0x214 => r32 (ticData0 s).1
  | 0x218 => r32 (d 1)
  | 0x21C => r32 (d 2)
  | 0x220 => r32 (d 3)
  | 0x224 => r32 (min (ticCh s s.tic.sel).dropped 0xFFFF * 2 ^ 16 + (ticCh s s.tic.sel).fifo.length)
  | _ => none

/-- SHAFT_STATE_n. -/
def shaftStateReg (s : State) (n : Nat) : Nat :=
  let h := shaft s n
  (shaftState s n).code * 2 ^ 29 + (if isMirror s n then 5 else h.source % 8) * 2 ^ 26 + h.segs.length % 32 * 2 ^ 21
    + b2n h.pend.isSome * 2 ^ 20 + b2n ((h.force.map (fun g => g.flags.testBit 1)).getD false) * 2 ^ 19 + h.claim % 2 ^ 16

/-- SHAFT. -/
def shaftReg (s : State) (o : Nat) : Option Reg :=
  let b := s.shaft
  match o with
  | 0x200 => r32 (b.slots.length % 2 ^ 14 * 2 ^ 18 + b.tq.length % 2 ^ 13 * 2 ^ 5 + b2n (govWaiting s .plannerBurst) * 2 ^ 4
                    + b2n b.overload * 2 ^ 3)
  | 0x210 => r32 (b2n b.snapValid * 2 ^ 31 + b.snapSel % 64)
  | 0x218 => r64 b.snapTime
  | 0x220 => r64 b.snapAngle
  | 0x228 => r64 b.snapSpeed
  | 0x300 => r32 (min b.recLost 0xFFFF * 2 ^ 16 + b.recs.length % 2 ^ 12)
  | _ => if 0x400 ≤ o ∧ o < 0x500 ∧ o % 4 = 0 then r32 (shaftStateReg s ((o - 0x400) / 4)) else none

/-- PAIR_PATHS: the age of a path in µs, saturating; all ones where nothing was heard. -/
def pathAge (s : State) (h : HbPath) : Nat :=
  match h.at_ with
  | none => 0xFFFF
  | some t => min ((s.ticks - t) / 625) 0xFFFF

/-- PAIR_PARTNER_INFO. -/
def partnerInfo (s : State) : Nat :=
  let p := s.pair
  let x := if newerEpoch p.trunk.epoch p.hb.epoch then p.trunk else p.hb
  partnerEpoch s % 2 ^ 16 * 2 ^ 16 + x.role % 4 * 2 ^ 14 + b2n x.fatal * 2 ^ 13 + b2n (p.hbBits.testBit 3) * 2 ^ 12
    + p.lastId % 256

/-- PAIR. -/
def pairReg (s : State) (o : Nat) : Option Reg :=
  match o with
  | 0x200 => r32 (pairStatus s)
  | 0x204 => r32 (pairPartner s)
  | 0x208 => r32 (pathAge s s.pair.hb * 2 ^ 16 + pathAge s s.pair.trunk)
  | 0x20C => r32 (partnerInfo s)
  | _ => none

/-- CORE_STATUS. -/
def coreStatus (s : State) : Nat :=
  packBits 4 (fun k => s.core.missQ.any (fun m => ((frameOf s m.frame).map (fun f => pipeOf f.inPort == k)).getD false)) * 2 ^ 28
    + s.core.bookings.length % 2 ^ 13 * 2 ^ 15

/-- LKP. -/
def lkpReg (s : State) (o : Nat) : Option Reg :=
  match o with
  | 0x200 => r32 (pinnedCount s % 2 ^ 12 * 2 ^ 20 + s.core.cache.length % 2 ^ 13 * 2 ^ 7
                    + b2n (!s.core.loads.isEmpty) * 2 ^ 6 + b2n (govWaiting s .tableLoad) * 2 ^ 5)
  | 0x210 => r32 s.core.hits
  | 0x214 => r32 s.core.misses
  | _ => none

/-- BUF_STATUS. -/
def bufStatus (s : State) : Nat :=
  let b := s.buf
  b.demoted % 256 * 2 ^ 24 + b.drain.getD 0x1FF % 512 * 2 ^ 15 + b2n b.drain.isSome * 2 ^ 14
    + b2n (govGranted s .bankScrub) * 2 ^ 13 + b2n b.scrubWait * 2 ^ 12 + sparesOf s 4 % 32 * 2 ^ 7 + min b.sparesLost 127

/-- BUF. -/
def bufReg (s : State) (o : Nat) : Option Reg :=
  match o with
  | 0x200 => r32 (bufStatus s)
  | 0x204 => r32 (poolTotal s)
  | 0x208 => r32 (poolFree s)
  | 0x20C => r32 (poolShared s)
  | 0x210 => r32 s.buf.orphans
  | 0x220 => r32 s.buf.cap.wr
  | 0x224 => r32 s.buf.cap.rd
  | 0x228 => r32 s.buf.cap.lost
  | 0x22C => r32 s.buf.skipped
  | _ => none

/-- SCHED_STATUS. -/
def schedStatus (s : State) : Nat :=
  slotsUsed s % 2 ^ 11 * 2 ^ 21 + packBits 4 (fun k => (s.guh.cmps.find (16 + k)).isSome) * 2 ^ 17
    + min ((s.core.chans.filter (fun e => e.2.valid && (decide (0 < e.2.hrCount)
        || s.sched.slots.any (fun x => x.2.committed && (repeatChan s x.1).any (fun c => c.1 == e.1))))).length) 1023 * 2 ^ 7

/-- HLTH_STATUS. -/
def hlthStatus (s : State) : Nat :=
  let h := s.hlth
  min h.gov.queue.length 127 * 2 ^ 25 + min h.gov.grants.length 31 * 2 ^ 20
    + b2n (h.gov.queue.any (·.starved)) * 2 ^ 19 + b2n (!h.bist.isEmpty) * 2 ^ 18 + b2n h.rot.isSome * 2 ^ 17
    + b2n h.recordOk * 2 ^ 16 + h.testBlock % 256 * 2 ^ 8 + packBits 8 (spareBit s)

/-- HLTH. -/
def hlthReg (s : State) (o : Nat) : Option Reg :=
  match o with
  | 0x200 => r32 (hlthStatus s)
  | 0x204 => r32 (s.hlth.testUnit % 2 ^ 10 * 2 ^ 22 + s.hlth.testSlice % 2 ^ 11 * 2 ^ 11 + s.hlth.testSlices % 2 ^ 11)
  | 0x208 => r32 (coreInUse s % 2 ^ 16 * 2 ^ 16 + timeInUse s % 2 ^ 16)
  | 0x20C => r32 (s.hlth.life.ageSite % 32 * 2 ^ 24 + s.hlth.life.ageWorst % 2 ^ 24)
  | _ => none

/-- TRACE. -/
def traceReg (s : State) (o : Nat) : Option Reg :=
  let r := s.trace.ring
  match o with
  | 0x200 => r32 (parN s bTRACE 0 Par.ctTraceEn % 2 * 2 ^ 31 + parN s bTRACE 0 Par.ctTagEn % 2 * 2 ^ 30
                    + parN s bTRACE 0 Par.ctTagLog2 % 32 * 2 ^ 25 + b2n (r.full (parN s bTRACE 0 Par.ctTraceRecords)) * 2 ^ 24)
  | 0x204 => r32 r.wr
  | 0x208 => r32 r.rd
  | 0x20C => r32 r.lost
  | 0x210 => r32 s.trace.tagged
  | _ => none

/-- BOOT_FLASH. -/
def bootFlash (s : State) : Nat :=
  let b := s.boot
  s.aon.preferred % 4 * 2 ^ 30 + b2n b.aValid * 2 ^ 29 + b2n b.bValid * 2 ^ 28 + b2n b.aonValid * 2 ^ 27
    + b2n b.fallback * 2 ^ 26 + b2n (b.straps.bootSrc == 1) * 2 ^ 25 + b2n b.flashOk * 2 ^ 24 + b2n (b.calRead && b.cal0) * 2 ^ 23
    + b2n (b.calRead && b.cal1) * 2 ^ 22

/-- BOOT. -/
def bootReg (s : State) (o : Nat) : Option Reg :=
  match o with
  | 0x200 => r32 (bootFlash s)
  | 0x204 => r32 (min s.boot.tKeep 0xFFFF * 2 ^ 16 + min s.boot.tBootOk 0xFFFF)
  | _ => none

/-- KEEP_STATUS. -/
def keepStatus (s : State) : Nat :=
  let k := s.keep
  k.pair % 2 * 2 ^ 31 + b2n k.spareReady * 2 ^ 30 + b2n k.spareRetired * 2 ^ 29 + b2n k.wdExpired * 2 ^ 28
    + min k.waiting.length 255 * 2 ^ 16 + min k.sramCorr 0xFFFF

/-- KEEP. -/
def keepReg (s : State) (o : Nat) : Option Reg :=
  match o with
  | 0x200 => r32 (keepStatus s)
  | 0x210 => r32 ((s.aon.lastFault.map (fun f => 2 ^ 31 + f.1 % 256 * 2 ^ 16 + f.2.1 % 32 * 2 ^ 8)).getD 0)
  | 0x214 => r32 ((s.aon.lastFault.map (fun f => f.2.2)).getD 0)
  | _ => none

/-- A command waits on SPI. -/
def spiWaiting (s : State) : Nat := (s.keep.waiting.filter (fun w => w.hdr.origin == .spi)).length

/-- HOST_STATUS. -/
def hostStatus (s : State) : Nat :=
  let h := s.host
  b2n h.pcieUp * 2 ^ 31 + h.gen % 8 * 2 ^ 28 + h.width % 8 * 2 ^ 25 + min (spiWaiting s) 4 * 2 ^ 12
    + min h.spiEvents.length 64 * 2 ^ 5

/-- STORE_STATUS. -/
def storeStatus (s : State) : Nat :=
  b2n s.storeTrained * 2 ^ 31 + s.storeSize % 8 * 2 ^ 28 + min s.storeRetrains 255 * 2 ^ 16 + min s.eccCorr 0xFFFF

/-- A block's own registers, from +0x200 on. -/
def blockReg (s : State) (b o : Nat) : Option Reg :=
  if isPortB b then portReg s (b - 0x20) o
  else if isQuadB b then quadReg s (b - 0x10) o
  else match b with
  | 0x00 => keepReg s o
  | 0x01 => bootReg s o
  | 0x02 => if o = 0x200 then r32 (hostStatus s) else none
  | 0x03 => if o = 0x200 then r32 (storeStatus s) else none
  | 0x04 => csynReg s o
  | 0x05 => refsReg s o
  | 0x06 => guhReg s o
  | 0x07 => shaftReg s o
  | 0x08 => ticReg s o
  | 0x09 => pairReg s o
  | 0x0A => if o = 0x200 then r32 (coreStatus s) else none
  | 0x0B => lkpReg s o
  | 0x0C => bufReg s o
  | 0x0D => if o = 0x200 then r32 (schedStatus s) else none
  | 0x0E => traceReg s o
  | 0x0F => hlthReg s o
  | _ => none

/-- The register that begins at BAR0 offset `off`; while a block is OFF its own registers read 0 (R350). -/
def regAt (s : State) (off : Nat) : Option Reg :=
  if off < 0x200 then globalReg s off
  else if 0x8000 ≤ off ∧ off < 0x8600 ∧ off % 4 = 0 then r32 (msixWord s ((off - 0x8000) / 4))
  else if 0x9000 ≤ off ∧ off < 0x9010 ∧ off % 8 = 0 then r64 (s.host.pba >>> (8 * (off - 0x9000)))
  else if 0x10000 ≤ off ∧ off < 0x70000 then
    let b := (off - 0x10000) / 0x1000
    let o := off % 0x1000
    if o < 0x200 then headerReg s b o
    else match blockReg s b o with
    | some r => if stateView s b = .off then some (r.1, 0) else some r
    | none => none
  else none

/-! ## Reads (R348, R349) -/

/-- Which latch a read uses: one per requester and window, one for the global region. -/
def latchKey (r : Requester) (off : Nat) : Nat :=
  (match r with | .pcie => 0 | .keeper => 0x1000) + (if off < 0x10000 then 0 else 1 + (off - 0x10000) / 0x1000)

/-- An access whose form R348 does not allow is counted by HOST. -/
def accessError (s : State) : State := raise bHOST 2 s

/-- A 32-bit read. -/
def read32 (r : Requester) (off : Nat) (s : State) : Nat × State :=
  if off = winBase bTIC + 0x214 then
    if stateView s bTIC = .off then (0, s) else ticData0 s
  else match regAt s off with
  | some (32, v) => (v, s)
  | some (_, v) => (v % 2 ^ 32, { s with host := { s.host with latch := s.host.latch.set (latchKey r off) v } })
  | none =>
    match (if off % 8 = 4 then regAt s (off - 4) else none) with
    | some (64, v) => ((s.host.latch.find (latchKey r off)).getD v >>> 32, s)
    | _ => (0, s)

/-- A read of `width` bits: aligned 32 or 64 bits wide, or an error that reads 0. -/
def regRead (r : Requester) (off width : Nat) (s : State) : Nat × State :=
  if width = 32 ∧ off % 4 = 0 then read32 r off s
  else if width = 64 ∧ off % 8 = 0 then
    match regAt s off with
    | some (64, v) => (v, s)
    | _ =>
      let a := read32 r off s
      let b := read32 r (off + 4) a.2
      (a.1 + b.1 * 2 ^ 32, b.2)
  else (0, accessError s)

/-- LOW_WORD_READ: a 32-bit read by one of the two requesters; the bytes go least significant first (R7). -/
def effLowWordRead (r : Requester) (off : Nat) (s : State) : State :=
  let x := regRead r off 32 s
  emit (.regData (bytesLE 4 x.1)) x.2

end Sys2Proof.Machine
end

