-- ==== Sys2Proof/Machine/RegWrite.lean ====
section
/-! DEFINITION. Register writes (chapter 15 and the register tables of the chapters): what each writable register does,
and the clearing of the fault registers (R384). -/

namespace Sys2Proof.Machine

/-! ## Clearing and enabling (R356, R384, R407, R410) -/

/-- A W1C of FLT_STATUS on a header (R384). -/
def clearFlt (mask : Nat) (h : Hdr) : Hdr :=
  let left := clrMask 32 h.fltStatus (clrMask 32 mask h.causeActive)
  if left = 0 then { h with fltStatus := 0, first := none, level := 0, stopFlag := false, nmiTaken := false }
  else { h with fltStatus := left }

/-- A write to INT_STATUS or INT_ENABLE that leaves the pending condition true signals the vector (R356). -/
def writeInt (b : Nat) (f : Hdr → Hdr) (s : State) : State :=
  let s := modHdr b f s
  if (hdr s b).pending then signalVec b s else s

/-- FLT_STATUS_CLEAR (R384). -/
def effFltStatusClear (b : Nat) (mask : Word) (s : State) : State :=
  if b < nBlocks then modHdr b (clearFlt mask.toNat) s else s

/-- INT_STATUS_CLEAR (R384, R356). -/
def effIntStatusClear (b : Nat) (mask : Word) (s : State) : State :=
  if b < nBlocks then writeInt b (fun h => { h with intStatus := clrMask 32 h.intStatus mask.toNat }) s else s

/-- FLT_OVF_CLEAR (R384). -/
def effFltOvfClear (b : Nat) (s : State) : State :=
  if b < nBlocks then modHdr b (fun h => { h with ovf := false, ovfCount := 0 }) s else s

/-- INT_ENABLE_WRITE (R356). -/
def effIntEnableWrite (b : Nat) (v : Word) (s : State) : State :=
  if b < nBlocks then writeInt b (fun h => { h with intEnable := v.toNat }) s else s

/-- The defined bits of PCNT_SEL_n and PCNT_FILT_n. -/
abbrev selBits : Nat := 0xDFFFFFFF
abbrev filtBits : Nat := 0xFFFFFFFFFFFFE000

/-- Sets counter `n` of a header. -/
def setPcnt (n : Nat) (c : Pcnt) (h : Hdr) : Hdr := { h with pcnt := h.pcnt.set n c }

/-- PCNT_SEL_WRITE (R407): clears the counter and its overflow bit. -/
def effPcntSelWrite (b n : Nat) (v : Word) (s : State) : State :=
  if b < nBlocks ∧ n < pcntCount b then
    modHdr b (fun h =>
      { setPcnt n { h.pcnt.get Pcnt.reset n with count := 0, sel := v.toNat &&& selBits } h with
        pcntOvf := clrBit h.pcntOvf n }) s
  else s

/-- PCNT_FILT_WRITE (R407). -/
def effPcntFiltWrite (b n : Nat) (v : Word64) (s : State) : State :=
  if b < nBlocks ∧ n < pcntCount b then
    modHdr b (fun h => setPcnt n { h.pcnt.get Pcnt.reset n with filt := v.toNat &&& filtBits } h) s
  else s

/-- PCNT_OVF_CLEAR (R410). -/
def effPcntOvfClear (b : Nat) (mask : Word) (s : State) : State :=
  if b < nBlocks then modHdr b (fun h => { h with pcntOvf := clrMask 8 h.pcntOvf mask.toNat }) s else s

/-- NMI_STATUS_CLEAR (R358). -/
def effNmiStatusClear (s : State) : State :=
  match s.host.nmi with
  | none => s
  | some (b, i) =>
    if (hdr s b).causeActive.testBit i then s
    else emit (.release .nmiN) (modHost (fun h => { h with nmi := none, nmiCount := 0 }) s)

/-- ISO_CTRL_WRITE (R354). -/
def effIsoCtrlWrite (v : Word) (s : State) : State :=
  let p := v.toNat % 2 ^ 14
  if 100 ≤ p ∧ p ≤ 10000 then { s with iso := { s.iso with nextPeriod := p } } else s

/-- TIME_SNAP_CTRL (R352): the counter, state and cycle count of the first tick boundary after the write. -/
def effTimeSnapCtrl (v : Word) (s : State) : State :=
  if !v.toNat.testBit 0 then s
  else
    let stepped := s.guh.steppedNow
    let s := passTicks 1 s
    { s with snap :=
      { seq := (s.snap.seq + 1) % 256, gstate := s.guh.state.code, invalid := !rGuhRun s, stepped := stepped,
        sec := guhSec s, ns := guhNs s, frac := guhFrac s, cycle := s.cycle } }

/-- A write to an MSI-X table dword; unmasking sends a pending message once (R356). -/
def msixWrite (i v : Nat) (s : State) : State :=
  let n := i / 4
  let was := (msixWord s (4 * n + 3)).testBit 0
  let s := modHost (fun h => { h with msixTable := h.msixTable.set i v }) s
  if was && !(msixWord s (4 * n + 3)).testBit 0 && s.host.pba.testBit n then
    signalVec n (modHost (fun h => { h with pba := clrBit h.pba n }) s)
  else s

/-- A ring base: written only while EN = 0 and IDLE = 1, 64-byte aligned (R359). -/
def baseWrite (off v : Nat) (s : State) : State :=
  if s.host.en || !ringIdle s.host then s
  else
    let a := v - v % 64
    modHost (fun h => match off with
      | 0x108 => { h with cmdBase := a }
      | 0x110 => { h with cplBase := a }
      | _ => { h with evtBase := a }) s

/-- TIC_FIFO_SEL. -/
def ticSelWrite (v : Nat) (s : State) : State := modTic (fun t => { t with sel := v % 32 }) s

/-! ## Writes by offset (R348) -/

/-- A 32-bit write to a global register. -/
def writeGlobal (off v : Nat) (s : State) : State :=
  match off with
  | 0x040 => effTimeSnapCtrl (w32 v) s
  | 0x070 => effIsoCtrlWrite (w32 v) s
  | 0x0A0 => if v.testBit 31 then effNmiStatusClear s else s
  | 0x0D0 => modHost (fun h => { h with intMask := h.intMask.set 0 v }) s
  | 0x0D4 => modHost (fun h => { h with intMask := h.intMask.set 1 v }) s
  | 0x0D8 => modHost (fun h => { h with intMask := h.intMask.set 2 v }) s
  | 0x0DC => modHost (fun h => { h with spiEvtEn := v.testBit 2, spiRplEn := v.testBit 1 }) s
  | 0x100 => ringCtrlWrite v s
  | 0x120 => effCmdDoorbell (v % 4096) s
  | 0x12C => effCplHead (v % 4096) s
  | 0x134 => effEvtHead (v % 4096) s
  | _ => s

/-- A 32-bit write to a window's header. -/
def writeHeader (b o v : Nat) (s : State) : State :=
  match o with
  | 0x010 => effFltStatusClear b (w32 v) s
  | 0x01C => if v.testBit 31 then effFltOvfClear b s else s
  | 0x020 => effIntStatusClear b (w32 v) s
  | 0x024 => effIntEnableWrite b (w32 v) s
  | 0x1C0 => effPcntOvfClear b (w32 v) s
  | _ => if 0x160 ≤ o ∧ o < 0x180 then effPcntSelWrite b ((o - 0x160) / 4) (w32 v) s else s

/-- A 32-bit write to a block's own register, ignored while the block is OFF (R350). -/
def writeBlock (b o v : Nat) (s : State) : State :=
  if stateView s b = .off then s
  else if b = bSHAFT ∧ o = 0x210 then effShaftSnapCtrl v s
  else if b = bTIC ∧ o = 0x210 then ticSelWrite v s
  else s

/-- A 64-bit register that can be written: the ring bases, PCNT_FILT_n and GUH_CMP_STEPPED. -/
def writable64 (off : Nat) : Bool :=
  off == 0x108 || off == 0x110 || off == 0x118 || off == winBase bGUH + 0x228
    || (decide (0x10000 ≤ off) && decide (off < 0x70000) && decide (0x180 ≤ off % 0x1000) && decide (off % 0x1000 < 0x1C0))

/-- A write of a whole 64-bit register. -/
def write64 (off v : Nat) (s : State) : State :=
  if off < 0x200 then baseWrite off v s
  else if off = winBase bGUH + 0x228 then
    (if stateView s bGUH = .off then s else effGuhCmpSteppedClear (BitVec.ofNat 64 v) s)
  else effPcntFiltWrite ((off - 0x10000) / 0x1000) ((off % 0x1000 - 0x180) / 8) (BitVec.ofNat 64 v) s

/-- What the other half of a 64-bit register is written with when one half is: its present value, or zeros where
writing 1 clears. -/
def otherHalf (s : State) (off : Nat) : Nat :=
  if off = winBase bGUH + 0x228 then 0 else ((regAt s off).map (·.2)).getD 0

/-- A 32-bit write. -/
def write32 (off v : Nat) (s : State) : State :=
  if off % 8 = 0 ∧ writable64 off then write64 off (otherHalf s off / 2 ^ 32 * 2 ^ 32 + v) s
  else if off % 8 = 4 ∧ writable64 (off - 4) then write64 (off - 4) (v * 2 ^ 32 + otherHalf s (off - 4) % 2 ^ 32) s
  else if off < 0x200 then writeGlobal off v s
  else if 0x8000 ≤ off ∧ off < 0x8600 then msixWrite ((off - 0x8000) / 4) v s
  else if 0x10000 ≤ off ∧ off < 0x70000 then
    let b := (off - 0x10000) / 0x1000
    if off % 0x1000 < 0x200 then writeHeader b (off % 0x1000) v s else writeBlock b (off % 0x1000) v s
  else s

/-- A write of `width` bits (R348): aligned 32 or 64 bits wide, or an error that is ignored and counted. -/
def regWrite (off width v : Nat) (s : State) : State :=
  if width = 32 ∧ off % 4 = 0 then write32 off (v % 2 ^ 32) s
  else if width = 64 ∧ off % 8 = 0 then
    if writable64 off then write64 off (v % 2 ^ 64) s
    else write32 (off + 4) (v / 2 ^ 32 % 2 ^ 32) (write32 off (v % 2 ^ 32) s)
  else accessError s

/-- REGISTER_WRITE. -/
def effRegisterWrite (off width : Nat) (v : Word64) (s : State) : State := regWrite off width v.toNat s

/-- SHAFT_SNAP_CTRL: a write of the register. -/
def effShaftSnapWrite (v : Word) (s : State) : State := writeBlock bSHAFT 0x210 v.toNat s

/-- REG_READ (R346, R349): up to 64 offsets through the Keeper's latch, one word each. -/
def readRegs : List Nat → State → List Word × State
  | [], s => ([], s)
  | o :: r, s =>
    let x := regRead .keeper o 32 s
    let y := readRegs r x.2
    (w32 x.1 :: y.1, y.2)

/-- REG_READ. -/
def bodyRegRead (offs : List Nat) (s : State) : Resp :=
  if offs.isEmpty ∨ 64 < offs.length then refuse stOutOfRange s
  else
    let r := readRegs offs s
    okWith r.1 r.2

/-- REG_WRITE (R348): pairs of offset and value written as PCIe writes. -/
def writeRegs : List (Nat × Word) → State → State
  | [], s => s
  | (o, v) :: r, s => writeRegs r (regWrite o 32 v.toNat s)

/-- REG_WRITE. -/
def bodyRegWrite (ps : List (Nat × Word)) (s : State) : Resp :=
  if ps.isEmpty ∨ 64 < ps.length then refuse stOutOfRange s else ok (writeRegs ps s)

end Sys2Proof.Machine
end

