-- ==== Sys2Proof/Machine/Blocks.lean ====
section
/-! DEFINITION. Blocks as COMMIT, BLOCK_START, BLOCK_STOP and BLOCK_RESET handle them (R337 to R341): the consistency
checks of each block, and what applying its staged set does. -/

namespace Sys2Proof.Machine

/-! ## Consistency checks -/

/-- The state with the staged sets of the blocks of `mask` alone, as the checks of a COMMIT see it. -/
def naming (mask : Nat) (s : State) : State :=
  { s with staged := s.staged.filter (fun e => mask.testBit (e.1 / 2 ^ 24)) }

/-- A plan serves a lane mode (Table LN-2). -/
def planServes (plan mode : Nat) : Bool :=
  match mode with
  | 0 => true
  | 1 => plan == 3
  | 2 => plan == 3
  | 3 => plan == 2
  | 4 => plan == 1
  | 5 => plan == 1
  | 6 => plan == 5
  | 7 => plan == 4
  | _ => false

/-- The lane modes and PLL choices of a quad under the plans given (R27). -/
def lanesOk (s : State) (q pa pb : Nat) (paired : Bool) : Bool :=
  let b := bQ q
  let mode := fun n => afterN s b n Par.lnLaneMode
  let sel := fun n => if paired then 0 else afterN s b n Par.lnPllSel
  (List.range 4).all (fun n => planServes (if sel n = 0 then pa else pb) (mode n))
    && (!(List.range 4).any (fun n => mode n == 5) || (List.range 4).all (fun n => mode n == 5 && sel n == sel 0))

/-- The lane mode of port `p` after the staged sets of `mask` are applied (R446). -/
def modeAfter (mask : Nat) (s : State) (p : Nat) : Nat :=
  let m := if mask.testBit (bQ (p / 4)) then afterN s (bQ (p / 4)) (p % 4) Par.lnLaneMode else (lane s p).mode
  if m = 5 ∧ p % 4 ≠ 0 then 0 else m

/-- The rate of PTP messages of one port in 1/32 messages/s (R101). -/
def ptpRate (s : State) (p : Nat) : Nat :=
  if afterN s (bP p) 0 Par.epPtpRole = 0 then 0
  else 2 ^ (5 - after s (bP p) 0 Par.epPtpLogSync).toNat + 2 ^ (5 - after s (bP p) 0 Par.epPtpLogMindelay).toNat

/-- PTP messages of every port whose edge set acts, within the Keeper's limit (R101, R446). -/
def ptpRatesOk (mask : Nat) (s : State) : Bool :=
  let acts := fun p => decide (1 ≤ modeAfter mask s p) && decide (modeAfter mask s p ≤ 5)
  decide ((List.range 64).foldl (fun a p => if acts p then a + ptpRate s p else a) 0 ≤ 16384 * 32)

/-- The slopes of a port's shaped queues fit its rate (R285). -/
def slopesOk (s : State) (p m : Nat) : Bool :=
  m == 0 || decide ((List.range 8).foldl (fun a q =>
    if afterN s (bP p) q Par.sdCbsEn = 1 then a + afterN s (bP p) q Par.sdIdleSlope else a) 0 ≤ frameRate m)

/-- The check of a port's parameters that its lane mode lets act (R446, R82, R92, R101, R285). -/
def portCheck (mask : Nat) (s : State) (p : Nat) : Option Nat :=
  let m := modeAfter mask s p
  let g := afterN s (bP p) 0
  if 1 ≤ m ∧ m ≤ 3 ∧ g Par.epFecMode ≠ 0 then some stOutOfRange
  else if 1 ≤ m ∧ m ≤ 5 ∧ g Par.epPfcQuanta ≤ g Par.epPfcRefresh then some stOutOfRange
  else if 1 ≤ m ∧ m ≤ 5 ∧ !ptpRatesOk mask s then some stNoResource
  else if !slopesOk s p m then some stOutOfRange
  else none

/-- The shared part would hold at least 4,096 cells (R257). -/
def poolOk (mask : Nat) (s : State) : Bool :=
  decide (4096 ≤ poolTotal s - poolParts (afterN s) (modeAfter mask s))

/-- MIN lies below MAX for every colour of every WRED profile (R267). -/
def wredOk (s : State) : Bool :=
  (List.range 16).all (fun k => (List.range 3).all (fun col =>
    decide (afterN s bBUF (0x10 + k) (Par.wrGMin + 3 * col) < afterN s bBUF (0x10 + k) (Par.wrGMax + 3 * col))))

/-- A REF_IN input's type, frequency and window agree (R136, R139). -/
def refInOk (s : State) (c : Nat) : Bool :=
  let f := afterN s bREFS c Par.rfRefFreq
  if afterN s bREFS c Par.rfRefType = 0 then f == 1 && decide (4000 ≤ afterN s bREFS c Par.rfMonWindow)
  else decide (1000 ≤ f) && decide (f ≤ 800000000)

/-- BW_TRK_SYNCE lies in the range of EEC_OPTION (Table RF-6). -/
def synceBwOk (s : State) : Bool :=
  let w := afterN s bREFS 0xF0 Par.rfBwTrkSynce
  if afterN s bREFS 0xF0 Par.rfEecOption = 1 then decide (1000 ≤ w) && decide (w ≤ 10000) else decide (50 ≤ w) && decide (w ≤ 100)

/-- No shaft is given source 2 while its encoder is disabled (R207). -/
def sourcesOk (s : State) : Bool :=
  (List.range 64).all (fun n =>
    (s.staged.find (pid bSHAFT n Par.shShaftSource)).isNone || after s bSHAFT n Par.shShaftSource != 2
      || afterN s bTIC (0x40 + afterN s bSHAFT n Par.shCapEncoder) Par.tcEncEn == 1)

/-- A mask profile that an entry names is not changed (Table SW-8). -/
def profilesOk (s : State) : Bool :=
  (List.range 8).all (fun k =>
    after s bLKP 0 (Par.lkStreamMask0 + k) == par s bLKP 0 (Par.lkStreamMask0 + k)
      || !s.core.streams.any (fun e => decide (2 ≤ e.method) && e.profile == k))

/-- The check of block `b` in a COMMIT of `mask`; `s` is the state `naming mask` leaves. -/
def blockCheck (mask : Nat) (s : State) (b : Nat) : Option Nat :=
  if isQuadB b then
    let q := b - 0x10
    let x := quad s q
    if !lanesOk s q x.planA x.planB x.paired then some stOutOfRange
    else (List.range 4).findSome? (fun n => portCheck mask s (4 * q + n))
  else if isPortB b then
    (match portCheck mask s (b - 0x20) with
     | some st => some st
     | none => if poolOk mask s then none else some stNoResource)
  else match b with
  | 0x04 => checkCsyn s
  | 0x05 => if (List.range 12).all (refInOk s) && synceBwOk s then none else some stOutOfRange
  | 0x07 => if sourcesOk s then none else some stNotReady
  | 0x08 => checkTic s
  | 0x0B => if !profilesOk s then some stBusy else checkMods s
  | 0x0C => if !wredOk s then some stOutOfRange else if poolOk mask s then none else some stNoResource
  | 0x0E => if afterN s bTRACE 0 Par.ctTagChanHi < afterN s bTRACE 0 Par.ctTagChanLo then some stOutOfRange else none
  | _ => none

/-- Two regions of Store meet. -/
def overlap (a la b lb : Nat) : Bool := decide (a < b + lb) && decide (b < a + la)

/-- The bytes of Store fitted (STORE_STATUS SIZE). -/
def storeBytes (s : State) : Nat := if s.storeSize = 0 then 0 else 2 ^ (28 + s.storeSize)

/-- The place of a block's ring (R272, R415). -/
def ringOf (s : State) (b : Nat) : Nat × Nat :=
  if b = bBUF then (parN s bBUF 0 Par.bfCapBase, parN s bBUF 0 Par.bfCapRecords * 192)
  else (parN s bTRACE 0 Par.ctTraceBase, parN s bTRACE 0 Par.ctTraceRecords * 64)

/-- The ring of a starting block keeps clear of the Light List and of the other ring (R344, R415). -/
def ringOk (s : State) (b : Nat) : Bool :=
  let r := ringOf s b
  let o := ringOf s (if b = bBUF then bTRACE else bBUF)
  !overlap r.1 r.2 s.boot.llBase s.boot.llBytes && !overlap r.1 r.2 o.1 o.2
    && (b != bTRACE || decide (r.1 + r.2 ≤ storeBytes s))

/-- The checks of a BLOCK_START: those of a COMMIT, a quad's plans (R40), and the place of a ring. -/
def startCheck (s : State) (b : Nat) : Option Nat :=
  let t := naming (2 ^ b) s
  if isQuadB b then
    let g := parN t b 0
    let paired := g Par.lnPllMode == 1
    if paired && g Par.lnPllAPlan != g Par.lnPllBPlan then some stOutOfRange
    else if !lanesOk t (b - 0x10) (g Par.lnPllAPlan) (g Par.lnPllBPlan) paired then some stOutOfRange
    else (List.range 4).findSome? (fun n => portCheck (2 ^ b) t (4 * (b - 0x10) + n))
  else match blockCheck (2 ^ b) t b with
  | some st => some st
  | none => if (b = bBUF ∨ b = bTRACE) ∧ !ringOk s b then some stOutOfRange else none

/-- The first named block whose check fails, with its status. -/
def firstFailing (mask : Nat) (s : State) : Option (Nat × Nat) :=
  let t := naming mask s
  (List.range nBlocks).findSome? (fun b => if mask.testBit b then (blockCheck mask t b).map (fun st => (b, st)) else none)

/-! ## Applying staged sets -/

/-- A port's fault header clears and its reactions return to their defaults (R386). -/
def clearPortHeader (p : Nat) (s : State) : State :=
  modHdr (bP p) (fun h => { h with
    fltStatus := 0, first := none, ovf := false, ovfCount := 0, intStatus := 0, causeActive := 0, level := 0,
    stopFlag := false, nmiTaken := false, react := [] }) s

/-- Whether a mode is an edge mode, a trunk mode or neither. -/
def modeKind (m : Nat) : Nat := if 1 ≤ m ∧ m ≤ 5 then 1 else if m = 6 ∨ m = 7 then 2 else 0

/-- The port of a lane enters DOWN. -/
def portGoesDown (p : Nat) (s : State) : State :=
  presence p (if isTrunk s p then linkDown p s else if isEdge s p then edgeDown p s else s)

/-- Lane `l` goes down to re-lock in a new mode or on another PLL (R41, R450). -/
def relockLane (l mode pll : Nat) (s : State) : State :=
  let s := adaptBreaks l 3 (sliceAborts l abCommit s)
  let s := if (lane s l).cdrLock then laneLost l s else s
  let p := if (lane s l).mode = 5 then l / 4 * 4 else l
  let s := portGoesDown p s
  let old := modeKind (lane s l).mode
  let s := modLane l (fun x => { x with mode := mode, pll := pll, sigDet := false, latValid := false, latCal := false }) s
  let s := modLane l (fun x => { x with squelched := mode == 0 || !pllLocked s (l / 4) (lanePll s l) }) s
  let s := driveLines (l / 4) s
  presence l (if (old = 1 ∧ modeKind mode = 2) ∨ (old = 2 ∧ modeKind mode = 1) then clearPortHeader l s else s)

/-- A COMMIT of quad `q`: only lanes whose mode changed, or in the split arrangement whose PLL changed, go down. -/
def applyQuad (q : Nat) (s : State) : State :=
  (List.range 4).foldl (fun s n =>
    let l := 4 * q + n
    let m := parN s (bQ q) n Par.lnLaneMode
    let k := parN s (bQ q) n Par.lnPllSel
    let split := !(quad s q).paired
    if (lane s l).mode ≠ m ∨ (split ∧ (lane s l).pll ≠ k) then relockLane l m (if split then k else (lane s l).pll) s
    else s) s

/-- The start of quad `q`: lanes whose mode changes go down first, then plans and modes take effect (R27, R41). -/
def startQuad (q : Nat) (s : State) : State :=
  quadStarts q ((List.range 4).foldl (fun s n =>
    let l := 4 * q + n
    let m := parN s (bQ q) n Par.lnLaneMode
    if (lane s l).mode ≠ m then relockLane l m (parN s (bQ q) n Par.lnPllSel) s else s) s)

/-- Every pause of a port is released in both directions under its old setting (R105). -/
def releasePauses (p : Nat) (s : State) : State :=
  let s := modEdge p (fun e => { e with paused := [] }) (shapePort p s)
  let on := (List.range 8).filter (fun c => asserted s p c)
  if on.isEmpty then s else sendPause p (on.foldl setBit 0) (on.foldl (fun s c => setPause p c false s) s)

/-- What a COMMIT or start of port `p` does with the parameters just applied; `s0` is the state before (R105, R261,
R263, R285). -/
def applyPort (s0 : State) (p : Nat) (s : State) : State :=
  let changed := fun i n => par s0 (bP p) i n != par s (bP p) i n
  let s := if isEdge s p && (changed 0 Par.epFecMode || changed 0 Par.epSgmii || changed 0 Par.epAnEn) then driveLine p (edgeDown p s) else s
  let s := if isEdge s p && (changed 0 Par.epPtpRole || changed 0 Par.epPtpProfile || changed 0 Par.epPtpTransport
      || changed 0 Par.epPtpDomain) then setPtpState p (if ptpRole s p = 1 then 1 else 0) s else s
  let s := (List.range 8).foldl (fun s q =>
    if changed q Par.sdCbsEn then modOutQ p q (fun o => { o with credit := 0, last := (units s : Int) }) s else s) s
  let s := if isEdge s p then checkHeadroom p s else if isTrunk s p then checkCredit p s else s
  presence p s

/-- What a COMMIT or start of block `b` does beyond writing its parameters; `ids` are those applied. -/
def applyBlock (s0 : State) (ids : List Nat) (b : Nat) (s : State) : State :=
  if isQuadB b then applyQuad (b - 0x10) s
  else if isPortB b then applyPort s0 (b - 0x20) s
  else match b with
  | 0x04 => applyCsyn ids s
  | 0x05 =>
    let moved := (List.range 12).filter (fun c =>
      par s0 bREFS c Par.rfRefType != par s bREFS c Par.rfRefType || par s0 bREFS c Par.rfRefFreq != par s bREFS c Par.rfRefFreq)
    evaluate (moved.foldl (fun s c => candRestart c s) s)
  | 0x06 => { s with guh := { s.guh with timescale := parN s bGUH 0 Par.gtTimescale } }
  | 0x07 => applyShafts s
  | 0x08 => applyTic s
  | 0x0B => applyMods s
  | 0x0D => installLists s
  | 0x0E => applyTrace s
  | _ => s

/-- The ports whose pause setting the staged set of `mask` changes. -/
def pausePorts (mask : Nat) (s : State) : List Nat :=
  (List.range 64).filter (fun p => mask.testBit (bP p) && isEdge s p &&
    (after s (bP p) 0 Par.epFlowMode != par s (bP p) 0 Par.epFlowMode || after s (bP p) 0 Par.epPfcEn != par s (bP p) 0 Par.epPfcEn))

/-- Writes the staged parameters of the blocks of `mask` and empties their staged sets. -/
def writeStaged (mask : Nat) (s : State) : State :=
  let mine := s.staged.filter (fun e => mask.testBit (e.1 / 2 ^ 24))
  { s with params := mine.foldl (fun m e => m.set e.1 e.2) s.params,
           staged := s.staged.filter (fun e => !mask.testBit (e.1 / 2 ^ 24)) }

/-- Applies the staged sets of every block of `mask` together (R339). -/
def applyBlocks (mask : Nat) (s : State) : State :=
  let ids := (s.staged.filter (fun e => mask.testBit (e.1 / 2 ^ 24))).map (·.1)
  let s := (pausePorts mask s).foldl (fun s p => releasePauses p s) s
  let s0 := s
  let s := writeStaged mask s
  reviewPause ((List.range nBlocks).foldl (fun s b => if mask.testBit b then applyBlock s0 ids b s else s) s)

/-! ## COMMIT and COMMIT_CANCEL (R339, R340) -/

/-- COMMIT_DONE's content: status, blocks, the rolling nanoseconds of the event, cause. -/
def commitWords (status mask ns cause : Nat) : List Word :=
  [w32 status, w32 mask, w32 (mask >>> 32), w32 (mask >>> 64), w32 ns, w32 cause]

/-- The cause word of a COMMIT_DONE with the flag UNTIMED (log entry 24). -/
abbrev untimed : Nat := 2 ^ 31

/-- COMMIT with WHEN = 0: at the next grid point, or together at once without a running counter. -/
def commitNow (mask : Nat) (s : State) : State :=
  if rGuhRun s then
    let s := passTo (onGrid ((units s : Int) + 1)) s
    let ns := rollNs s
    report bKEEP 0x03 (commitWords 0 mask ns 0) (applyBlocks mask s)
  else report bKEEP 0x03 (commitWords 0 mask 0 untimed) (applyBlocks mask s)

/-- COMMIT. -/
def bodyCommit (h : CmdHdr) (a : CommitArgs) (s : State) : Resp :=
  match (List.range nBlocks).find? (fun b => a.mask.testBit b && blkStopped s b) with
  | some b => refuseAt stNotReady b s
  | none =>
    if a.when_ = 1 ∧ !rGuhRun s then refuse stNotReady s
    else if a.when_ = 2 ∧ (!rShaft s ∨ !shaftRunning s a.shaft) then refuse stNotReady s
    else if 3 ≤ a.when_ ∨ (a.when_ = 2 ∧ 1 < a.dir) then refuse stOutOfRange s
    else if a.when_ = 1 ∧ (nsAhead s a.target ≤ 0 ∨ 2000000000 < nsAhead s a.target) then refuse stOutOfRange s
    else if s.keep.commit.isSome then refuse stBusy s
    else match firstFailing a.mask s with
    | some (b, st) => refuseAt st b s
    | none =>
      if a.when_ = 0 then ok (commitNow a.mask s)
      else
        let c : PendingCommit :=
          { hdr := h, when_ := a.when_, dir := a.dir, shaft := a.shaft, mask := a.mask, target := a.target,
            armed := a.when_ == 1 }
        let s := { s with keep := { s.keep with commit := some c } }
        let s := if a.when_ = 1 then arm 60 a.target s
          else modSh (fun b => { b with lanes := b.lanes.set 0 (cursorAt s a.shaft ((units s : Int) + 1)) }) s
        accepted 0x0006 0 h s

/-- C60 fires: the pending COMMIT is applied (R339). -/
def fireCommit (s : State) : State :=
  match fireCmp 60 s with
  | (none, s) => s
  | (some a, s) =>
    match s.keep.commit with
    | none => s
    | some c =>
      let ns := (a.fires / 65536 % 2 ^ 32).toNat
      let s := applyBlocks c.mask (dropTargets commitSlot { s with keep := { s.keep with commit := none } })
      completeWith 0x0006 0 bKEEP 0x03 (commitWords 0 c.mask ns 0) stOk s

/-- COMMIT_CANCEL (R340). -/
def bodyCommitCancel (discardSets : Bool) (mask : Nat) (s : State) : Resp :=
  let s := if s.keep.commit.isSome then cancelCommit 1 s else s
  ok (if discardSets then
    let s := { s with staged := s.staged.filter (fun e => !mask.testBit (e.1 / 2 ^ 24)) }
    let s := if mask.testBit bSCHED then { s with sched := { s.sched with staged := [] } } else s
    if mask.testBit bLKP then modCore (fun k => { k with stagedMods := [] }) s else s
  else s)

/-! ## BLOCK_STOP, BLOCK_START, BLOCK_RESET (R341) -/

/-- BLOCK_STOP. -/
def bodyBlockStop (b : Nat) (s : State) : Resp :=
  if nBlocks ≤ b then refuse stBadParamId s
  else if commitNames s b then refuse stBusy s
  else if (hdr s b).state = .off then ok s
  else ok (reinitBlock b (modHdr b (fun h => { h with state := .off }) s))

/-- The parameters and hardware of a block that starts: its staged set is applied, and a quad's loops start. -/
def beginBlock (b : Nat) (s : State) : State :=
  let s := modHdr b (fun h => { h with state := .init }) s
  if isQuadB b then startQuad (b - 0x10) (writeStaged (2 ^ b) s) else applyBlocks (2 ^ b) s

/-- BLOCK_START: a block that is not stopped returns OK and stays as it is (log entry 25). -/
def bodyBlockStart (h : CmdHdr) (b : Nat) (s : State) : Resp :=
  if nBlocks ≤ b then refuse stBadParamId s
  else if !blkStopped s b then ok s
  else match startCheck s b with
  | some st => refuseAt st b s
  | none => accepted 0x0009 b h (beginBlock b s)

/-- The parameters of block `b` return to their reset values, but for those that are calibration values (R341). -/
def resetParams (b : Nat) (s : State) : State :=
  let keepCal := fun (e : Nat × Int) => b == bKEEP && e.1 % 2 ^ 16 == Par.efMgmtMac
  { s with params := s.params.filter (fun e => e.1 / 2 ^ 24 ≠ b || keepCal e) }

/-- BLOCK_RESET: a running block restarts through INIT and READY; a stopped one stays OFF, its hardware re-initialised. -/
def bodyBlockReset (h : CmdHdr) (b : Nat) (s : State) : Resp :=
  if nBlocks ≤ b then refuse stBadParamId s
  else if commitNames s b then refuse stBusy s
  else
    let run := !blkStopped s b
    let s := resetParams b (dropStaged b s)
    if run then accepted 0x000A b h (reinitBlock b (modHdr b (fun h => { h with state := .init }) s)) else ok (wipeBlock b s)

end Sys2Proof.Machine
end

