-- ==== Sys2Proof/Machine/Planner.lean ====
section
/-! DEFINITION. The sector planner (R216 to R226): sector event slots, conversion into the time queue, firing, missing,
replanning, capture records, and the captured shafts' fits (R208). -/

namespace Sys2Proof.Machine

/-- A target of a gear lane. -/
def Planned.gear (p : Planned) : Bool := decide (gearSlot 0 ≤ p.slot) && decide (p.slot < gateSlot 0)

/-- A target that the planner fires itself, on C20 to C27 (R223, R224). -/
def Planned.own (p : Planned) : Bool :=
  if p.slot < 8192 then p.kind == 1 || p.kind == 3 || p.kind == 4 else p.gear

/-- Inserts a target in order of fire time. -/
def insertPlan (p : Planned) : List Planned → List Planned
  | [] => [p]
  | q :: r => if p.fire < q.fire then p :: q :: r else q :: insertPlan p r

/-- Loads the earliest target of each of C20 to C27. -/
def armPlanner (s : State) : State :=
  [20, 21, 22, 23, 24, 25, 26, 27].foldl (fun s k =>
    match s.shaft.tq.find? (fun p => p.own && p.cmp == k) with
    | some p => if rGuhRun s then armAt k p.fire s else disarm k s
    | none => disarm k s) s

/-- TARGET of a GATE event: port, queue mask, open (Table EF-16). -/
def gateTarget (t : Nat) : Nat × Nat × Bool := (t % 64, t / 2 ^ 8 % 256, t.testBit 16)

/-! ## Capture records (R225, R226) -/

/-- Whether a record is written: of CAPTURE events and of missed ones always, else by RECORD (R221, Table SH-5). -/
def wantsRecord (a : SectorArgs) (flags : Nat) : Bool :=
  a.kind == 3 || flags.testBit 4 || a.record == 1 || (a.record == 2 && flags != 0)

/-- A capture record is owed at the later of fire time and crossing. -/
def oweRecord (p : Planned) (fired : Option Int) (s : State) : State :=
  if 8192 ≤ p.slot then s else modSh (fun b => { b with owed := b.owed ++ [⟨p, fired⟩] }) s

/-- A value saturated to a signed 32-bit range. -/
def sat32 (v : Int) : Int := max (-(2 ^ 31)) (min (2 ^ 31 - 1) v)

/-- A capture record (Table SH-7). -/
def capRecord (p : Planned) (fired : Option Int) (err : Int) (seq : Nat) : List Word :=
  let f := match fired with
    | some v => wrapN 48 v
    | none => 0
  [w32 (f / 65536),
   w32 (f % 65536 * 65536 + p.kind * 2 ^ 12 + p.shaft * 2 ^ 6 + (if p.rising then 1 else 2)),
   w32 (p.slot * 2 ^ 19), w32 (wrapN 32 (p.angle / 2 ^ 32)), w32 (wrapN 32 p.angle), w32 (wrapN 32 (sat32 err)),
   w32 (wrapN 32 (p.speed / 2 ^ 16)), w32 (seq % 2 ^ 16 * 65536 + p.flags % 65536)]

/-- Puts a record into the FIFO of 2,048 under REC_POLICY (R225). -/
def putRecord (r : List Word) (s : State) : State :=
  let full := 2048 ≤ s.shaft.recs.length
  let keepOld := par s bSHAFT 0xF0 Par.shRecPolicy == 0
  let s := modSh (fun b => { b with
    recSeq := (b.recSeq + 1) % 2 ^ 16
    recLost := if full then min (b.recLost + 1) 65535 else b.recLost
    recs := if full then (if keepOld then b.recs else b.recs.drop 1 ++ [r]) else b.recs ++ [r] }) s
  if full then raise bSHAFT 7 s else s

/-- CAPTURE_RECORD_WRITE (R226): the `i`-th owed record, on the trajectory that was in force at its crossing. -/
def effCaptureRecordWrite (i : Nat) (s : State) : State :=
  match s.shaft.owed[i]? with
  | none => s
  | some o =>
    let s := passTo (max (o.fired.getD o.plan.cross) o.plan.cross) s
    let s := modSh (fun b => { b with owed := b.owed.eraseIdx i }) s
    if !wantsRecord o.plan.arg o.plan.flags then s
    else
      let err := match angleAt s o.plan.shaft o.plan.cross with
        | some a => wrapI 64 (a - o.plan.angle)
        | none => 0
      putRecord (capRecord o.plan o.fired err s.shaft.recSeq) s

/-- SECTOR_READ (R225). -/
def bodySectorRead (h : CmdHdr) (n : Nat) (s : State) : Resp :=
  if !rShaft s then refuse stNotReady s
  else if n < 1 ∨ 64 < n then refuse stOutOfRange s
  else
    let k := min n (min s.shaft.recs.length (roomFor h 8))
    okWith (w32 k :: (s.shaft.recs.take k).flatten) (modSh (fun b => { b with recs := b.recs.drop k }) s)

/-! ## Withdrawing and freeing -/

/-- A target leaves its consumer. -/
def withdraw (p : Planned) (s : State) : State :=
  if p.slot = commitSlot then
    disarm 60 { s with keep := { s.keep with commit := s.keep.commit.map (fun c => { c with armed := false }) } }
  else if p.gear then modShaft (p.slot - gearSlot 0) (fun h => { h with pend := h.pend.map (fun g => { g with tg := none }) }) s
  else if 8192 ≤ p.slot then
    let q := p.slot - gateSlot 0
    armGates (q / 4) (modPort q (fun x => { x with next := none }) s)
  else match p.kind with
  | 0 => pulseWithdraw p.arg.target p.fire s
  | 1 =>
    let g := gateTarget p.arg.target
    if g.2.2 then s else forgetClose g.1 g.2.1 p.fire s
  | _ => s

/-- Removes targets from the queue and from their consumers. -/
def withdrawAll (l : List Planned) (s : State) : State :=
  armPlanner (l.foldl (fun s p => withdraw p (modSh (fun b => { b with tq := b.tq.erase p, wait := b.wait.erase p }) s)) s)

/-- A slot is freed with the targets of it that are not committed. -/
def freeSlot (n : Nat) (s : State) : State :=
  let mine := (s.shaft.tq ++ s.shaft.wait).filter (fun p => p.slot == n && !p.flags.testBit 2)
  withdrawAll mine (modSh (fun b => { b with slots := b.slots.del n }) s)

/-- A rule-2 event has fired or been missed once: its slot is free (R222). -/
def onceDone (p : Planned) (s : State) : State :=
  if p.slot < 8192 ∧ p.arg.turnRule = 2 then freeSlot p.slot s else s

/-! ## Firing and missing (R221, R223) -/

/-- What a sector event does at its fire time (Table SH-6); pulses and launches are done by their own engines. -/
def sectorEffect (p : Planned) (at_ : Int) (s : State) : State :=
  let s := if p.kind = 1 then
      let g := gateTarget p.arg.target
      sectorGate g.1 g.2.1 g.2.2 p.fire s
    else s
  if p.arg.irq ∨ p.kind = 4 then report bSHAFT 0x04 ([w32 p.slot] ++ w64 (wrapN 48 at_)) s else s

/-- A target fires at `at_` and leaves the queue. -/
def firePlan (p : Planned) (at_ : Int) (s : State) : State :=
  let s := modSh (fun b => { b with tq := b.tq.erase p }) s
  let p := if at_ < p.fire then { p with flags := p.flags ||| 8 } else p
  onceDone p (oweRecord p (some at_) (sectorEffect p at_ s))

/-- EVENT_MISSED of a target (R221), and its record; `fired` is when it fired late. -/
def missReported (p : Planned) (fired : Option Int) (s : State) : State :=
  let s := if p.kind = 0 then staleDropped p.arg.target p.slot s else s
  let s := raise bSHAFT 4 (report bSHAFT 0x05 ([w32 p.slot] ++ w64 (wrapN 48 p.cross) ++ [w32 p.flags]) s)
  onceDone p (oweRecord p fired s)

/-- The events whose pulses output `n` no longer holds, after another pulse within 20 ns of them, are refused (R179,
R221); they do not fire. -/
def refuseMerged (n : Nat) (s : State) : State :=
  let lost := s.shaft.tq.filter (fun p => p.kind == 0 && decide (p.slot < 8192) && p.arg.target == n
    && !(pulse s n).queue.contains (p.fire, some p.slot) && decide ((units s : Int) < p.fire))
  lost.foldl (fun s p =>
    missReported { p with flags := p.flags ||| 144 } none (modSh (fun b => { b with tq := b.tq.erase p }) s)) s

/-- What an event does that fires at once although it is missed (MISS_POLICY = 1): whether its consumer took it. -/
def fireLate (p : Planned) (s : State) : Bool × State :=
  let now : Int := units s
  if p.kind = 0 then
    let r := pulseEvent p.arg.target (now + 65536) (some p.slot) s
    (r.1, refuseMerged p.arg.target r.2)
  else if p.kind = 2 then
    if (slotOf s p.arg.target).args.mode ≠ 3 then (false, s)
    else (true, armLaunch (pipeOf (slotOf s p.arg.target).args.port)
      (modSlot p.arg.target (fun x => { x with next := some now }) s))
  else (true, s)

/-- A lane's target is missed (R224, R280): a COMMIT and a gear change are not applied; a gate boundary is applied at once
and counted late. -/
def missLane (p : Planned) (s : State) : State :=
  if p.slot = commitSlot then commitEnded 2 4 s
  else if p.gear then dropGear (p.slot - gearSlot 0) 2 s
  else
    let q := p.slot - gateSlot 0
    let s := modPort q (fun x => { x with late := (x.late + 1) % 2 ^ 32 }) s
    armGates (q / 4) (nextEntry q (raise bSCHED 1 s))

/-- A target is missed with flags (R221): with MISS_POLICY = 1 it fires at once, unless its consumer refuses that too. -/
def missPlan (p : Planned) (more : Nat) (s : State) : State :=
  if 8192 ≤ p.slot then missLane p s
  else
    let p := { p with flags := p.flags ||| more }
    if p.arg.missPolicy ≠ 1 then missReported p none s
    else
      let r := fireLate p s
      if r.1 then
        let p := { p with flags := p.flags ||| 32 }
        let now : Int := units s
        missReported p (some now) (sectorEffect p now r.2)
      else missReported { p with flags := p.flags ||| 128 } none r.2

/-- PLAN_OVERLOAD as a lasting condition: commanded, or the time queue is full (R219, R451). -/
def reviewOverload (s : State) : State :=
  if s.shaft.overload ∨ 4096 ≤ s.shaft.tq.length then beginCause bSHAFT 5 s else endCause bSHAFT 5 s

/-- The comparator of C20 to C27 for a target of the planner's own: in turn, the first without a target less than 3.2 ns
away (R223). -/
def freeCmp (s : State) (p : Planned) : Nat :=
  let k := s.shaft.turn % 8
  let free := fun (c : Nat) =>
    s.shaft.tq.all (fun q => !(q.own && q.cmp == c && decide (5 * |p.fire - q.fire| < 1048576)))
  (((List.range 8).map (fun i => 20 + (k + i) % 8)).find? free).getD (20 + k)

/-- What a target in the time queue asks of its consumer or of its lane (R223, R224, R339). -/
def askConsumer (p : Planned) (s : State) : State :=
  if p.own then armPlanner s
  else if p.slot = commitSlot then
    armAt 60 p.fire { s with keep := { s.keep with commit := s.keep.commit.map (fun c => { c with armed := true }) } }
  else if 8192 ≤ p.slot then
    let q := p.slot - gateSlot 0
    armGates (q / 4) (modPort q (fun x => { x with next := some p.fire }) s)
  else if p.kind = 2 then armLaunch (pipeOf (slotOf s p.arg.target).args.port) s
  else s

/-- A target enters the time queue and its consumer; a consumer that refuses it makes it missed with REFUSED (R221,
R223).  A pulse that is dropped for another within 20 ns, and a launch of a slot that is not in MODE 3, are refused
(DESIGN CHOICE, log 33). -/
def queuePlan (p : Planned) (s : State) : State :=
  let put := fun (p : Planned) (s : State) => modSh (fun b => { b with tq := insertPlan p b.tq }) s
  if p.kind = 0 ∧ p.slot < 8192 then
    match pulseEvent p.arg.target p.fire (some p.slot) s with
    | (true, s) => reviewOverload (refuseMerged p.arg.target (put p s))
    | (false, s) => missPlan p (16 + 128) s
  else if p.kind = 2 ∧ p.slot < 8192 ∧ (slotOf s p.arg.target).args.mode ≠ 3 then missPlan p (16 + 128) s
  else
    let p := if p.own then { p with cmp := freeCmp s p } else p
    let s := modSh (fun b => { b with turn := if p.own then b.turn + 1 else b.turn }) (put p s)
    let s := if p.kind = 1 ∧ p.slot < 8192 then
        let g := gateTarget p.arg.target
        if g.2.2 then s else knowClose g.1 g.2.1 p.fire s
      else s
    reviewOverload (askConsumer p s)

/-- A converted target (R217, R219): missed with less than 1 µs to go, else queued, or waiting for room. -/
def takeConverted (p : Planned) (s : State) : State :=
  let lead := p.fire - (units s : Int)
  if lead < usU 1 then missPlan p 16 s
  else
    let p := if lead < usU 20 then { p with flags := p.flags ||| 64 } else p
    if 4096 ≤ s.shaft.tq.length then reviewOverload (modSh (fun b => { b with wait := insertPlan p b.wait }) s)
    else queuePlan p s

/-- Targets that waited enter the queue as it has room. -/
def drainWait : Nat → State → State
  | 0, s => s
  | n + 1, s =>
    match s.shaft.wait with
    | [] => s
    | p :: r =>
      if 4096 ≤ s.shaft.tq.length then s
      else drainWait n (takeConverted p (modSh (fun b => { b with wait := r }) s))

/-- What follows room in the queue. -/
def afterRoom (s : State) : State := reviewOverload (drainWait s.shaft.wait.length s)

/-! ## Conversion (R216, R217) -/

/-- Half of a slot's search: its rising or its falling cursor. -/
def SectorSlot.cursor (x : SectorSlot) (rising : Bool) : Cursor := if rising then x.up else x.down
/-- Sets a cursor. -/
def SectorSlot.setCursor (x : SectorSlot) (rising : Bool) (c : Cursor) : SectorSlot :=
  if rising then { x with up := c } else { x with down := c }

/-- The fields of a target that has been converted. -/
def mkPlan (s : State) (a : SectorArgs) (slot : Nat) (rising : Bool) (v t : Int) (off : Int) (flags : Nat) : Planned :=
  let st := shaftState s a.shaft
  { arg := a, cmp := 0, slot := slot, shaft := a.shaft, kind := a.kind, angle := t, rising := rising, cross := v,
    fire := v + off, speed := ((shaftAt s a.shaft v).map (·.2)).getD 0,
    flags := flags ||| (if st = .late ∨ st = .coasting then 1 else 0) }

/-- The targets that the time queue holds or that wait for it. -/
def planned (s : State) : List Planned := s.shaft.tq ++ s.shaft.wait

/-- Two plans are of the same target of the same slot in the same direction. -/
def Planned.same (p q : Planned) : Bool := p.slot == q.slot && p.angle == q.angle && p.rising == q.rising

/-- Searches on for slot `n` in one direction: whether there was a crossing up to the horizon, and the target that it
makes, none where a committed firing stands for it (R218). -/
def searchSlot (n : Nat) (rising : Bool) (s : State) : Bool × Option Planned × State :=
  match s.shaft.slots.find n with
  | none => (false, none, s)
  | some x =>
    let a := x.arg
    let put := fun (y : SectorSlot) (s : State) => modSh (fun b => { b with slots := b.slots.set n y }) s
    let limit := (units s : Int) + planHorizon s - a.timeOffset
    if !shaftRunning s a.shaft ∨ (rising ∧ a.dir = 1) ∨ (!rising ∧ a.dir = 0) then (false, none, s)
    else
      let c := x.cursor rising
      match findCross s a.shaft rising (if rising then nextTarget a else prevTarget a) c limit with
      | none => (false, none, put (x.setCursor rising (afterNone s a.shaft limit c)) s)
      | some (v, carried, t) =>
        let x := x.setCursor rising (afterCross v carried)
        if x.spent.contains (t, rising) then (true, none, put { x with spent := x.spent.erase (t, rising) } s)
        else (true, some (mkPlan s a n rising v t a.timeOffset 0), put x s)

/-- Every target of slot `n` in one direction up to the horizon, at most `f`. -/
def searchAll (n : Nat) (rising : Bool) : Nat → State → List Planned × State
  | 0, s => ([], s)
  | f + 1, s =>
    match searchSlot n rising s with
    | (false, _, s) => ([], s)
    | (true, p, s) =>
      let r := searchAll n rising f s
      (p.toList ++ r.1, r.2)

/-- Converts the next crossing of slot `n` in one direction, unless it is planned already. -/
def convertDir (n : Nat) (rising : Bool) (s : State) : State :=
  match searchSlot n rising s with
  | (_, some p, s) => if (planned s).any (fun q => p.same q && q.cross == p.cross) then s else takeConverted p s
  | (_, none, s) => s

/-- What a lane's target is as a target of the planner. -/
def laneArgs (sh : Nat) : SectorArgs :=
  { shaft := sh, kind := 4, angle := 0, turnRule := 0, n := 1, phase := 0, turn := 0, dir := 0, timeOffset := 0,
    target := 0, record := 0, irq := false, missPolicy := 0 }

/-- A conversion lane searches for one absolute angle `t` of shaft `sh` (R224). -/
def searchLane (k slot sh : Nat) (rising : Bool) (t : Int) (s : State) : Option Planned × State :=
  let put := fun (c : Cursor) (s : State) => modSh (fun b => { b with lanes := b.lanes.set k c }) s
  let now : Int := units s
  let c := s.shaft.lanes.get (cursorAt s sh (now + 1)) k
  let limit := now + planHorizon s
  match findCross s sh rising (onlyTarget rising t) c limit with
  | none => (none, put (afterNone s sh limit c) s)
  | some (v, carried, t) => (some (mkPlan s (laneArgs sh) slot rising v t 0 0), put (afterCross v carried) s)

/-- t_g of the pending gear change of shaft `n` becomes known. -/
def gearTime (n : Nat) (t : Int) (s : State) : State :=
  modShaft n (fun h => { h with pend := h.pend.map (fun g => { g with tg := some t }) }) s

/-- A pending gear change at an angle is converted on its shaft's lane (R224). -/
def convertGear (n : Nat) (s : State) : State :=
  match (shaft s n).pend with
  | none => s
  | some g =>
    if g.arg.when_ ≠ 2 ∨ g.tg.isSome ∨ !shaftRunning s g.arg.src then s
    else match searchLane (n + 1) (gearSlot n) g.arg.src (g.arg.dir == 0) (sext 64 g.arg.target) s with
    | (none, s) => s
    | (some p, s) => takeConverted p (gearTime n p.cross s)

/-- A pending COMMIT at an angle is converted on its lane and armed on C60 (R224, R339). -/
def convertCommit (s : State) : State :=
  match s.keep.commit with
  | none => s
  | some c =>
    if c.when_ ≠ 2 ∨ c.armed ∨ !shaftRunning s c.shaft ∨ (planned s).any (fun p => p.slot == commitSlot) then s
    else match searchLane 0 commitSlot c.shaft (c.dir == 0) (sext 64 c.target) s with
    | (none, s) => s
    | (some p, s) => takeConverted p s

/-- ANGLE_BOUNDARY_CONVERTED (R280, R224): the lane of port `p` converts the end of the current entry. -/
def effAngleBoundaryConverted (p : Nat) (s : State) : State :=
  let x := portSched s p
  match x.gcl with
  | none => s
  | some g =>
    if g.ref = 0 ∨ x.state ≠ 2 ∨ x.next.isSome ∨ !rShaft s ∨ (planned s).any (fun q => q.slot == gateSlot p) then s
    else match searchLane (gateLane p) (gateSlot p) g.shaft true (laneTarget g x) s with
    | (none, s) => s
    | (some q, s) => takeConverted q s

/-- PLAN_CONVERSION (R217): a slot's next crossing in each of its directions; the slots above 8,191 are the lanes of
COMMIT and of gear changes. -/
def effPlanConversion (n : Nat) (s : State) : State :=
  if !rShaft s then s
  else if n = commitSlot then convertCommit s
  else if gearSlot 0 ≤ n then convertGear (n - gearSlot 0) s
  else convertDir n false (convertDir n true s)

/-! ## Replanning (R218 to R220) -/

/-- Takes a target that a new search has found: REPLANNED, with the flags it had, where its time has changed (R218). -/
def takeFound (gone : List Planned) (s : State) (p : Planned) : State :=
  match gone.find? p.same with
  | some q => takeConverted { p with flags := p.flags ||| q.flags ||| 2 } s
  | none => takeConverted p s

/-- REPLAN_DONE (R218): the targets of shaft `n` and of the shafts derived from it, after its trajectory changed from an
instant on.  Those found again at their time keep their place; the others are withdrawn, and the new ones are taken in
order of fire time (R219), REPLANNED where their time has changed.  Lanes convert theirs again. -/
def effReplanDone (n : Nat) (s : State) : State :=
  match (shaft s n).changed with
  | none => s
  | some (v, committed) =>
    if !rShaft s then s
    else
      let free := (planned s).filter (fun p => p.on s n && decide (v ≤ p.cross) && !p.flags.testBit 2)
      let ids := (s.shaft.slots.filter (fun e => follows s e.2.arg.shaft n)).map (·.1)
      let r := ids.foldl (fun (x : List Planned × State) i =>
        let a := searchAll i true 64 x.2
        let b := searchAll i false 64 a.2
        (x.1 ++ a.1 ++ b.1, b.2)) ([], s)
      let again := fun (p q : Planned) => p.same q && p.cross == q.cross
      let gone := free.filter (fun p => !r.1.any (again p))
      let fresh := r.1.filter (fun p => !(planned r.2).any (again p))
      let moved := fresh.filter (fun p => gone.any p.same)
      let s := withdrawAll gone r.2
      let s := (fresh.foldl (fun l p => insertPlan p l) []).foldl (takeFound gone) s
      let s := modShaft n (fun h => { h with changed := none }) s
      let s := govCancel .plannerBurst (modSh (fun b => { b with burst := false }) s)
      afterRoom (report bSHAFT 0x08 [w32 n, w32 moved.length, w32 committed] s)

/-- A catch-up burst of the planner (R219). -/
def burstAsked (s : State) : State :=
  match govRequest .plannerBurst s with
  | (.queued, s) => modSh (fun b => { b with burst := true }) s
  | (_, s) => s

/-- A gear change at a rolling time enters the time queue, and fires on C20 to C27 (R15, R211, R224). -/
def queueGear (n : Nat) (s : State) : State :=
  match (shaft s n).pend with
  | none => s
  | some g =>
    match g.tg with
    | some t =>
      if g.arg.when_ = 1 ∧ !(planned s).any (fun p => p.slot == gearSlot n) then
        queuePlan (mkPlan s (laneArgs g.arg.src) (gearSlot n) true t 0 0 0) s
      else s
    | none => s

/-- Gear changes at a rolling time keep it: they enter the emptied time queue anew. -/
def queueGears (s : State) : State := (List.range 64).foldl (fun s n => queueGear n s) s

/-- What withdrawing every target leaves of the pending gear changes at a rolling time. -/
def keepGearTimes (s0 s : State) : State :=
  (List.range 64).foldl (fun s n =>
    match (shaft s0 n).pend with
    | some g => if g.arg.when_ = 1 then modShaft n (fun h => { h with pend := some g }) s else s
    | none => s) s

/-- Every target leaves the time queue and its consumer. -/
def withdrawEvery (s : State) : State := keepGearTimes s (withdrawAll (planned s) s)

/-- SHAFT begins to plan: every search begins now. -/
def plannerBegins (s : State) : State :=
  let now : Int := units s
  let s := withdrawEvery s
  let slot := fun (e : Nat × SectorSlot) =>
    let c := cursorAt s e.2.arg.shaft (now + 1)
    (e.1, { e.2 with up := c, down := c, spent := [] })
  queueGears (modSh (fun b => { b with lanes := [], slots := b.slots.map slot }) s)

/-- Every armed target was cancelled (R130, R220): every target is converted again.  Searches go back to the first crossing
that may still fire; a target that the step has passed over is missed. -/
def plannerCancelled (s : State) : State :=
  let s := coursesFollow s
  let now : Int := units s
  let all := (planned s).filter (fun p => !p.flags.testBit 2)
  let passed := all.filter (fun p => decide (p.slot < 8192) && decide (p.fire < now) && shaftRunning s p.shaft)
  let slot := fun (e : Nat × SectorSlot) =>
    let m := e.2.arg.shaft
    let v := now - e.2.arg.timeOffset
    (e.1, { e.2 with up := e.2.up.back s m v, down := e.2.down.back s m v, spent := [] })
  let lane := fun (e : Nat × Cursor) =>
    match laneShaft s e.1 with
    | some m =>
      let at_ := ((planned s).find? (fun p => p.slot == e.1 + 8192)).map (·.cross)
      (e.1, e.2.back s m (min now (at_.getD now)))
    | none => e
  let s := modSh (fun b => { b with slots := b.slots.map slot, lanes := b.lanes.map lane }) s
  let s := modSh (fun b => { b with tq := [], wait := [] }) (withdrawEvery s)
  let s := passed.foldl (fun s p => missPlan p 16 s) s
  burstAsked (queueGears s)

/-- PLAN_OVERLOAD (R219). -/
def effPlanOverload (on : Bool) (s : State) : State := reviewOverload (modSh (fun b => { b with overload := on }) s)

/-! ## Firing rows -/

/-- The time of a pending gear change has come: it is applied (R211, R224). -/
def gearDue (n : Nat) (s : State) : State :=
  match (shaft s n).pend with
  | none => s
  | some p =>
    match p.tg with
    | none => s
    | some t =>
      let s := dropTargets (gearSlot n) (modSh (fun b => { b with lanes := b.lanes.del (n + 1) }) s)
      gearChanged n 0 t (applyGear n p.arg t s)

/-- Ck of C20 to C27 fires: the planner's own targets on it that are due. -/
def firePlanner (k : Nat) (s : State) : State :=
  match fireCmp k s with
  | (none, s) => s
  | (some a, s) =>
    let due := s.shaft.tq.filter (fun p => p.own && p.cmp == k && decide (p.fire ≤ a.fires))
    let s := due.foldl (fun s p =>
      if p.slot < 8192 then firePlan p a.fires s else gearDue (p.slot - gearSlot 0) s) s
    afterRoom (armPlanner s)

/-- GEAR_CHANGED: the time of a pending gear change has come, on the comparator that holds it. -/
def effGearChanged (n : Nat) (s : State) : State :=
  match s.shaft.tq.find? (fun p => p.slot == gearSlot n) with
  | some p => if rShaft s then firePlanner p.cmp s else s
  | none => s

/-- The fire time of a pulse's rising edge has come: the event that asked for it has fired. -/
def pulseFired (n slot : Nat) (due : Int) (s : State) : State :=
  match s.shaft.tq.find? (fun p => p.slot == slot && p.kind == 0 && p.arg.target == n && p.fire == due) with
  | some p => afterRoom (firePlan p due s)
  | none => s

/-- PULSE_EDGE with the sector event whose rising edge it is. -/
def effPulseEdgeOf (n : Nat) (s : State) : State :=
  let p := pulse s n
  let s' := effPulseEdge n s
  if p.set.mode = 2 ∧ !p.high then
    match p.queue with
    | (due, some slot) :: _ => if (pulse s' n).high then pulseFired n slot due s' else s'
    | _ => s'
  else s'

/-- SECTOR_FIRED (R223): the `i`-th target of the time queue, at its fire time, on its own engine; a launch whose slot has
left MODE 3 since is refused. -/
def effSectorFired (i : Nat) (s : State) : State :=
  match s.shaft.tq[i]? with
  | none => s
  | some p =>
    if p.own then firePlanner p.cmp s
    else if 8192 ≤ p.slot then s
    else if p.kind = 0 then (if (pulse s p.arg.target).high then s else effPulseEdgeOf p.arg.target s)
    else if p.kind = 2 ∧ (slotOf s p.arg.target).args.mode ≠ 3 then
      let s := passTo p.fire s
      afterRoom (missPlan p (16 + 128) (modSh (fun b => { b with tq := b.tq.erase p }) s))
    else s

/-- EVENT_MISSED (R219, R221): a target of slot `n` that waits for room is missed 1 µs before its fire time. -/
def effEventMissed (n : Nat) (s : State) : State :=
  match s.shaft.wait.find? (fun p => p.slot == n) with
  | none => s
  | some p =>
    let s := passTo (p.fire - usU 1) s
    missPlan p 16 (modSh (fun b => { b with wait := b.wait.erase p }) s)

/-- A launch of slot `n` that an event planned has happened. -/
def launchPlanned (n : Nat) (s : State) : Option Planned × State :=
  match (slotOf s n).args.mode, (slotOf s n).next, slotPlans s n with
  | 3, none, p :: _ => (some p, modSh (fun b => { b with tq := b.tq.erase p }) s)
  | _, _, _ => (none, s)

/-- The launch time of slot `n` in MODE 1 to 3: a MODE 3 slot's event fired late, else its next plan. -/
def launchTime (s : State) (n : Nat) : Option Int :=
  let x := slotOf s n
  if x.args.mode = 3 ∧ x.next.isSome then x.next else slotNext s n

/-- LAUNCH (R289 to R292). -/
def effLaunch (n stamp : Nat) (s : State) : State :=
  let x := slotOf s n
  if x.args.mode = 0 ∨ x.args.mode = 4 ∨ !rSched s then s
  else match launchTime s n with
  | none => s
  | some t =>
    let s := passTo t s
    if !portUp s x.args.port then s
    else if launchKind s n t ≠ 0 ∧ (launchBlocked s x.args.port x.args.cls x.frame.length ∨ dueOf s stamp < t
        ∨ (x.args.lateLimit : Int) < dueOf s stamp - t) then s
    else
      let r := launchPlanned n s
      let s := launchSlot n t stamp r.2
      match r.1 with
      | some p => afterRoom (onceDone p (oweRecord p (some t) (sectorEffect p t s)))
      | none => s

/-- A committed repeat could not leave by its deadline + LATE_LIMIT (R291, R294). -/
def repeatMissed (n : Nat) (s : State) : State :=
  let x := slotOf s n
  match x.next, repeatChan s n with
  | some t, some c =>
    let s := passTo t s
    if !x.committed ∨ !launchBlocked s x.args.port x.args.cls x.frame.length then s
    else repeatDone n t c.2.hrPeriod (launchMissed n t 2 (passTo (t + (x.args.lateLimit : Int)) s))
  | _, _ => s

/-- LAUNCH_MISSED (R291): the port is not UP at T, or the launch could not leave by T + LATE_LIMIT. -/
def effLaunchMissed (n : Nat) (s : State) : State :=
  let x := slotOf s n
  if x.args.mode = 0 ∨ !rSched s then s
  else if x.args.mode = 4 then repeatMissed n s
  else match launchTime s n with
  | none => s
  | some t =>
    let s := passTo t s
    if launchKind s n t = 0 then s
    else
      let down := !portUp s x.args.port
      if !down ∧ !launchBlocked s x.args.port x.args.cls x.frame.length then s
      else
        let s := if down then s else passTo (t + (x.args.lateLimit : Int)) s
        let r := launchPlanned n s
        let s := slotAdvance n (launchMissed n t (if down then 1 else 2) r.2)
        match r.1 with
        | some p => afterRoom (onceDone p (oweRecord p (some t) s))
        | none => s

/-! ## Commands (R222, R452) -/

/-- KIND and TARGET of an event agree with Table SH-6. -/
def targetOk (s : State) (a : SectorArgs) : Bool :=
  match a.kind with
  | 0 => decide (a.target < 24) && (pulse s a.target).set.mode == 2
  | 1 => decide (a.target < 2 ^ 17) && fld a.target 7 6 == 0
  | 2 => decide (a.target < 1024)
  | _ => a.target == 0

/-- SECTOR_ADD: allocates the lowest free slot and begins its search. -/
def bodySectorAdd (a : SectorArgs) (s : State) : Resp :=
  if !rShaft s then refuse stNotReady s
  else if 64 ≤ a.shaft ∨ 4 < a.kind ∨ 2 ^ 32 ≤ a.angle ∨ 2 < a.turnRule ∨ (a.turnRule = 1 ∧ (a.n < 1 ∨ 65535 < a.n ∨ a.n ≤ a.phase))
      ∨ (a.turnRule = 2 ∧ (a.turn < -(2 ^ 31) ∨ 2 ^ 31 ≤ a.turn)) ∨ 2 < a.dir ∨ usU 1000 < |a.timeOffset| ∨ 2 < a.record
      ∨ 1 < a.missPolicy ∨ !targetOk s a then refuse stOutOfRange s
  else match s.shaft.slots.freeFrom 0 8192 with
  | none => refuse stNoResource s
  | some n =>
    let now : Int := units s
    let c := cursorAt s a.shaft (now + 1)
    okWith (w64 n) (modSh (fun b => { b with slots := b.slots.set n { arg := a, up := c, down := c, spent := [] } }) s)

/-- SECTOR_REMOVE (R452): targets within 2 µs still fire. -/
def bodySectorRemove (n : Nat) (s : State) : Resp :=
  if !rShaft s then refuse stNotReady s
  else if 8191 < n then refuse stOutOfRange s
  else if (s.shaft.slots.find n).isNone then ok s
  else
    let near := fun (p : Planned) => p.slot == n && decide (p.fire ≤ (units s : Int) + usU 2)
    ok (freeSlot n (modSh (fun b => { b with tq := b.tq.map (fun p => if near p then { p with flags := p.flags ||| 4 } else p) }) s))

/-- GEAR_SET (R210, R211, R224).  Its completion, when it returned ACCEPTED, is GEAR_CHANGED. -/
def bodyGearSet (h : CmdHdr) (a : GearArgs) (s : State) : Resp :=
  let now : Int := units s
  if !rShaft s then refuse stNotReady s
  else if 64 ≤ a.shaft ∨ 64 ≤ a.src ∨ a.den = 0 ∨ 2 ^ 32 ≤ a.den ∨ a.num < -(2 ^ 31) ∨ 2 ^ 31 ≤ a.num
      ∨ 2 < a.when_ ∨ 1 < a.dir then refuse stOutOfRange s
  else if gearReaches s 5 a.src a.shaft ∨ 4 < chainDepth s 5 a.src + 1 + chainAbove s 5 a.shaft then refuse stOutOfRange s
  else if a.when_ = 1 ∧ nsAhead s a.target ≤ 0 then refuse stOutOfRange s
  else
    let busy := match (shaft s a.shaft).pend with
      | some p => (match p.tg with | some t => decide (t ≤ now + usU 2) | none => false)
      | none => false
    if busy then refuse stBusy s
    else
      let s := dropGear a.shaft 1 s
      if a.when_ = 0 then ok (gearChanged a.shaft 0 now (applyGear a.shaft a now s))
      else
        let tg := if a.when_ = 1 then some (dueOf s a.target) else none
        let s := modShaft a.shaft (fun x => { x with pend := some ⟨h, a, tg⟩ }) s
        let s := if a.when_ = 1 then queueGear a.shaft s
          else modSh (fun b => { b with lanes := b.lanes.set (a.shaft + 1) (cursorAt s a.src (now + 1)) }) s
        accepted 0x0C03 a.shaft h s

/-! ## Captured shafts (R208) -/

/-- Encoder records as instants and exact angles in 2^-32 turn, newest first: those within FIT_WINDOW, or the last one
alone where it is older. -/
def capPoints (s : State) (n : Nat) (now : Int) : List (Rat × Rat) :=
  let e := parN s bSHAFT n Par.shCapEncoder
  let win := usU (parN s bSHAFT n Par.shFitWindow)
  let lines : Rat := parN s bTIC (0x40 + e) Par.tcEncLines
  let zero := par s bSHAFT n Par.shCapZero
  let off := par s bSHAFT n Par.shCapOffset
  let all := (s.tic.encs.get Enc.reset e).recs
  let recs := (all.take 1 ++ (all.drop 1).filter (fun r => decide (now - win ≤ r.1))).take 4096
  recs.map (fun r => ((r.1 : Rat), (((r.2 - zero : Int) : Rat) * 2 ^ 32 / (4 * lines) + (off : Rat))))

/-- The sum of a function over points. -/
def sumBy (f : Rat × Rat → Rat) (l : List (Rat × Rat)) : Rat := l.foldl (fun a x => a + f x) 0

/-- The determinant of a 3 by 3 matrix. -/
def det3 (a b c d e f g h i : Rat) : Rat := a * (e * i - f * h) - b * (d * i - f * g) + c * (d * h - e * g)

/-- The least-squares quadratic of R208 through points: tc and the coefficients a, b, c. -/
def fitQuad (l : List (Rat × Rat)) : Rat × Rat × Rat × Rat :=
  let n : Rat := l.length
  let tc := sumBy (·.1) l / n
  let x := fun (p : Rat × Rat) => p.1 - tc
  let u := fun (p : Rat × Rat) => (p.1 - tc) ^ 2 / 2
  let sx := sumBy x l
  let su := sumBy u l
  let sxx := sumBy (fun p => x p * x p) l
  let sxu := sumBy (fun p => x p * u p) l
  let suu := sumBy (fun p => u p * u p) l
  let sy := sumBy (·.2) l
  let sxy := sumBy (fun p => x p * p.2) l
  let suy := sumBy (fun p => u p * p.2) l
  let d := det3 n sx su sx sxx sxu su sxu suu
  if d = 0 then (tc, sy / n, 0, 0)
  else (tc, det3 sy sx su sxy sxx sxu suy sxu suu / d, det3 n sy su sx sxy sxu su suy suu / d,
        det3 n sx sy sx sxx sxy su sxu suy / d)

/-- The nearest integer, halves up. -/
def roundRat (q : Rat) : Int := (q + 1 / 2).floor

/-- SPAN of at least `us` µs as a mantissa and exponent (Table SH-2). -/
def spanCode (us : Nat) : Nat :=
  let e := ((List.range 16).find? (fun k => decide (us ≤ 255 * 2 ^ k))).getD 15
  (us + 2 ^ e - 1) / 2 ^ e * 256 + e * 16

/-- CAPTURE_FIT (R208): one fit of a captured shaft produces one segment; a mirror discards it (R212). -/
def effCaptureFit (n : Nat) (s : State) : State :=
  if !rShaft s ∨ (shaft s n).source ≠ 2 then s
  else
    let now : Int := units s
    let un := now - s.guh.stepSum
    let t0 := now + usU (parN s bSHAFT n Par.shLead)
    let x0 : Rat := ((t0 - s.guh.stepSum : Int) : Rat)
    let k : Rat := perSec
    let pts := capPoints s n un
    let rest : Rat := ((angleAt s n t0).getD 0 : Int)
    let q : Rat × Rat × Rat × Rat := if pts.length < 8 then (x0, (pts.head?.map (·.2)).getD rest, 0, 0)
      else fitQuad pts
    let p := fun (t : Rat) => q.2.1 + q.2.2.1 * (t - q.1) + q.2.2.2 * (t - q.1) ^ 2 / 2
    let dp := fun (t : Rat) => (q.2.2.1 + q.2.2.2 * (t - q.1)) * k
    let th0 : Int := match angleAt s n t0 with
      | some a => a
      | none => roundRat (p x0)
    let tc : Rat := parN s bSHAFT n Par.shCapTc
    let omega := roundRat (dp x0 + (p x0 - (th0 : Rat)) * 1000000 / tc)
    let alpha := roundRat (q.2.2.2 * k * k / 16)
    let s := match angleAt s n now with
      | some a =>
        if (par s bSHAFT n Par.shCapTrackLimit : Rat) < |p (un : Rat) - (a : Rat)| then raise bSHAFT 9 s else s
      | none => s
    let g : Seg := { t0 := t0, theta := th0, omega := wrapI 48 omega, alpha := wrapI 48 alpha, jerk := 0,
                     flags := spanCode (2 * parN s bSHAFT n Par.shFitPeriod), claim := ownClaim s }
    if isMirror s n then s
    else match acceptSeg n g false s with
    | (.taken, s) => distribute n g none s
    | (.duplicate, s) => countDup n s
    | (_, s) => countRejected n s

end Sys2Proof.Machine
end

