-- ==== Sys2Proof/Machine/Run.lean ====
section
/-! DEFINITION. What every command ends with: stopped and reset blocks are carried through (R341, R378, R448), what
follows from a ready bit that changed (R24, R107, R163), and the report of every change (R24).  Then the blocks that
reach RUN (R341, R365). -/

namespace Sys2Proof.Machine

/-! ## Stops and resets of blocks, family by family -/

/-- Quad `q` stops; unless it stays OFF its loops start again on the parameters in effect (R341, R378). -/
def haltQuad (q : Nat) (off : Bool) (s : State) : State :=
  let s := quadStops q s
  let s := (List.range 4).foldl (fun s n => portGoesDown (4 * q + n) s) s
  if off then s else startQuad q s

/-- The selectors and candidates of REFS run no more; the mooring record stays (R155). -/
def refsStop (s : State) : State :=
  guhSelect 0xFF false 0xFF (modRefs (fun r => { r with
    cands := [], sels := (selsFreeze s).map (fun e => (e.1, { e.2 with force := (r.sels.get Selector.reset e.1).force })) }) s)

/-- SHAFT plans nothing any more: planned targets are withdrawn, and pending changes at an angle wait (R224). -/
def shaftStop (s : State) : State :=
  modSh (fun b => { b with tq := [], wait := [], owed := [], lanes := [] }) (withdrawEvery s)

/-- The hardware of SHAFT starts anew: no segment, no slot, no record. -/
def shaftReset (s : State) : State :=
  let s := (List.range 64).foldl (fun s d => dropGear d 2 s) (shaftStop s)
  { s with shaft := { ShaftBlk.reset with recLost := s.shaft.recLost } }

/-- Table loads in progress end without completing. -/
def loadsEnd (s : State) : State :=
  s.core.loads.foldl (fun s l =>
    completeWith 0x0503 0 bLKP 0x02 [w32 l.table, w32 l.written] stNotReady
      (govCancel .tableLoad (modCore (fun k => { k with loads := k.loads.drop 1 }) s))) s

/-- The tables and the descriptor cache of LKP are empty again; the Light List lies in Store. -/
def lkpReset (s : State) : State :=
  modCore (fun k => { k with
    vlan := [], fdb := [], streams := [], groups := [], cache := [], stagedMods := [], missQ := [], hits := 0,
    misses := 0 }) s

/-- BUF holds no frame any more; what a transmitter is sending is cut (R257). -/
def bufReset (s : State) : State :=
  let s := s.sched.ports.foldl (fun s e =>
    if e.2.tx.isSome then emit (.frameAbort e.1 2) (modPort e.1 (fun x => { x with tx := none }) s) else s) s
  modBuf (fun b => { b with ins := [], outs := [], orphans := 0, asserted := [], adm := [] })
    (modCore (fun k => { k with frames := [], open_ := [], missQ := [] }) s)

/-- The gate and launch engines of SCHED stop: every list waits with open gates. -/
def schedStop (s : State) : State :=
  let s := (List.range 20).foldl (fun s k => disarm k s) s
  s.sched.ports.foldl (fun s e => if e.2.gcl.isSome then waitList e.1 s else s) (endCause bSCHED 7 s)

/-- The hardware of SCHED starts anew. -/
def schedReset (s : State) : State :=
  let s := schedStop s
  { s with sched := { s.sched with
      ports := s.sched.ports.map (fun e => (e.1, { PortSched.reset with tx := e.2.tx })), slots := [], policers := [] } }

/-- The self-tests and the rotation of HLTH end. -/
def hlthStop (s : State) : State :=
  let s := (s.hlth.bist.map (·.1)).foldl (fun s b => bistAbort b s) s
  modHlth (fun x => { x with rot := none }) s

/-- The hardware of GUH starts anew (R107, R120): what REFS has selected stays, and a pending TIME_ADJUST ends. -/
def guhReset (s : State) : State :=
  let g := s.guh
  let due := g.adjust.isSome
  let s := { s with guh := { Guh.reset with
    state := g.state, refId := g.refId, refTime := g.refTime, freqOnly := g.freqOnly, refQl := g.refQl,
    mooringOk := g.mooringOk, dpllIn := g.dpllIn, cmps := g.cmps, timescale := g.timescale,
    stepSum := g.stepSum, cancelled := g.cancelled, timeSet := g.timeSet } }
  if due then completeDone 0x0802 0 stNotReady s else s

/-- Stops block `k` mod 256, or re-initialises its hardware where it is not to stay OFF or where 256 is added
(R341, R378, R398). -/
def haltBlock (k : Nat) (s : State) : State :=
  let b := k % 256
  let stopped := decide ((hdr s b).state = .off)
  let off := stopped && decide (k < 256)
  let s := if (s.hlth.bist.find b).isSome then bistAbort b s else s
  if isQuadB b then haltQuad (b - 0x10) stopped s
  else if isPortB b then portGoesDown (b - 0x20) s
  else match b with
  | 0x02 => modHost (fun h => { h with spiServed := false }) (pcieDown s)
  | 0x03 => if stopped then s else storeLost s
  | 0x04 => csynStops s
  | 0x05 => if off then refsStop s else refsReset s
  | 0x06 => if off then s else guhReset s
  | 0x07 => if off then shaftStop s else shaftReset s
  | 0x08 =>
    let s := ticStops mdBlockStop s
    if off then s else modTic (fun t => { t with chs := [], encs := [], sel := 0, mons := [] }) s
  | 0x09 => pairStop s
  | 0x0B => if off then loadsEnd s else lkpReset (loadsEnd s)
  | 0x0C => if off then s else bufReset s
  | 0x0D => if off then schedStop s else schedReset s
  | 0x0E => if off then s else { s with trace := Trace.reset }
  | 0x0F => hlthStop s
  | _ => s

/-- COMPARATOR_FIRE (R128, Table GT-7). -/
def effComparatorFire (k : Nat) (s : State) : State :=
  if k < 16 then fireGates k s
  else if k < 20 then fireLaunch (k - 16) s
  else if k < 28 then firePlanner k s
  else if k < 52 then effPulseEdgeOf (k - 28) s
  else if k < 60 then effFrameOutputEdge (k - 52) s
  else if k = 60 then fireCommit s
  else if k = 61 then
    (match fireCmp 61 s with
     | (some _, s) => fireAdjust s
     | (none, s) => s)
  else if k = 62 then fireSyncs s
  else
    (match fireCmp 63 s with
     | (some _, s) => effLeapDone s
     | (none, s) => s)

/-- Carries through what a command left behind: the comparators that a step made fire in its tick (R129), and every
stop and reset. -/
def carry (s : State) : State :=
  let s := s.guh.fires.foldl (fun s k => effComparatorFire k s) { s with guh := { s.guh with fires := [] } }
  s.halts.foldl (fun s b => haltBlock b s) { s with halts := [] }

/-! ## What a ready bit that changed brings about -/

/-- Ready bit `n` was last reported set and is clear. -/
def lostBit (s : State) (n : Nat) : Bool := s.told.testBit n && !(ready0 s).testBit n
/-- Ready bit `n` was last reported clear and is set. -/
def gainedBit (s : State) (n : Nat) : Bool := !s.told.testBit n && (ready0 s).testBit n

/-- ISOPHASE starts toggling when KEEP_CMD first sets, provided no cause of R382 has occurred (R381). -/
def isoStart (s : State) : State :=
  if s.iso.started then s
  else if s.iso.cause = 3 then
    { s with iso := { s.iso with started := true, running := true, cause := 0, stopBlock := 0xFF, stopIndex := 0,
                                 period := s.iso.nextPeriod } }
  else { s with iso := { s.iso with started := true } }

/-- TIMEPLL clears (R163, R306, R448): FATAL sets and outputs go dark. -/
def timePllLost (s : State) : State :=
  let was := s.pair.fatal
  let s := setFatal s
  let s := { s with pair := { s.pair with fatalCsyn := s.clk.csynStopped && !was } }
  outputsDark s

/-- TIMEPLL sets: a FATAL set only because CSYN was stopped clears (R448). -/
def timePllGained (s : State) : State :=
  if s.pair.fatalCsyn then
    let s := { s with pair := { s.pair with fatal := false, fatalCsyn := false, hbDirty := true } }
    let s := if s.pair.state = some .failed then enterRole .listening s.pair.epoch 8 s else s
    evalGrant s
  else s

/-- GUH_RUN clears (R107): every armed target is cancelled, and a pending COMMIT with its target; a pending TIME_ADJUST
waits to be armed again. -/
def guhHalt (s : State) : State :=
  let on60 := (s.guh.cmps.find 60).isSome
  let s := report bGUH 0x05 [] (outputsCancelled { s with guh := { s.guh with
    cmps := [], fires := [], syncs := [], held := none, switching := false, lockRun := false, unlockRun := false } })
  if on60 then cancelCommit 3 s else s

/-- The launch comparators are armed anew. -/
def armLaunches (s : State) : State := (List.range 4).foldl (fun s k => armLaunch k s) s

/-- The Keeper re-arms its comparators (R107, R130): C61 with a pending TIME_ADJUST, C62 with the Syncs of the ports in
MASTER, C63 with an announced leap. -/
def keeperRearms (s : State) : State :=
  let s := rearmAdjust (armLeap s)
  (s.edges.filter (fun e => e.2.ptp.state == 6)).foldl (fun s e => planSync e.1 s) s

/-- GUH_RUN sets (R107): the counter starts at 0 where it is to, Guhild enters FREE, and its users re-arm (R25, R130). -/
def guhStart (s : State) : State :=
  let s :=
    if s.guh.resetCount then
      { s with c5 := 0, guh := { s.guh with resetCount := false, stepSum := s.guh.stepSum - (units s : Int) } }
    else s
  let s := enterG .free { s with guh := { s.guh with timescale := parN s bGUH 0 Par.gtTimescale } }
  armLaunches (reviewLists (outputsLight (keeperRearms s)))

/-- After targets were cancelled (R130): the planner, the gate lists and the launches re-arm by their own rules. -/
def afterCancel (s : State) : State :=
  if !s.guh.cancelled then s
  else
    let t := s.guh.timeSet
    let s := { s with guh := { s.guh with cancelled := false, timeSet := false } }
    if !rGuhRun s then s
    else
      let s := if t then shaftsTimeSet s else s
      armLaunches (listsCancelled (if rShaft s then plannerCancelled (keeperRearms s) else keeperRearms s))

/-- `f` where `c` holds. -/
def when (c : Bool) (f : State → State) (s : State) : State := if c then f s else s

/-- What follows from the ready bits that changed since they were last reported. -/
def settleBits (s : State) : State :=
  let lost := lostBit s
  let gained := gainedBit s
  let s := when (gained 0) isoStart s
  let s := when (lost 5) timePllLost s
  let s := when (gained 5) timePllGained s
  let s := when (lost 8) guhHalt s
  let s := when (gained 8) guhStart s
  let s := when (lost 12) (measAll mdNotReady) s
  let s := when (lost 7) refsStop s
  let s := when (gained 7) (fun s => (List.range 64).foldl (fun s p => presence p s) s) s
  let s := when (lost 11) shaftStop s
  let s := when (gained 11) plannerBegins s
  let s := when (gained 17) armLaunches s
  let s := when (lost 13 || gained 13) evalGrant s
  afterCancel s

/-- Nothing is left to carry through, to drive, to hold or to report. -/
def settled (s : State) : Bool :=
  s.halts.isEmpty && s.guh.fires.isEmpty && holdSettled s && listsSettled s && clampMask s == s.clk.clamped && s.told == ready0 s && s.told1 == ready1 s && !s.guh.cancelled && pinsSettled s

/-- One pass of what every command ends with. -/
def settlePass (s : State) : State := reportReady (drivePulses (reviewClamp (reviewHold (reviewLists (settleBits (carry s))))))

/-- What every command ends with.  A pass can stop a block or change a ready bit in its turn, so there are two. -/
def finish (s : State) : State :=
  if settled s then s
  else
    let s := settlePass s
    if settled s then s else settlePass s

/-! ## Blocks reach RUN -/

/-- The function of block `b` starts as it reaches RUN. -/
def startFunction (b : Nat) (s : State) : State :=
  match b with
  | 0x02 => modHost (fun h => { h with spiServed := true }) s
  | 0x04 => csynStarts s
  | 0x07 => applyShafts s
  | 0x08 => applyTic s
  | 0x09 => pairStart s
  | _ => s

/-- BLOCK_REACHES_RUN: the end of INIT and READY, or of a restart by a reaction (R341, R365, R378). -/
def effBlockReachesRun (b : Nat) (s : State) : State :=
  let st := (hdr s b).state
  if nBlocks ≤ b ∨ (st ≠ .init ∧ st ≠ .ready ∧ st ≠ .fault) then s
  else
    let s := startFunction b (modHdr b (fun h => { h with state := .run }) s)
    completeDone 0x000A b stOk (completeDone 0x0009 b stOk s)

/-- TAKEOVER_DONE (R310, R212): the unit has taken over claimed outputs and held shafts; the event gives the time since
recognition in ns. -/
def effTakeoverDone (s : State) : State :=
  match s.pair.takeover with
  | none => s
  | some t =>
    let s0 := s
    let s := { s with pair := { s.pair with takeover := none } }
    evaluate (reportShafts s0 (report bPAIR 0x07 [w32 ((s.ticks - t) * 8 / 5)] s))

/-! ## Rows that join several parts -/

/-- What follows a block that trunk `p` received when its words were those of `r`: the test for UP, the presence of the
trunk as a candidate (R142), and an evaluation where the quality or the claim that it hears has changed (R148). -/
def blockHeard (p : Nat) (r : TrunkRx) (s : State) : State :=
  let s := presence p (reachUp p s)
  let n := (trunk s p).rx
  if rRefs s && (r.quality != n.quality || claimOf r.heart != claimOf n.heart) then evaluate s else s

/-- DIFIVI_BLOCK_RECEIVED, with what follows it. -/
def effBlockReceived (p : Nat) (comma : Bool) (region : List Bool) (raw : Nat) (s : State) : State :=
  blockHeard p (trunk s p).rx (effDifiviBlockReceived p comma region raw s)

/-- TRUNK_LINK_DOWN_FILTER, with the presence of the trunk as a candidate. -/
def effTrunkFilter (p : Nat) (s : State) : State := presence p (effTrunkLinkDownFilter p s)

/-- TIME_CHECK_PASSED: the trunk becomes a candidate, and its credits are checked on entry to TIMED (R65, R263). -/
def effTimeCheck (p : Nat) (s : State) : State :=
  let was := (trunk s p).link
  let s := presence p (effTimeCheckPassed p s)
  if was ≠ .timed ∧ (trunk s p).link = .timed then reachUp p (checkCredit p s) else s

/-- EXCHANGE_LOSS: the trunk is withdrawn as a candidate (R66). -/
def effExchangeLost (p : Nat) (s : State) : State := presence p (effExchangeLoss p s)

/-- TRUNK_HOLDOFF_EXPIRED. -/
def effTrunkHoldoff (p : Nat) (s : State) : State := presence p (effTrunkHoldoffExpired p s)

/-- EXCHANGE_WINDOW_END (R116): the window's sample goes to Guhild, or to the monitors of the candidate (R139, R141). -/
def effExchangeWindowEnd (p : Nat) (s : State) : State :=
  if !isTrunk s p then s
  else match windowEnd p s with
  | (some e, s) => phaseSample (0x20 + p) e (effGuhSample (0x20 + p) e s)
  | (none, s) => s

/-- GOVERNOR_GRANT, with what the granted operation begins (R390, R391). -/
def effGrant (s : State) : State := afterGrant (effGovernorGrant s)

end Sys2Proof.Machine
end

