-- ==== Sys2Proof/Machine/Params.lean ====
section
/-! DEFINITION. Commands that read and write parameters (R337, R338, R346): PARAM_GET, PARAM_SET, PARAM_STAGE and the
commands that write a set, each checked whole before any write, and what the hardware does when a LIVE parameter
changes. -/

namespace Sys2Proof.Machine

/-- The block of an identifier (R11). -/
def idBlock (id : Nat) : Nat := id / 2 ^ 24
/-- The unit of an identifier. -/
def idUnit (id : Nat) : Nat := id / 2 ^ 16 % 2 ^ 8
/-- The Number of an identifier. -/
def idNum (id : Nat) : Nat := id % 2 ^ 16

/-! ## Reading -/

/-- One entry of a PARAM_GET result. -/
def paramWords (s : State) (shadow : Bool) (id : Nat) (r : PRow) : List Word :=
  match if shadow then s.staged.find id else none with
  | some v => w32 (id + 2 ^ 31) :: w64i v
  | none => w32 id :: w64i (paramValue s r (idBlock id) (idUnit id) (idNum id))

/-- The identifiers from number `k` on: their words, or the first that names no parameter. -/
def getParams (s : State) (shadow : Bool) : Nat → List Nat → List Word → Nat ⊕ List Word
  | _, [], acc => .inr acc
  | k, id :: r, acc =>
    match findRow id with
    | none => .inl k
    | some row => getParams s shadow (k + 1) r (acc ++ paramWords s shadow id row)

/-- COUNT of a parameter list (R337). -/
def countOk (n : Nat) : Bool := decide (1 ≤ n) && decide (n ≤ 64)

/-- PARAM_GET. -/
def bodyParamGet (shadow : Bool) (ids : List Nat) (s : State) : Resp :=
  if !countOk ids.length then refuse stOutOfRange s
  else match getParams s shadow 0 ids [] with
  | .inl k => refuseAt stBadParamId k s
  | .inr ws => okWith ws s

/-! ## What a write of a LIVE or HALTED parameter brings about -/

/-- After parameter (b, i, n) of REFS changed (R144, R148, R158). -/
def refsWritten (i n : Nat) (s : State) : State :=
  if n = Par.rfSelMask ∧ i < 0xF0 then evaluate (selMaskChanged i s)
  else if n = Par.rfDisputeThreshold ∨ n = Par.rfDisputeTime then disputesRestart s
  else if n = Par.rfPriority ∨ n = Par.rfRefQl ∨ n = Par.rfLoMaster ∨ n = Par.rfSelMode ∨ n = Par.rfLoPriority
      ∨ n = Par.rfLoReferee ∨ n = Par.rfHopsMax then evaluate s
  else s

/-- After parameter (b, i, n) of CSYN changed from `old` (R160, R167, R173, R179). -/
def csynWritten (i n : Nat) (old : Int) (s : State) : State :=
  if i = 0xF0 ∧ n = Par.ckCoreReturn then coreReturns s
  else if i = 0xF0 ∧ n = Par.ckOscPref then oscPrefer s
  else if i = 0xF0 ∧ n = Par.ckSlewLimit then slewChanged old s
  else if i < 16 ∧ n = Par.ckOutOffset then offsetChanged i old s
  else if 0x20 ≤ i ∧ i < 0x38 ∧ n = Par.ckPulseLevel then pulseLevel (i - 0x20) s
  else s

/-- After a parameter of port `p` changed from `old` (R81, R89, R103, R261). -/
def portWritten (p n : Nat) (old : Int) (s : State) : State :=
  let kind := if isTrunk s p then Par.dfLinkAdmin else Par.epLinkAdmin
  if n = kind ∧ old = 1 ∧ parN s (bP p) 0 n = 0 then adminDown p s
  else if n = Par.epSynceRx then presence p s
  else if n = Par.dfTxTrain then (if isTrunk s p then trainWritten p s else s)
  else if n = Par.bpCableLen ∨ n = Par.bpPartnerDelay then (if isEdge s p then checkHeadroom p s else s)
  else s

/-- After parameter (b, i, n) changed from `old`. -/
def written (b i n : Nat) (old v : Int) (s : State) : State :=
  if isPortB b then portWritten (b - 0x20) n old s
  else match b with
  | 0x04 => csynWritten i n old s
  | 0x05 => refsWritten i n s
  | 0x06 => if n = Par.gtLeap ∨ n = Par.gtUtcOffset then utcWritten n s else s
  | 0x08 => if n = Par.tcFifoReader then modTic (fun t => { t with latch := [] }) s else s
  | 0x09 => if n = Par.prHoldStandby then holdChanged s else if n = Par.prActCheck then evalGrant s else s
  | 0x0C => if n = Par.bfCapRd then modBuf (fun x => { x with cap := { x.cap with rd := v.toNat } }) s else s
  | 0x0E => if n = Par.ctTraceRd then modTrace (fun x => { x with ring := { x.ring with rd := v.toNat } }) s else s
  | _ => s

/-- Writes one parameter into effect. -/
def writePar (id : Nat) (v : Int) (s : State) : State :=
  let b := idBlock id
  let i := idUnit id
  let n := idNum id
  let old := par s b i n
  let s := setPar b i n v s
  if old = v then s else written b i n old v s

/-! ## Checks -/

/-- LL_SIZE covers every valid channel and fits its region (R252). -/
def llSizeOk (s : State) (v : Int) : Bool :=
  let top := s.core.chans.foldl (fun a e => if e.2.valid then max a (e.1 + 1) else a) 0
  decide ((top : Int) ≤ v) && decide (v * 128 ≤ s.boot.llBytes)

/-- A value its row accepts, with the rules that look beyond the row. -/
def valueOk (s : State) (id : Nat) (r : PRow) (v : Int) : Bool :=
  inRange s (idBlock id) (idUnit id) r v &&
    (if idBlock id = bLKP ∧ idNum id = Par.lkLlSize then llSizeOk s v
     else true)

/-- How a command writes parameters: by PARAM_SET, by PARAM_STAGE, or each by its class (R338). -/
inductive WriteHow where
  | set
  | stage
  | byClass
  deriving DecidableEq, Repr

/-- The refusal of one entry, if it is refused (R338, R340). -/
def entryRefused (how : WriteHow) (s : State) (e : Nat × Word64) : Option Nat :=
  match findRow e.1 with
  | none => some stBadParamId
  | some r =>
    let b := idBlock e.1
    let cls := match r.cls, how with
      | .ro, _ => false
      | .staged, .set => false
      | .staged, _ => true
      | _, .stage => false
      | .halted, _ => blkStopped s b
      | .live, _ => true
    if !cls then some stBadClass
    else if !valueOk s e.1 r (r.read e.2) then some stOutOfRange
    else if r.cls = .staged ∧ commitNames s b then some stBusy
    else none

/-- The first entry refused from number `k` on, with its status. -/
def firstRefused (how : WriteHow) (s : State) : Nat → List (Nat × Word64) → Option (Nat × Nat)
  | _, [] => none
  | k, e :: r =>
    match entryRefused how s e with
    | some st => some (k, st)
    | none => firstRefused how s (k + 1) r

/-- The number an entry carries. -/
def entryValue (e : Nat × Word64) : Int := ((findRow e.1).map (fun r => r.read e.2)).getD 0

/-- A value once the entries are written: the last they give, or what it was. -/
def valueAfter (es : List (Nat × Word64)) (id : Nat) (was : Int) : Int :=
  match es.reverse.find? (fun e => e.1 == id) with
  | some e => entryValue e
  | none => was

/-- The value in effect of a parameter of GUH once the entries are written. -/
def guhAfter (s : State) (es : List (Nat × Word64)) (n : Nat) : Int := valueAfter es (pid bGUH 0 n) (par s bGUH 0 n)

/-- The last of the entries that some test names. -/
def lastEntry (mine : Nat × Word64 → Bool) (es : List (Nat × Word64)) : Option Nat :=
  (List.range es.length).reverse.find? (fun k => (es[k]?.map mine).getD false)

/-- The entry that would leave MON_WINDOW below 4,000 ms on an input whose REF_TYPE, in effect or staged, is PPS (R139):
the last that bears on it. -/
def monRefused (how : WriteHow) (s : State) (es : List (Nat × Word64)) : Option Nat :=
  let mine := fun (c : Nat) (e : Nat × Word64) => e.1 == pid bREFS c Par.rfMonWindow || e.1 == pid bREFS c Par.rfRefType
  let bad := fun (c : Nat) =>
    es.any (mine c) && decide (valueAfter es (pid bREFS c Par.rfMonWindow) (par s bREFS c Par.rfMonWindow) < 4000)
      && (par s bREFS c Par.rfRefType == 0
        || valueAfter es (pid bREFS c Par.rfRefType) (after s bREFS c Par.rfRefType) == 0)
  if how = .stage then none
  else match (List.range 12).find? bad with
  | some c => lastEntry (mine c) es
  | none => none

/-- LOCK_THRESHOLD and STEP_DETECT stay within JUMP_THRESHOLD (R134): the last entry that bears on them otherwise. -/
def jumpRefused (s : State) (es : List (Nat × Word64)) : Option Nat :=
  let g := guhAfter s es
  let j := g Par.gtJumpThreshold
  let mine := fun (e : Nat × Word64) => e.1 == pid bGUH 0 Par.gtJumpThreshold || e.1 == pid bGUH 0 Par.gtStepDetect
    || e.1 == pid bGUH 0 Par.gtLockThreshold
  if es.any mine ∧ (j < g Par.gtLockThreshold ∨ j < g Par.gtStepDetect) then lastEntry mine es else none

/-- Writes one entry that was accepted: into effect, or into its block's staged set. -/
def writeEntryOf (s : State) (e : Nat × Word64) : State :=
  match findRow e.1 with
  | none => s
  | some r =>
    if r.cls = .staged then { s with staged := s.staged.set e.1 (r.read e.2) } else writePar e.1 (r.read e.2) s

/-- Checks every entry, then writes them in list order (R337, R338). -/
def writeParams (how : WriteHow) (es : List (Nat × Word64)) (s : State) : Resp :=
  match firstRefused how s 0 es with
  | some (k, st) => refuseAt st k s
  | none =>
    match (monRefused how s es).orElse (fun _ => jumpRefused s es) with
    | some k => refuseAt stOutOfRange k s
    | none => ok (es.foldl writeEntryOf s)

/-- PARAM_SET. -/
def bodyParamSet (es : List ParamEntry) (s : State) : Resp :=
  if !countOk es.length then refuse stOutOfRange s else writeParams .set es s

/-- PARAM_STAGE. -/
def bodyParamStage (es : List ParamEntry) (s : State) : Resp :=
  if !countOk es.length then refuse stOutOfRange s else writeParams .stage es s

/-! ## Mask and values (R346) -/

/-- The bits of a mask in ascending order. -/
def maskBits (mask : Nat) : List Nat := (List.range 32).filter (fun k => mask.testBit k)

/-- Writes the parameters that a mask names from Number `base` on, one value for each. -/
def writeMask (b i base mask : Nat) (vals : List Word64) (s : State) : Resp :=
  let ks := maskBits mask
  if ks.length ≠ vals.length then refuse stBadLength s
  else writeParams .byClass (ks.zipWith (fun k v => (pid b i (base + k), v)) vals) s

/-- ASYM_SET: its trunk form has three values and its edge form one (R100, R115, R446). -/
def bodyAsymSet (p : Nat) (vals : List Word64) (s : State) : Resp :=
  if 64 ≤ p then refuse stBadParamId s
  else match vals with
  | [a] => writeParams .byClass [(pid (bP p) 0 Par.epPtpAsym, a)] s
  | [a, b, c] => writeParams .byClass
      [(pid (bP p) 0 Par.gxAsymFixed, a), (pid (bP p) 0 Par.gxAsymEps, b), (pid (bP p) 0 Par.gxExtDelay, c)] s
  | _ => refuse stBadLength s

/-- REF_CONFIG. -/
def bodyRefConfig (c mask : Nat) (vals : List Word64) (s : State) : Resp :=
  if !candExists c then refuse stBadParamId s else writeMask bREFS c 0x0001 mask vals s

/-- OUT_CONFIG. -/
def bodyOutConfig (out mask : Nat) (vals : List Word64) (s : State) : Resp :=
  if out < 0x10 then writeMask bCSYN out 0x0100 mask vals s
  else if 0x20 ≤ out ∧ out < 0x38 then writeMask bCSYN out 0x0200 mask vals s
  else refuse stBadParamId s

/-- SHAFT_DEFINE. -/
def bodyShaftDefine (n mask : Nat) (vals : List Word64) (s : State) : Resp :=
  if 64 ≤ n then refuse stBadParamId s else writeMask bSHAFT n 0x0001 mask vals s

/-- TRACE_CONFIG. -/
def bodyTraceConfig (mask : Nat) (vals : List Word64) (s : State) : Resp := writeMask bTRACE 0 0x0001 mask vals s

end Sys2Proof.Machine
end

