-- ==== Sys2Proof/Machine/FaultCmds.lean ====
section
/-! DEFINITION. Commands over the fault registers, the alive signal and the header counters (R380, R381, R384, R385,
R387, R407, R411). -/

namespace Sys2Proof.Machine

/-- The lane mode that selects a port's fault table. -/
def faultMode (s : State) (b : Nat) : Nat := if isPortB b then portMode s (b - 0x20) else 0

/-- One word of FAULT_READ: the minimum and the reaction set of source `i`. -/
def reactWord (s : State) (b i : Nat) : Word :=
  match faultRow b (faultMode s b) i with
  | none => 0
  | some r => w32 (2 ^ 31 + r.2.2 * 16 + reaction s b i)

/-- The blocks whose FLT_FIRST VALID is 1. -/
def firstWord (s : State) (k : Nat) : Word := w32 (packBits 32 (fun i => (hdr s (32 * k + i)).first.isSome))

/-- FAULT_READ (R380): 39 words of one block, or the mask of blocks with a latched fault. -/
def bodyFaultRead (b : Nat) (s : State) : Resp :=
  if b = 0xFF then okWith [firstWord s 0, firstWord s 1, firstWord s 2] s
  else if nBlocks ≤ b then refuse stBadParamId s
  else
    let h := hdr s b
    okWith ([w32 h.fltStatus, w32 (fltFirst h), w32 (fltFirstTime h), w32 (fltOvf h), w32 h.intStatus, w32 h.intEnable,
      w32 h.causeActive] ++ (List.range 32).map (reactWord s b)) s

/-- FAULT_CLEAR (R384): one set of W1C writes. -/
def bodyFaultClear (b flt int : Nat) (ovf : Bool) (s : State) : Resp :=
  if nBlocks ≤ b then refuse stBadParamId s
  else
    let s := writeInt b (fun h =>
      let h := clearFlt flt { h with intStatus := clrMask 32 h.intStatus int }
      if ovf then { h with ovf := false, ovfCount := 0 } else h) s
    okWith [w32 (hdr s b).fltStatus, w32 (hdr s b).causeActive] s

/-- FAULT_REACT_SET (R380). -/
def bodyFaultReactSet (b i r : Nat) (s : State) : Resp :=
  if nBlocks ≤ b then refuse stBadParamId s
  else match faultRow b (faultMode s b) i with
  | none => refuse stOutOfRange s
  | some row =>
    if 5 < r ∨ (r = rBlockReset ∧ noBlockReset b) ∨ r < row.2.2 then refuse stOutOfRange s
    else ok (modHdr b (fun h => { h with react := h.react.set i r }) s)

/-- A cause of FATAL that remains by itself (R306): TIMEPLL clear, or a supply falling. -/
def fatalRemains (s : State) : Bool := !rTimePll s || s.boot.supplyFall || s.boot.resetDue

/-- ALIVE_RESUME (R385): refused while a stop flag is set or NMI_STATUS PENDING is 1. -/
def bodyAliveResume (s : State) : Resp :=
  if s.iso.running then ok s
  else if (List.range nBlocks).any (fun b => (hdr s b).stopFlag) || s.host.nmi.isSome then refuse stBusy s
  else
    let s := { s with iso := { s.iso with
      running := true, cause := 0, stopBlock := 0xFF, stopIndex := 0, period := s.iso.nextPeriod } }
    if s.pair.fatal ∧ !fatalRemains s then
      let s := { s with pair := { s.pair with fatal := false, fatalCsyn := false, hbDirty := true } }
      let s := if s.pair.state = some .failed then enterRole .listening s.pair.epoch 8 s else s
      ok (evalGrant s)
    else ok s

/-- TEST_UNLOCK (R387): only with the TEST_MODE strap set. -/
def bodyTestUnlock (s : State) : Resp :=
  if s.boot.straps.testMode then ok { s with keep := { s.keep with testUnlocked := true } } else refuse stLocked s

/-- FAULT_INJECT (R387): raises a source without setting CAUSE_ACTIVE. -/
def bodyFaultInject (b i : Nat) (s : State) : Resp :=
  if !s.keep.testUnlocked then refuse stLocked s
  else if nBlocks ≤ b then refuse stBadParamId s
  else if !hasSource s b i then refuse stOutOfRange s
  else ok (raiseFault b i true s)

/-- ISOPHASE_TOGGLE (R381, R354): a new period takes effect at the toggle. -/
def effIsophaseToggle (s : State) : State :=
  if !s.iso.running then s
  else emit (.pin .isophase (!s.iso.level))
    { s with iso := { s.iso with level := !s.iso.level, period := s.iso.nextPeriod } }

/-! ## Header counters (R407, R411) -/

/-- COUNTER_CONFIG: the filter, then the selection, in one core cycle; counting needs TRACE (R23, Table AR-7). -/
def bodyCounterConfig (b n : Nat) (filt : Word64) (sel : Word) (s : State) : Resp :=
  if nBlocks ≤ b then refuse stBadParamId s
  else if !rTrace s then refuse stNotReady s
  else if pcntCount b ≤ n ∨ (sel.toNat.testBit 31 ∧ !pcntOk b sel.toNat filt.toNat) then refuse stOutOfRange s
  else ok (effPcntSelWrite b n sel (effPcntFiltWrite b n filt s))

/-- The first pair that names no counter. -/
def badCounter (k : Nat) : List (Nat × Nat) → Option (Nat × Nat)
  | [] => none
  | (b, n) :: r =>
    if nBlocks ≤ b then some (k, stBadParamId) else if pcntCount b ≤ n then some (k, stOutOfRange) else badCounter (k + 1) r

/-- The three words of one pair. -/
def counterWords (s : State) (e : Nat × Nat) : List Word :=
  let c := (pcntOf s e.1 e.2).count
  let v := b2n ((hdr s e.1).pcntOvf.testBit e.2) * 2 ^ 63 + c % 2 ^ 48
  w64 v ++ [w32 s.cycle]

/-- COUNTER_READ: each value with CYCLE of the same core cycle; counters need TRACE (R23, Table AR-7). -/
def bodyCounterRead (l : List (Nat × Nat)) (s : State) : Resp :=
  if l.isEmpty ∨ 16 < l.length then refuse stOutOfRange s
  else if !rTrace s then refuse stNotReady s
  else match badCounter 0 l with
  | some (k, st) => refuseAt st k s
  | none => okWith (l.flatMap (counterWords s)) s

end Sys2Proof.Machine
end

