-- ==== Sys2Proof/Machine/Reset.lean ====
section
/-! DEFINITION. The reset of every domain except VDD_AON (R363), which RESTART, a CHIP_RESET reaction, the Keeper
watchdog, RESET_N, a falling supply and a test instruction share. -/

namespace Sys2Proof.Machine

/-- What HLTH holds after a reset: the service record as flash has it, with the positions of its rings. -/
def hlthAfterReset (h : Hlth) : Hlth :=
  { Hlth.reset with
    saved := h.saved
    overlays := h.overlays
    sumSeq := h.sumSeq
    life := { h.saved with
      chipResets := (h.saved.chipResets + 1) % 2 ^ 32
      logNext := h.life.logNext
      logSeq := h.life.logSeq
      trendNext := h.life.trendNext } }

/-- ISOPHASE goes low and NMI_N is released as the device enters reset (R382, R431). -/
def pinsAtReset (s : State) : State :=
  let s := if s.host.nmi.isSome then emit (.release .nmiN) s else s
  if s.iso.level then emit (.pin .isophase false) s else s

/-- The reset of every domain except VDD_AON.  What lies outside it is kept: the queue of commands, what has left the
device, the flash, the levels of PERST_N and of the test port. -/
def chipReset (s : State) : State :=
  let s := pinsAtReset s
  applyRetired { State.reset with
    pending := s.pending
    outbox := s.outbox
    free := s.free
    aon := s.aon
    flash := s.flash
    hlth := hlthAfterReset s.hlth
    host := { HostIf.reset with perstLow := s.host.perstLow }
    boot := { Boot.reset with jtagHold := s.boot.jtagHold } }

/-- The cause of an attempt's end is kept in VDD_AON and in the boot state region (R370). -/
def recordCause (c : Nat) (s : State) : State :=
  { s with aon := { s.aon with cause := c, flashCause := c } }

/-- An attempt that ends before BOOT_OK records its cause (R370); after BOOT_OK, and while no attempt runs, nothing is
recorded. -/
def endAttempt (c : Nat) (s : State) : State :=
  if s.boot.bootOk ∨ s.boot.phase ≠ .started then s else recordCause c s

/-- CHIP_RESET (R377): 20 µs after the fault. -/
def effChipReset (s : State) : State :=
  if !s.boot.resetDue then s else chipReset (endAttempt 3 s)

/-- KEEPER_WATCHDOG_EXPIRY (R382, R383): ISOPHASE stops, FATAL sets, and the chip is reset. -/
def effKeeperWatchdogExpiry (s : State) : State :=
  if s.boot.phase = .heldInReset then s
  else
    let s := setFatal (stopIso 2 0 0 { s with keep := { s.keep with wdExpired := true } })
    chipReset (endAttempt 2 s)

/-- RESET_N_LOW (R431, R428): the device enters reset at once; within the 5 µs after a supply fall the cause is still
recorded. -/
def effResetNLow (s : State) : State :=
  chipReset (if s.boot.supplyFall then endAttempt 4 s else s)

/-- SUPPLY_FALLING (R428): FATAL and DYING set at once. -/
def effSupplyFalling (s : State) : State :=
  if s.boot.phase = .heldInReset then s else setFatal { s with boot := { s.boot with supplyFall := true } }

/-- What VDD_AON holds after it has fallen: nothing; flash stays. -/
def aonFallen (a : Aon) : Aon := { a with attempts := 0, cause := 0, lastFault := none, floors := [] }

/-- SUPPLY_RESET (R428): 5 µs after the fall; with VDD_AON gone as well the retained state is lost. -/
def effSupplyReset (aonLost : Bool) (s : State) : State :=
  if !s.boot.supplyFall then s
  else
    let s := chipReset (endAttempt 4 s)
    let s := { s with hlth := { s.hlth with life := { s.hlth.life with
      chipResets := s.hlth.saved.chipResets, cycles := (s.hlth.saved.cycles + 1) % 2 ^ 32 } } }
    if aonLost then { s with aon := aonFallen s.aon } else s

/-- JTAG_INSTRUCTION (R433): a test instruction holds the device in reset until it is left. -/
def effJtagInstruction (holds : Bool) (s : State) : State :=
  if holds then chipReset { s with boot := { s.boot with jtagHold := true } }
  else { s with boot := { s.boot with jtagHold := false } }

/-- RESTART (R363, R372): in Standby Light mode the attempt counter is cleared first. -/
def restartReset (s : State) : State :=
  chipReset (if s.boot.phase = .standbyLight
    then { s with aon := { s.aon with attempts := 0, flashAttempts := 0 } } else s)

end Sys2Proof.Machine
end

