-- ==== Sys2Proof/Machine/Accept.lean ====
section
/-! DEFINITION. Acceptance of commands (R314, R321, R327 to R331, R343, R345): the steps of Table EF-4. -/

namespace Sys2Proof.Machine

/-- The transport of a command, in the order in which the Keeper takes them in turn (R334); 4 is the script. -/
def transportOf : Origin → Nat
  | .pcie _ _ _ => 0
  | .spi => 1
  | .inband _ _ _ => 2
  | .tunnel _ _ => 3
  | .script => 4

/-- In-band and tunnelled commands. -/
def isRemote (o : Origin) : Bool := transportOf o == 2 || transportOf o == 3

/-- The port a remote command came by; 0xFF for a local one. -/
def portOf : Origin → Nat
  | .inband p _ _ => p
  | .tunnel p _ => p
  | _ => 0xFF

/-- The Keeper takes packets at all: command service runs, or the ROM serves Standby Light mode (R372). -/
def keeperUp (s : State) : Bool := served s true

/-! ## Steps 8 to 11 -/

/-- The priority of a class, bulk lowest (R333). -/
def classRank : Nat → Nat
  | 2 => 0
  | 0 => 1
  | _ => 2

/-- Opcodes and headers that a startup script may not hold (R345). -/
def scriptBars (op : Nat) (h : CmdHdr) : Bool :=
  op / 256 == 1 || op == 0x0401 || op == 0x0E05 || op == 0x0F04 || h.trole != 0

/-- Step 8: not permitted on the transport or for the key. -/
def lockedFor (op : Nat) (h : CmdHdr) (marked : Bool) (s : State) : Bool :=
  (marked && isRemote h.origin) || (op == 0x0010 && transportOf h.origin != 4) ||
    (match h.key with
     | some (k, _) => (keySlot s k).perm == 1 && !readOnlyOps.contains op
     | none => false)

/-- Steps 8 to 10 of Table EF-4: the status of the first that fails. -/
def stepRefusal (op : Nat) (h : CmdHdr) (s : State) : Option Nat :=
  match opRow op with
  | none => some stBadOpcode
  | some (_, cls, marked, standby) =>
    if transportOf h.origin == 4 && scriptBars op h then some stBadOpcode
    else if lockedFor op h marked s then some stLocked
    else if classRank cls < classRank h.cls then some stBadClass
    else if !served s standby then some stNotReady
    else none

/-- The unit plays the target role of a command, and the command means this epoch (R314). -/
def roleMatches (h : CmdHdr) (s : State) : Bool :=
  match h.trole with
  | 0 => true
  | 1 => (s.pair.state == some .unpaired || s.pair.state == some .active) && h.epoch == s.pair.epoch
  | 2 => s.pair.state == some .standby && h.epoch == s.pair.epoch
  | _ => false

/-- The result words of ROLE_MOVED (Table EF-3). -/
def roleWords (s : State) : List Word :=
  [w32 (s.pair.epoch % 2 ^ 16 * 2 ^ 16 + ownClaim s % 2 ^ 16), w32 ((s.pair.state.map PairRole.code).getD 0)]

/-- RESTART resets the device once its reply has been sent (Table EF-9). -/
def afterReply (op : Nat) (r : Resp) (s : State) : State := if op = 0x0105 ∧ r.status = stOk then restartReset s else s

/-- Steps 11 and 12: the role check, then the command. -/
def execute (op : Nat) (h : CmdHdr) (body : State → Resp) (s : State) : State :=
  if roleMatches h s then
    let r := body s
    afterReply op r (answer op h r)
  else sendReply h op stRoleMoved (roleWords s) s

/-- A command that has passed steps 1 to 7, from step 8 on.  A device held in reset takes nothing, and in Standby
Light mode remote commands are discarded (R372). -/
def serve (op : Nat) (h : CmdHdr) (body : State → Resp) (s : State) : State :=
  if !keeperUp s then (if s.boot.phase == .started && isRemote h.origin then discard s else s)
  else if s.boot.phase == .standbyLight && isRemote h.origin then discard s
  else match stepRefusal op h s with
  | some st => sendReply h op st [] s
  | none => execute op h body s

/-! ## Steps 2 to 7, on the bytes of a packet -/

/-- AUTH of a packet's bytes. -/
def pktAuth (l : List Byte) : Bool := (beAt l 1 1).testBit 3
/-- The length a packet's header gives (R317). -/
def pktTotal (l : List Byte) : Nat := 16 + 4 * beAt l 6 2 + (if pktAuth l then 32 else 0)
/-- The greatest length of a command packet on its transport (R317). -/
def pktMax (o : Origin) : Nat := if isRemote o then 2048 else 4096

/-- The header a packet's bytes carry, with no key until step 6 has passed. -/
def pktHdr (o : Origin) (l : List Byte) : CmdHdr :=
  { origin := o, seq := beAt l 4 2, noReply := (beAt l 1 1).testBit 0, trole := fld (beAt l 10 1) 7 6,
    epoch := beAt l 8 2, cls := fld (beAt l 10 1) 5 4, key := none }

/-- Step 2: MAGIC and 16 bytes at least. -/
def magicOk (l : List Byte) : Bool := 16 ≤ l.length && beAt l 0 1 == 0xEF
/-- Step 3: the CRC over bytes 0 to 11, the body and the trailer (R318). -/
def crcOk (l : List Byte) : Bool := crc32c (l.take 12 ++ l.drop 16) == beAt l 12 4
/-- Step 4: KIND, VER, TROLE, CLASS and the reserved bits. -/
def headerOk (l : List Byte) : Bool :=
  beAt l 1 1 / 16 == 1 && fld (beAt l 1 1) 2 1 == 0 && fld (beAt l 10 1) 7 6 != 3 && fld (beAt l 10 1) 5 4 != 3
    && fld (beAt l 10 1) 3 0 == 0 && beAt l 11 1 == 0
/-- Step 5: the length matches R317. -/
def lengthOk (o : Origin) (l : List Byte) : Bool := l.length == pktTotal l && l.length ≤ pktMax o

/-- The trailer of a packet of the right length (Table EF-8). -/
def pktTrailer (l : List Byte) : List Byte := l.drop (l.length - 32)
/-- KEY_ID. -/
def pktKey (l : List Byte) : Nat := beAt (pktTrailer l) 0 1
/-- REPLAY. -/
def pktReplay (l : List Byte) : Nat := beAt (pktTrailer l) 8 8

/-- Step 6: a trailer where R328 requires one; the key slot holds a key; the tag is right (R329). -/
def authOk (o : Origin) (l : List Byte) (s : State) : Bool :=
  if pktAuth l then
    let k := pktKey l
    decide (k ≤ 7) && (keySlot s k).perm != 0 &&
      hmacTag (keySlot s k).key (l.take 12 ++ (l.take (l.length - 16)).drop 16) == beAt (pktTrailer l) 16 16
  else !isRemote o

/-- Sends a refusal that carries no tag: on remote transports at most 16 each second, and a discard after that. -/
def untaggedRefusal (h : CmdHdr) (op st : Nat) (words : List Word) (s : State) : State :=
  if isRemote h.origin then
    let t := transportOf h.origin
    let n := s.keep.untagged.get 0 t
    if 16 ≤ n then discard s
    else sendReply h op st words { s with keep := { s.keep with untagged := s.keep.untagged.set t (n + 1) } }
  else sendReply h op st words s

/-- A refusal at step 2, 3 or 4: discarded on remote transports. -/
def earlyRefusal (h : CmdHdr) (op st : Nat) (s : State) : State :=
  if isRemote h.origin then discard s else sendReply h op st [] s

/-- A command refused at step 6 or 7 is reported and counted: AUTH_REFUSED, and AUTH_RATE beyond 16 in a second. -/
def noteAuthRefused (o : Origin) (key st : Nat) (s : State) : State :=
  let s := report bKEEP 0x07 [w32 (transportOf o), w32 (portOf o), w32 key, w32 st] s
  let n := s.keep.authRefused + 1
  let s := { s with keep := { s.keep with authRefused := n } }
  if n = 17 then raise bKEEP 5 s else s

/-- The floor of a key slot takes the value of REPLAY; flash follows each time it is 2^16 behind (R330). -/
def raiseFloor (k r : Nat) (s : State) : State :=
  let fl := if s.aon.flashFloors.get 0 k + 2 ^ 16 ≤ r then s.aon.flashFloors.set k r else s.aon.flashFloors
  { s with aon := { s.aon with floors := s.aon.floors.set k r, flashFloors := fl } }

/-- Steps 8 to 10 for a packet: it waits, or it is refused with a tag if it had one. -/
def acceptLate (h : CmdHdr) (l : List Byte) (s : State) : Option Waiting × State :=
  let op := beAt l 2 2
  match stepRefusal op h s with
  | some st => (none, sendReply h op st [] s)
  | none => (some { hdr := h, opcode := op, body := bytesWords ((l.drop 16).take (4 * beAt l 6 2)), bytes := l }, s)

/-- Steps 6 and 7. -/
def acceptAuth (h : CmdHdr) (l : List Byte) (s : State) : Option Waiting × State :=
  let op := beAt l 2 2
  if !authOk h.origin l s then
    let key := if pktAuth l then pktKey l else 0xFF
    (none, untaggedRefusal h op stAuthFail [] (noteAuthRefused h.origin key stAuthFail s))
  else if !pktAuth l then acceptLate h l s
  else
    let k := pktKey l
    let r := pktReplay l
    let floor := s.aon.floors.get 0 k
    let hk := { h with key := some (k, r) }
    if r ≤ floor then
      let s := noteAuthRefused h.origin k stReplay s
      (none, if isRemote h.origin then untaggedRefusal h op stReplay (w64 floor) s else sendReply hk op stReplay (w64 floor) s)
    else acceptLate hk l (raiseFloor k r s)

/-- Steps 2 to 10 of Table EF-4 on the bytes of a packet: the command that waits for its execution, if none failed. -/
def acceptPkt (o : Origin) (l : List Byte) (s : State) : Option Waiting × State :=
  let h := pktHdr o l
  let op := beAt l 2 2
  if !magicOk l then (none, earlyRefusal { h with seq := 0, noReply := false } 0 stBadOpcode s)
  else if !crcOk l then (none, earlyRefusal h op stCheckFail s)
  else if !headerOk l then (none, earlyRefusal h op stBadOpcode s)
  else if !lengthOk o l then (none, untaggedRefusal h op stBadLength [] s)
  else acceptAuth h l s

/-- A packet that passes joins the commands that wait. -/
def takePacket (o : Origin) (l : List Byte) (s : State) : State :=
  match acceptPkt o l s with
  | (none, s) => s
  | (some w, s) => { s with keep := { s.keep with waiting := s.keep.waiting ++ [w] } }

end Sys2Proof.Machine
end

