-- ==== Sys2Proof/Machine/Keeper.lean ====
section
/-! DEFINITION. The Keeper's transports (R323, R326 to R328, R77, R78), its keys and subscriptions (R329, R332) and the
commands of group 0x00 and 0x04 that are its own. -/

namespace Sys2Proof.Machine

/-- Changes the Keeper. -/
def modKeep (f : Keep → Keep) (s : State) : State := { s with keep := f s.keep }

/-! ## PCIe (R323, R324) -/

/-- A command ring descriptor as the Keeper uses it (Table EF-5). -/
structure RingDesc where
  pktLen  : Nat
  rplSize : Nat
  rplAddr : Nat
  tag     : Nat
  deriving DecidableEq, Repr

/-- The descriptor that 32 bytes of host memory spell, little-endian (Table EF-5, R7). -/
def readDesc (l : List Byte) : RingDesc :=
  let at' := fun i n => natLE ((l.drop i).take n)
  { pktLen := at' 8 2, rplSize := at' 12 4, rplAddr := at' 16 8, tag := at' 24 4 }

/-- DESCRIPTOR_FETCH: the next descriptor and its packet, once ring and completion room allow; a doorbell written
before KEEP_CMD waits (R366). -/
def effDescriptorFetch (desc pkt : List Byte) (s : State) : State :=
  let h := s.host
  let d := readDesc desc
  if !keeperUp s || !h.en || !h.pcieUp || h.doorbell == h.cmdHead || cplFull s || !h.owed.isEmpty then s
  else
    let l := pkt.take d.pktLen
    let seq := if magicOk l then beAt l 4 2 else 0
    let s := modHost (fun h => { h with
      cmdHead := (h.cmdHead + 1) % ringSize h.cmdLog2, fetched := h.fetched ++ [(d.tag, seq)] }) s
    takePacket (.pcie d.tag d.rplAddr d.rplSize) l s

/-! ## SPI (R326) -/

/-- An SPI transaction that begins during a slice of HOST unit 0 aborts that test (R398). -/
def spiBegins (s : State) : State :=
  match s.hlth.bist.find bHOST with
  | some t => if t.inSlice then bistYield bHOST 0 s else s
  | none => s

/-- The SPI port serves commands: HOST_SPI is set, with KEEP_CMD or in Standby Light mode. -/
def spiUp (s : State) : Bool := keeperUp s && rHostSpi s

/-- FULL: 4 commands wait. -/
def spiFull (s : State) : Bool := 4 ≤ spiWaiting s

/-- A WRITE_PKT discarded at step 1: counted, ERR set, SPI_FRAMING raised. -/
def spiDiscard (s : State) : State := raise bHOST 3 (modHost (fun h => { h with spiErr := true }) (discard s))

/-- WRITE_PKT: one command packet; the rising chip select ends it. -/
def effWritePkt (pkt : List Byte) (s : State) : State :=
  if s.boot.phase = .heldInReset then s
  else
    let s := spiBegins s
    if !spiUp s || spiFull s || decide (pkt.length < 8) || pkt.length != pktTotal pkt then spiDiscard s
    else takePacket .spi pkt s

/-- READ_PKT: the next pending reply, or if none the next pending event; with `whole` its last byte has been clocked
out and it is removed. -/
def effReadPkt (whole : Bool) (s : State) : State :=
  if !rHostSpi s then s
  else
    let s := spiBegins s
    if !whole then s
    else match s.host.spiReplies with
    | p :: r => emit (.spiPkt p.bytes) (modHost (fun h => { h with spiReplies := r }) s)
    | [] =>
      match s.host.spiEvents with
      | p :: r => emit (.spiPkt p.bytes) (modHost (fun h => { h with spiEvents := r }) s)
      | [] => emit (.spiPkt []) s

/-- The SPI status byte. -/
def spiStatusByte (s : State) : Nat :=
  b2n (rKeepCmd s && rHostSpi s) * 128 + b2n (!s.host.spiEvents.isEmpty) * 8 + b2n (!s.host.spiReplies.isEmpty) * 4
    + b2n (spiFull s) * 2 + b2n s.host.spiErr

/-- STATUS: the status byte, and ERR clears. -/
def effSpiStatus (s : State) : State :=
  if s.boot.phase = .heldInReset then s
  else
    let s := spiBegins s
    modHost (fun h => { h with spiErr := false }) (emit (.spiStatus (spiStatusByte s)) s)

/-! ## Remote commands (R327, R328) -/

/-- A remote packet that reached this unit: REMOTE_RATE commands are taken in a second, and none before KEEP_CMD or in
Standby Light mode (R327, R366, R372). -/
def takeRemote (o : Origin) (l : List Byte) (s : State) : State :=
  if !keeperUp s || s.boot.phase == .standbyLight || decide (parN s bKEEP 0 Par.efRemoteRate ≤ s.keep.remoteTaken) then
    discard s
  else takePacket o l (modKeep (fun k => { k with remoteTaken := k.remoteTaken + 1 }) s)

/-- A port's bit in INBAND_PORTS. -/
def inbandPort (s : State) (p : Nat) : Bool :=
  if p < 32 then (parN s bKEEP 0 Par.efInbandPortsLo).testBit p
  else (parN s bKEEP 0 Par.efInbandPortsHi).testBit (p - 32)

/-- INBAND_COMMAND_FRAME: a frame of EtherType 0x88B5; `payload` follows the EtherType.  A frame to another address is
no command. -/
def effInbandCommandFrame (p dstMac srcMac vlan : Nat) (payload : List Byte) (s : State) : State :=
  if s.boot.phase = .heldInReset ∨ 64 ≤ p ∨ dstMac ≠ parN s bKEEP 0 Par.efMgmtMac ∨ dstMac = 0 then s
  else if !inbandPort s p || payload.take 4 != [0x5A, 0x56, 0, 0] then discard s
  else
    let l := payload.drop 4
    takeRemote (.inband p srcMac vlan) (if 16 ≤ l.length then l.take (pktTotal l) else l) s

/-! ## Tunnels (R77, R78, R328) -/

/-- A trunk that carries tunnels: TRAINED or above with TUNNEL_EN = 1 (R78). -/
def tunnelTrunk (s : State) (p : Nat) : Bool :=
  decide (p < 64) && isTrunk s p && decide (3 ≤ (trunk s p).link.code) && parN s (bP p) 0 Par.dfTunnelEn == 1

/-- An envelope that a node handles (R78). -/
def envelopeOk (e : Envelope) : Bool :=
  e.ver == 1 && decide (1 ≤ e.pathLen) && decide (e.pathLen ≤ 8) && decide (e.hopIndex ≤ e.pathLen)

/-- A packet came back for an open handle: it is held, at most 4 at a time, and TUNNEL_DONE reports it; the first
TUNNEL_DONE is the completion of the TUNNEL_SEND (R328, R336). -/
def handleTakes (k : Nat) (h : Handle) (pkt : List Byte) (s : State) : State :=
  if 4 ≤ h.held.length then s
  else
    let s := modKeep (fun x => { x with handles := x.handles.set k { h with held := h.held ++ [pkt], heard := true } }) s
    completeWith 0x0401 k bKEEP 0x04 [w32 k, w32 (if fld (beAt pkt 1 1) 2 1 = 2 then 1 else 0)] stOk s

/-- The command that a returned packet answers: a reply echoes SEQ, an event of a completion names it in REF_SEQ. -/
def answersSent (pkt sent : List Byte) : Bool :=
  if fld (beAt pkt 1 1) 2 1 = 1 then beAt pkt 2 2 == beAt sent 2 2 && beAt pkt 4 2 == beAt sent 4 2
  else (beAt pkt 1 1).testBit 0 && beAt pkt 10 2 == beAt sent 4 2

/-- The open handle a returned packet belongs to: of those whose route starts on its trunk with its length, the one
whose command it answers, or else the first. -/
def handleFor (s : State) (p : Nat) (e : Envelope) (pkt : List Byte) : Option (Nat × Handle) :=
  let l := s.keep.handles.filter (fun x => x.2.route.length == e.pathLen && x.2.route.head? == some p)
  match l.find? (fun x => answersSent pkt x.2.sent) with
  | some x => some x
  | none => l.head?

/-- Forwards a tunnelled packet on `out`, or discards it, counted at the trunk it came by (R77, R78; DESIGN CHOICE, log
entry 53: the rule does not say which port counts). -/
def tunnelOn (p out : Nat) (e : Envelope) (pkt : List Byte) (s : State) : State :=
  if tunnelTrunk s out then queueMgmt out (envBytes e ++ pkt) s else tunnelDiscard p 2 s

/-- R77 at a node: outbound to the next hop or to this unit's Keeper; on return to the hop before, or to the origin.  A
returning packet with HOP_INDEX 0 has no hop before and is discarded with cause 1 (DESIGN CHOICE, log entry 53). -/
def tunnelStep (p : Nat) (e : Envelope) (pkt : List Byte) (s : State) : State :=
  if !envelopeOk e then tunnelDiscard p 1 s
  else if 2048 < pkt.length then tunnelDiscard p 4 s
  else if e.back then
    if e.hopIndex = 0 then tunnelDiscard p 1 s
    else
      let e := { e with hopIndex := e.hopIndex - 1 }
      let out := e.ports.getD e.hopIndex 0
      if out = 0xFF then
        match handleFor s p e pkt with
        | some (k, h) => handleTakes k h pkt s
        | none => s
      else tunnelOn p out e pkt s
  else if e.hopIndex = e.pathLen then takeRemote (.tunnel p (envBytes { e with back := true })) pkt s
  else
    let out := e.ports.getD e.hopIndex 0
    tunnelOn p out { e with ports := e.ports.set e.hopIndex p, hopIndex := e.hopIndex + 1 } pkt s

/-- TUNNEL_PACKET_RECEIVED: a reassembled packet is forwarded, delivered or returned. -/
def effTunnelPacketReceived (p : Nat) (e : Envelope) (pkt : List Byte) (s : State) : State :=
  if !tunnelTrunk s p then s
  else tunnelStep p e pkt (modTrunk p (fun t => { t with rx := { t.rx with packets := t.rx.packets.erase (envBytes e ++ pkt) } }) s)

/-- TUNNEL_SEND at the origin, which acts with 0xFF in place of a trunk. -/
def bodyTunnelSend (h : CmdHdr) (e : Envelope) (pkt : List Byte) (s : State) : Resp :=
  if !envelopeOk e || e.back || e.hopIndex != 0 then refuse stOutOfRange s
  else if 2048 < pkt.length ∨ pkt.length < 16 then refuse stBadLength s
  else
    let out := e.ports.getD 0 0
    if !tunnelTrunk s out then refuse stNotReady s
    else match s.keep.handles.freeFrom 0 16 with
    | none => refuse stNoResource s
    | some k =>
      let x : Handle := { route := e.ports.take e.pathLen, sent := pkt, held := [], heard := false }
      let s := modKeep (fun y => { y with handles := y.handles.set k x }) s
      let s := queueMgmt out (envBytes { e with ports := e.ports.set 0 0xFF, hopIndex := 1 } ++ pkt) s
      { accepted 0x0401 k h s with words := w64 k }

/-- How many of the held packets fit in `room` bytes, each with its length word. -/
def packetsFit : Nat → List (List Byte) → Nat
  | _, [] => 0
  | room, l :: r => if room < 4 + 4 * wordsFor l.length then 0 else 1 + packetsFit (room - (4 + 4 * wordsFor l.length)) r

/-- A handle is freed; a TUNNEL_SEND that has had no TUNNEL_DONE has it now, with "no reply". -/
def freeHandle (k : Nat) (h : Handle) (s : State) : State :=
  let s := modKeep (fun x => { x with handles := x.handles.del k }) s
  if h.heard then s else completeWith 0x0401 k bKEEP 0x04 [w32 k, 2] stOk s

/-- TUNNEL_READ: the packets held, in arrival order; with CLOSE the handle is freed. -/
def bodyTunnelRead (hd : CmdHdr) (k : Nat) (close : Bool) (s : State) : Resp :=
  match s.keep.handles.find k with
  | none => refuse stOutOfRange s
  | some h =>
    let n := packetsFit (roomFor hd 1 * 4) h.held
    let words := (h.held.take n).flatMap (fun l => w32 l.length :: bytesWords l)
    let rest := { h with held := h.held.drop n }
    okWith (w32 n :: words)
      (if close then freeHandle k rest s else modKeep (fun x => { x with handles := x.handles.set k rest }) s)

/-- TUNNEL_TIMEOUT: no packet has returned. -/
def effTunnelTimeout (k : Nat) (s : State) : State :=
  match s.keep.handles.find k with
  | none => s
  | some h =>
    if h.heard then s
    else
      completeWith 0x0401 k bKEEP 0x04 [w32 k, 2] stOk
        (modKeep (fun x => { x with handles := x.handles.set k { h with heard := true } }) s)

/-- TUNNEL_HANDLE_EXPIRY: a handle not read for 1 s after its last TUNNEL_DONE is freed. -/
def effTunnelHandleExpiry (k : Nat) (s : State) : State :=
  match s.keep.handles.find k with
  | none => s
  | some h => if h.heard then freeHandle k h s else s

/-- REMOTE_RATE_SECOND: the counts of remote commands taken, of untagged replies and of refusals restart. -/
def effRemoteRateSecond (s : State) : State :=
  modKeep (fun k => { k with remoteTaken := 0, untagged := [], authRefused := 0 }) s

/-! ## Subscriptions and keys (R329, R330, R332) -/

/-- The destination a subscription names, if the command can name it. -/
def subDest (h : CmdHdr) (a : SubArgs) : Option Origin :=
  match a.dest with
  | 0 => if a.port < 64 then some (.inband a.port a.mac a.vlan) else none
  | 1 =>
    (match h.origin with
     | .tunnel p env => some (.tunnel p env)
     | _ => none)
  | _ => none

/-- The subscription held for a key and a destination. -/
def findSub (s : State) (k : Nat) (d : Origin) : Option Nat :=
  (s.keep.subs.find? (fun e => e.2.keyId == k && e.2.dest == d)).map (·.1)

/-- EVENT_SUBSCRIBE: a repeat renews; DEST 2 ends the subscriptions of the key. -/
def bodyEventSubscribe (h : CmdHdr) (a : SubArgs) (s : State) : Resp :=
  if 7 < a.keyId ∨ 2 < a.dest ∨ (keySlot s a.keyId).perm = 0 then refuse stOutOfRange s
  else if a.dest = 2 then
    let gone := s.keep.subs.filter (fun e => e.2.keyId == a.keyId)
    okWith (w64 ((gone.head?.map (·.1)).getD 0))
      (modKeep (fun k => { k with subs := k.subs.filter (fun e => e.2.keyId != a.keyId) }) s)
  else match subDest h a with
  | none => refuse stOutOfRange s
  | some d =>
    let at_ := match findSub s a.keyId d with
      | some i => some i
      | none => s.keep.subs.freeFrom 0 4
    match at_ with
    | none => refuse stNoResource s
    | some i => okWith (w64 i) (modKeep (fun k => { k with subs := k.subs.set i ⟨a.keyId, a.mask % 2 ^ 96, d⟩ }) s)

/-- SUB_LEASE_EXPIRY: a subscription lapses. -/
def effSubLeaseExpiry (i : Nat) (s : State) : State := modKeep (fun k => { k with subs := k.subs.del i }) s

/-- KEY_SET: a slot's key and permission; its floor is 0 again. -/
def bodyKeySet (k perm key : Nat) (s : State) : Resp :=
  if 7 < k ∨ 2 < perm then refuse stOutOfRange s
  else
    let x : KeySlot := { keySlot s k with perm := perm, key := if perm = 0 then 0 else key }
    ok { s with
      keep := { s.keep with keys := s.keep.keys.set k x }
      aon := { s.aon with floors := s.aon.floors.set k 0, flashFloors := s.aon.flashFloors.set k 0 } }

/-! ## IDENT, NOP, SCRIPT_WAIT -/

/-- IDENT: DEV_IDENT, DEV_SERIAL, FW_VERSION, the pair state and EPOCH. -/
def bodyIdent (s : State) : Resp :=
  okWith ([0x9680FB21] ++ w64 s.boot.serial ++ [w32 s.boot.fwVersion] ++ w64 ((s.pair.state.map PairRole.code).getD 0)
    ++ w64 s.pair.epoch) s

/-- NOP returns OK. -/
def bodyNop (s : State) : Resp := ok s

/-- Every masked ready bit is set. -/
def masksMet (s : State) (r0 r1 r2 r3 : Nat) : Bool :=
  r0 &&& ready0 s == r0 && r1 &&& ready1 s == r1 && r2 &&& readyLinks s 0 == r2 && r3 &&& readyLinks s 32 == r3

/-- Where a SCRIPT_WAIT stands: its status, or none while it waits (R345). -/
def waitStatus (r0 r1 r2 r3 ms : Nat) (s : State) : Option Nat :=
  if ms < 1 ∨ 10000 < ms then some stOutOfRange
  else if masksMet s r0 r1 r2 r3 then some stOk
  else match s.keep.script.bind (·.waitFrom) with
  | some t => if ms * 625000 ≤ s.ticks - t then some stNotReady else none
  | none => none

/-- The script notes since when it waits. -/
def startWait (s : State) : State :=
  match s.keep.script with
  | none => s
  | some r => modKeep (fun k => { k with script := some { r with waitFrom := some (r.waitFrom.getD s.ticks) } }) s

end Sys2Proof.Machine
end

