-- ==== Sys2Proof/Machine/Boot.lean ====
section
/-! DEFINITION. Start-up (chapter 16): reset release and the selection of an image (R363 to R370), calibration (R368,
R447), BOOT_OK (R369, R371), Standby Light mode (R372), and the commands of group 0x01. -/

namespace Sys2Proof.Machine

/-- Changes the start-up logic's state. -/
def modBoot (f : Boot → Boot) (s : State) : State := { s with boot := f s.boot }

/-! Cause codes (Table RG-3). -/
abbrev causeImages : Nat := 1
abbrev causeWatchdog : Nat := 2
abbrev causeFault : Nat := 3
abbrev causeSupply : Nat := 4
abbrev causeBist : Nat := 5
abbrev causeStrap : Nat := 6
abbrev causeForced : Nat := 7

/-! ## Flash images (R367, Tables BU-4 and BU-5) -/

/-- Where slot 1 (A) or 2 (B) begins. -/
def slotBase (k : Nat) : Nat := if k = 2 then 0x210000 else 0x10000

/-- The header of a slot. -/
def imageHead (m : List Host.Cell) (k : Nat) : List Byte := Memory.readAll m (slotBase k) 64

/-- A slot is valid: MAGIC, LENGTH, MIN_REV against B1, and the CRC over header and body. -/
def slotValid (m : List Host.Cell) (k : Nat) : Bool :=
  let h := imageHead m k
  let len := beAt h 8 4
  beAt h 0 4 == 0x5A56494D && decide (len ≤ 2097088) && decide (beAt h 12 1 ≤ 0x21) &&
    crc32c (h.take 60 ++ Memory.readAll m (slotBase k + 64) len) == beAt h 60 4

/-- The preferred slot; A where none was selected. -/
def preferredSlot (s : State) : Nat := if s.aon.preferred = 2 then 2 else 1

/-! ## Reset release (R363, R364, R370) -/

/-- Puts a block in RUN and starts its function. -/
def autoRun (b : Nat) (s : State) : State := startFunction b (modHdr b (fun h => { h with state := .run }) s)

/-- Puts a block on its way through INIT (R366). -/
def autoInit (b : Nat) (s : State) : State := modHdr b (fun h => { h with state := .init }) s

/-- Standby Light mode (R372): the ROM serves PCIe and SPI, and ISOPHASE toggles at 8 Hz. -/
def enterStandby (cause : Nat) (s : State) : State :=
  let s := modHost (fun h => { h with spiServed := true }) (modBoot (fun b => { b with phase := .standbyLight, cause := cause }) s)
  { s with iso := { s.iso with started := true, running := true, slow := true, cause := 0, stopBlock := 0xFF, stopIndex := 0 } }

/-- The attempt counter and the last cause as this start finds them: in VDD_AON, or in the flash mirror, where a counter
above 0 says that the supplies went away before BOOT_OK (R370). -/
def recallAttempts (aonValid : Bool) (s : State) : State :=
  if aonValid then s
  else
    let a := s.aon
    { s with aon := { a with
      attempts := a.flashAttempts
      cause := if 0 < a.flashAttempts then causeSupply else a.flashCause
      lastFault := none
      floors := a.flashFloors.map (fun e => (e.1, e.2 + 2 ^ 16)) } }

/-- The order in which the slots are tried at attempt `n`. -/
def slotOrder (p n : Nat) : List Nat := if n ≤ 2 then [p, 3 - p] else [3 - p, p]

/-- The slots are read and checked; a slot that is not valid raises IMAGE_CHECK, an unreadable flash FLASH_ERROR. -/
def checkSlots (s : State) : State :=
  if !s.boot.flashOk then raise bBOOT 3 s
  else
    let a := slotValid s.flash 1
    let b := slotValid s.flash 2
    let s := modBoot (fun x => { x with aValid := a, bValid := b }) s
    if a && b then s else raise bBOOT 2 s

/-- An attempt to start (R370): counted, and the order of the slots chosen. -/
def attempt (s : State) : State :=
  let n := s.aon.attempts + 1
  let s := { s with aon := { s.aon with attempts := n, flashAttempts := n } }
  let s := modBoot (fun b => { b with attempts := n, order := slotOrder (preferredSlot s) n }) s
  let s := checkSlots s
  if s.boot.aValid || s.boot.bValid then s else enterStandby causeImages (recordCause causeImages s)

/-- RESET_RELEASE: `pairs` says what the self-test of the controller pairs found: 0 none can run, 1 none works but one
can run the ROM, 2 one works, 3 both work. -/
def effResetRelease (straps : Straps) (aonValid flashOk : Bool) (pairs : Nat) (s : State) : State :=
  if s.boot.phase ≠ .heldInReset ∨ s.boot.jtagHold ∨ pairs = 0 then s
  else
    let s := recallAttempts aonValid s
    let s := modBoot (fun b => { b with
      phase := .started, straps := straps, aonValid := aonValid, flashOk := flashOk, attempts := s.aon.attempts,
      cause := s.aon.cause }) s
    let s := modHost (fun h => { h with training := !h.perstLow }) s
    let s := modKeep (fun k => { k with spareReady := decide (3 ≤ pairs) && !k.spareRetired }) s
    let s := autoRun bBOOT (autoRun bKEEP (modHdr bHOST (fun h => { h with state := .run }) s))
    if straps.bootSrc % 4 = 2 then enterStandby causeStrap s
    else if straps.bootSrc % 4 = 3 then enterStandby causeForced s
    else if pairs = 1 then enterStandby causeBist (recordCause causeBist s)
    else if 3 ≤ s.aon.attempts then enterStandby s.aon.cause s
    else attempt s

/-! ## The steps of Table BU-2 -/

/-- PLLS_LOCKED_AT_START: CSYN runs, and the blocks of Table BU-3 that need no more. -/
def effPllsLockedAtStart (s : State) : State :=
  if s.boot.phase ≠ .started ∨ (hdr s bCSYN).state ≠ .off then s
  else
    let s := autoRun bCSYN s
    let s := [bGUH, bTIC, bLKP, bSCHED, bTRACE].foldl (fun s b => autoRun b s) s
    [bSHAFT, bREFS, bBUF, bCORE].foldl (fun s b => autoInit b s) s

/-- The value that at least two of three copies hold (R447). -/
def majority (l : List (Option Nat)) : Option Nat :=
  let vs := l.filterMap id
  vs.find? (fun v => decide (2 ≤ (vs.filter (· == v)).length))

/-- The identity record (R447). -/
def loadIds (ids : List (Option (Nat × Nat))) (s : State) : State :=
  let l := ids.take 3
  let serial := majority (l.map (fun e => e.map (·.1)))
  let mac := majority (l.map (fun e => e.map (·.2)))
  let s := modBoot (fun b => { b with serial := serial.getD 0 % 2 ^ 64, mac := mac.getD 0 % 2 ^ 48 }) s
  if serial.isSome && mac.isSome then s else raise bBOOT 6 s

/-- CALIBRATION_LOAD (R368, R405) at each start, one into Standby Light mode too: whether each copy passed its check, the copies of the identity record, and the
interpolators whose overlay is bad. -/
def effCalibrationLoad (copy0 copy1 : Bool) (ids : List (Option (Nat × Nat))) (overlayBad : List Nat) (s : State) : State :=
  if s.boot.phase = .heldInReset ∨ s.boot.calRead then s
  else
    let s := modBoot (fun b => { b with calRead := true, cal0 := copy0, cal1 := copy1 }) s
    let s := if copy0 && copy1 then s else logEntry 8 bBOOT 0 [0] (raise bBOOT 0 s)
    let s := if copy0 || copy1 then s else logEntry 8 bBOOT 1 [1] (raise bBOOT 1 s)
    let s := overlayBad.foldl (fun s u =>
      logEntry 8 bTIC u [3] (modHlth (fun h => { h with overlays := h.overlays.del u }) s)) s
    modHost (fun h => { h with spiServed := true }) (loadIds ids s)

/-! ## The startup script (Table EF-11, R344, R345) -/

/-- The script's flash region. -/
abbrev scriptBase : Nat := 0x410000

/-- The bytes of the script, SLEN of them. -/
def scriptBytes (m : List Host.Cell) : List Byte :=
  Memory.readAll m scriptBase (beAt (Memory.readAll m (scriptBase + 8) 4) 0 4)

/-- The script's header and CRC are good. -/
def scriptValid (m : List Host.Cell) : Bool :=
  let h := Memory.readAll m scriptBase 64
  let len := beAt h 8 4
  beAt h 0 4 == 0x5A565331 && beAt h 4 2 == 1 && decide (68 ≤ len) && decide (len ≤ 262144) &&
    beAt h 44 4 ≤ 1 && beAt h 32 8 % 4096 == 0 &&
    (let l := scriptBytes m
     crc32c (l.take (len - 4)) == beAt l (len - 4) 4)

/-- The packets of the script, each of the length its header gives. -/
def splitPackets : Nat → List Byte → List (List Byte)
  | 0, _ => []
  | n + 1, l => l.take (pktTotal l) :: splitPackets n (l.drop (pktTotal l))

/-- The script is run from its first packet. -/
def startScript (s : State) : State :=
  let l := scriptBytes s.flash
  let run : ScriptRun :=
    { pkts := splitPackets (beAt l 6 2) ((l.take (l.length - 4)).drop 64), stopOnErr := (beAt l 44 4).testBit 0,
      scriptId := beAt l 12 4, run := 0, first := none, holding := false, ended := false, waitFrom := none }
  modKeep (fun k => { k with script := some run }) (modBoot (fun b => { b with
    script := 1, scriptId := beAt l 12 4, req := [beAt l 16 4, beAt l 20 4, beAt l 24 4, beAt l 28 4],
    llBase := beAt l 32 8, llBytes := beAt l 40 4 }) s)

/-- The script at a start: none by strap or in an erased region, run if it is valid, and SCRIPT_CHECK otherwise. -/
def loadScript (s : State) : State :=
  if s.boot.straps.bootSrc % 4 = 1 ∨ beAt (Memory.readAll s.flash scriptBase 4) 0 4 = 0xFFFFFFFF then s
  else if scriptValid s.flash then startScript s
  else raise bBOOT 4 (modBoot (fun b => { b with script := 4 }) s)

/-! ## Command service begins, and BOOT_OK -/

/-- The entries of Table HL-5 that a start writes: the fault before the reset (R377), and the start. -/
def logStart (s : State) : State :=
  let s := match s.aon.lastFault with
    | some (b, i, t) => logEntry 5 b i (bytesBE 4 (2 ^ 31 + b % 256 * 2 ^ 16 + i % 32 * 2 ^ 8) ++ bytesBE 4 t) s
    | none => s
  logEntry 6 bBOOT 0 (bytesBE 1 s.boot.attempts ++ bytesBE 1 s.boot.cause ++ bytesBE 1 s.boot.image ++ bytesBE 1 (b2n s.boot.fallback)) s

/-- IMAGE_LOADED: the first valid slot of the order is loaded, KEEP_CMD sets, and STORE and HLTH start (R365 to R367). -/
def effImageLoaded (s : State) : State :=
  if s.boot.phase ≠ .started ∨ s.keep.cmdService then s
  else match s.boot.order.find? (fun k => slotValid s.flash k) with
  | none => s
  | some k =>
    let v := beAt (imageHead s.flash k) 4 4
    let s := modBoot (fun b => { b with
      image := k, fallback := decide (k ≠ preferredSlot s), fwVersion := v, tKeep := s.ticks / 625000 }) s
    let s := modKeep (fun x => { x with cmdService := true }) s
    let s := modHdr bSTORE (fun h => { h with state := .run }) (modHdr bHLTH (fun h => { h with state := .run }) s)
    logStart (loadScript (modHlth (fun h => { h with recordOk := s.boot.flashOk }) s))

/-- Every ready bit that the script's masks name is set; without a valid script KEEP_CMD alone (R369). -/
def reqMet (s : State) : Bool :=
  match s.boot.req with
  | [a, b, c, d] => masksMet s a b c d
  | _ => rKeepCmd s

/-- BOOT_OK is declared (R369, R371): 0 complete, 1 at 10 s. -/
def declareBootOk (kind : Nat) (s : State) : State :=
  let t := s.ticks / 625000
  let s := { s with aon := { s.aon with attempts := 0, flashAttempts := 0, lastFault := none } }
  let s := modBoot (fun b => { b with bootOk := true, attempts := 0, tBootOk := t }) s
  let s := modHlth (fun h => { h with sumDue := true, life := { h.life with bootOks := (h.life.bootOks + 1) % 2 ^ 32 } }) s
  let s := report bBOOT 0x02 [w32 kind, w32 (min t 0xFFFF), w32 s.boot.image, w32 s.boot.cause] s
  if s.boot.fallback then
    report bBOOT 0x03 [w32 s.boot.image] { s with aon := { s.aon with preferred := s.boot.image } }
  else s

/-- BOOT_OK: every required ready bit is set. -/
def effBootOk (s : State) : State :=
  if s.boot.phase ≠ .started ∨ s.boot.bootOk ∨ !s.keep.cmdService ∨ !reqMet s then s else declareBootOk 0 s

/-- BOOT_INCOMPLETE: 10 s after reset release the Keeper still serves commands. -/
def effBootIncomplete (s : State) : State :=
  if s.boot.phase ≠ .started ∨ s.boot.bootOk ∨ !rKeepCmd s then s else raise bBOOT 5 (declareBootOk 1 s)

/-! ## Commands of group 0x01 -/

/-- BOOT_STATUS. -/
def bodyBootStatus (s : State) : Resp :=
  okWith [w32 (bootStatus s), w32 (bootFlash s), w32 (min s.boot.tKeep 0xFFFF * 2 ^ 16 + min s.boot.tBootOk 0xFFFF),
    w32 s.boot.scriptId] s

/-- Writes flash bytes; the completion follows when the last step is done. -/
def flashWrite (op : Nat) (h : CmdHdr) (at_ : Nat) (data : List Byte) (s : State) : Resp :=
  if !s.keep.bulk.isEmpty then refuse stBusy s
  else if !s.boot.flashOk then { refuse stInternal s with state := raise bBOOT 3 s }
  else
    let s := { s with flash := Memory.writeAll s.flash at_ data }
    accepted op 0 h (modKeep (fun k => { k with bulk := [⟨op, h, 0⟩] }) s)

/-- IMAGE_WRITE: never to the slot that runs. -/
def bodyImageWrite (h : CmdHdr) (k off : Nat) (data : List Byte) (s : State) : Resp :=
  if k = 0 ∨ 2 < k ∨ 0x200000 < off + data.length then refuse stOutOfRange s
  else if s.boot.phase = .started ∧ s.boot.image = k then refuse stBusy s
  else flashWrite 0x0102 h (slotBase k + off) data s

/-- IMAGE_SELECT: the preferred slot of later starts, which must be valid. -/
def bodyImageSelect (k : Nat) (s : State) : Resp :=
  if k = 0 ∨ 2 < k then refuse stOutOfRange s
  else if !s.boot.flashOk then { refuse stInternal s with state := raise bBOOT 3 s }
  else if !slotValid s.flash k then refuse stCheckFail s
  else ok (report bBOOT 0x04 [w32 k] { s with aon := { s.aon with preferred := k } })

/-- SCRIPT_WRITE. -/
def bodyScriptWrite (h : CmdHdr) (off : Nat) (data : List Byte) (s : State) : Resp :=
  if 262144 < off + data.length then refuse stOutOfRange s else flashWrite 0x0104 h (scriptBase + off) data s

/-- RESTART: the reply is sent first; the reset follows it. -/
def bodyRestart (s : State) : Resp := ok s

end Sys2Proof.Machine
end

