-- ==== Sys2Proof/Machine/Efram.lean ====
section
/-! DEFINITION. Efram commands: what each row of Table EF-9 answers, and how the Keeper comes to execute a packet
(R334) and the startup script (R345). -/

namespace Sys2Proof.Machine

/-- SCRIPT_WAIT once its outcome is known. -/
def bodyScriptWait (r0 r1 r2 r3 ms : Nat) (s : State) : Resp :=
  refuse ((waitStatus r0 r1 r2 r3 ms s).getD stNotReady) s

/-- What a command of Table EF-9 does (steps 12 of Table EF-4); the other rows of the table are no packets. -/
def respond (i : Instr) (s : State) : Resp :=
  match i with
  | .ident _ => bodyIdent s
  | .nop _ => bodyNop s
  | .paramGet _ shadow ids => bodyParamGet shadow ids s
  | .paramSet _ es => bodyParamSet es s
  | .paramStage _ es => bodyParamStage es s
  | .commit h a => bodyCommit h a s
  | .commitCancel _ discard mask => bodyCommitCancel discard mask s
  | .blockStop _ b => bodyBlockStop b s
  | .blockStart h b => bodyBlockStart h b s
  | .blockReset h b => bodyBlockReset h b s
  | .powerBudget _ => bodyPowerBudget s
  | .regRead _ offs => bodyRegRead offs s
  | .regWrite _ ps => bodyRegWrite ps s
  | .eventSubscribe h a => bodyEventSubscribe h a s
  | .keySet _ keyId perm key => bodyKeySet keyId perm key s
  | .scriptWait _ r0 r1 r2 r3 timeout => bodyScriptWait r0 r1 r2 r3 timeout s
  | .bootStatus _ => bodyBootStatus s
  | .imageWrite h slot offset data => bodyImageWrite h slot offset data s
  | .imageSelect _ slot => bodyImageSelect slot s
  | .scriptWrite h offset data => bodyScriptWrite h offset data s
  | .restart _ => bodyRestart s
  | .laneAdapt h q n => bodyLaneAdapt h q n s
  | .laneRead _ q n => bodyLaneRead q n s
  | .ptpPortRead _ p => bodyPtpPortRead p s
  | .tunnelSend h env pkt => bodyTunnelSend h env pkt s
  | .tunnelRead h handle close => bodyTunnelRead h handle close s
  | .tableWrite _ table entries => bodyTableWrite table entries s
  | .tableRead h table key count => bodyTableRead h table key count s
  | .tableLoad h table _ entries => bodyTableLoad h table entries s
  | .channelAdd _ ch desc => bodyChannelAdd ch desc s
  | .channelModify _ ch stage resetMask desc => bodyChannelModify ch stage resetMask desc s
  | .channelRemove _ ch => bodyChannelRemove ch s
  | .channelPin _ ch pinReq => bodyChannelPin ch pinReq s
  | .channelRead _ ch => bodyChannelRead ch s
  | .crossingBook _ ch inPort outPort entry maxlen => bodyCrossingBook ch inPort outPort entry maxlen s
  | .crossingRelease _ booking => bodyCrossingRelease booking s
  | .flushRead h first count => bodyFlushRead h first count s
  | .gclLoad _ a => bodyGclLoad a s
  | .slotWrite _ slot data => bodySlotWrite slot data s
  | .slotConfig _ a => bodySlotConfig a s
  | .slotRead _ slot => bodySlotRead slot s
  | .policerSet _ pol cir pir cbs pbs aware => bodyPolicerSet pol cir pir cbs pbs aware s
  | .policerRead _ pol => bodyPolicerRead pol s
  | .timeSet _ sec ns frac => bodyTimeSet sec ns frac s
  | .timeAdjust h when_ d target => bodyTimeAdjust h when_ d target s
  | .timeAcceptJump _ => bodyTimeAcceptJump s
  | .asymSet _ p vals => bodyAsymSet p vals s
  | .timeRead _ => bodyTimeRead s
  | .refConfig _ cand mask vals => bodyRefConfig cand mask vals s
  | .refForce _ sel cand => bodyRefForce sel cand s
  | .outConfig _ out mask vals => bodyOutConfig out mask vals s
  | .outPhaseStep _ out d => bodyOutPhaseStep out d s
  | .ticArm h a => bodyTicArm h a s
  | .ticRead h ch count => bodyTicRead h ch count s
  | .shaftDefine _ sh mask vals => bodyShaftDefine sh mask vals s
  | .segmentPush _ sh rec => bodySegmentPush sh rec.toNat s
  | .gearSet h a => bodyGearSet h a s
  | .sectorAdd _ a => bodySectorAdd a s
  | .sectorRemove _ slot => bodySectorRemove slot s
  | .sectorRead h count => bodySectorRead h count s
  | .roleSet _ mode pairId prio trunk => bodyRoleSet mode pairId prio trunk s
  | .switchover h force => bodySwitchover h force s
  | .faultRead _ b => bodyFaultRead b s
  | .faultClear _ b flt int ovf => bodyFaultClear b flt int ovf s
  | .faultReactSet _ b idx react => bodyFaultReactSet b idx react s
  | .aliveResume _ => bodyAliveResume s
  | .faultInject _ b idx => bodyFaultInject b idx s
  | .bistRun h b unit => bodyBistRun h b unit s
  | .spareSwap h b unit => bodySpareSwap h b unit s
  | .serviceRecordRead h region start count => bodyServiceRecordRead h region start count s
  | .testUnlock _ => bodyTestUnlock s
  | .counterConfig _ b ctr filt sel => bodyCounterConfig b ctr filt sel s
  | .counterRead _ pairs => bodyCounterRead pairs s
  | .traceConfig _ mask vals => bodyTraceConfig mask vals s
  | .traceRead h count => bodyTraceRead h count s
  | .captureRead h count => bodyCaptureRead h count s
  | _ => refuse stInternal s

/-- IDENT (R2). -/
def effIdent (h : CmdHdr) (s : State) : State := serve 0x0001 h bodyIdent s
/-- NOP (R333). -/
def effNop (h : CmdHdr) (s : State) : State := serve 0x0002 h bodyNop s
/-- PARAM_GET (R337). -/
def effParamGet (h : CmdHdr) (shadow : Bool) (ids : List Nat) (s : State) : State := serve 0x0003 h (bodyParamGet shadow ids) s
/-- PARAM_SET (R338). -/
def effParamSet (h : CmdHdr) (es : List ParamEntry) (s : State) : State := serve 0x0004 h (bodyParamSet es) s
/-- PARAM_STAGE (R338). -/
def effParamStage (h : CmdHdr) (es : List ParamEntry) (s : State) : State := serve 0x0005 h (bodyParamStage es) s
/-- COMMIT (R339). -/
def effCommit (h : CmdHdr) (a : CommitArgs) (s : State) : State := serve 0x0006 h (bodyCommit h a) s
/-- COMMIT_CANCEL (R340). -/
def effCommitCancel (h : CmdHdr) (discard : Bool) (mask : Nat) (s : State) : State := serve 0x0007 h (bodyCommitCancel discard mask) s
/-- BLOCK_STOP (R341). -/
def effBlockStop (h : CmdHdr) (b : Nat) (s : State) : State := serve 0x0008 h (bodyBlockStop b) s
/-- BLOCK_START (R341). -/
def effBlockStart (h : CmdHdr) (b : Nat) (s : State) : State := serve 0x0009 h (bodyBlockStart h b) s
/-- BLOCK_RESET (R341). -/
def effBlockReset (h : CmdHdr) (b : Nat) (s : State) : State := serve 0x000A h (bodyBlockReset h b) s
/-- POWER_BUDGET (R392). -/
def effPowerBudget (h : CmdHdr) (s : State) : State := serve 0x000B h bodyPowerBudget s
/-- REG_READ (R349). -/
def effRegRead (h : CmdHdr) (offs : List Nat) (s : State) : State := serve 0x000C h (bodyRegRead offs) s
/-- REG_WRITE (R348). -/
def effRegWrite (h : CmdHdr) (ps : List (Nat × Word)) (s : State) : State := serve 0x000D h (bodyRegWrite ps) s
/-- EVENT_SUBSCRIBE (R332). -/
def effEventSubscribe (h : CmdHdr) (a : SubArgs) (s : State) : State := serve 0x000E h (bodyEventSubscribe h a) s
/-- KEY_SET (R329). -/
def effKeySet (h : CmdHdr) (keyId perm key : Nat) (s : State) : State := serve 0x000F h (bodyKeySet keyId perm key) s
/-- BOOT_STATUS (R369). -/
def effBootStatus (h : CmdHdr) (s : State) : State := serve 0x0101 h bodyBootStatus s
/-- IMAGE_WRITE (R367). -/
def effImageWrite (h : CmdHdr) (slot offset : Nat) (data : List Byte) (s : State) : State := serve 0x0102 h (bodyImageWrite h slot offset data) s
/-- IMAGE_SELECT (R367). -/
def effImageSelect (h : CmdHdr) (slot : Nat) (s : State) : State := serve 0x0103 h (bodyImageSelect slot) s
/-- SCRIPT_WRITE (R342). -/
def effScriptWrite (h : CmdHdr) (offset : Nat) (data : List Byte) (s : State) : State := serve 0x0104 h (bodyScriptWrite h offset data) s
/-- RESTART (R363). -/
def effRestart (h : CmdHdr) (s : State) : State := serve 0x0105 h bodyRestart s
/-- LANE_ADAPT (R450). -/
def effLaneAdapt (h : CmdHdr) (q n : Nat) (s : State) : State := serve 0x0201 h (bodyLaneAdapt h q n) s
/-- LANE_READ (R36). -/
def effLaneRead (h : CmdHdr) (q n : Nat) (s : State) : State := serve 0x0202 h (bodyLaneRead q n) s
/-- PTP_PORT_READ (R98). -/
def effPtpPortRead (h : CmdHdr) (p : Nat) (s : State) : State := serve 0x0301 h (bodyPtpPortRead p) s
/-- TUNNEL_SEND (R328). -/
def effTunnelSend (h : CmdHdr) (env : Envelope) (pkt : List Byte) (s : State) : State := serve 0x0401 h (bodyTunnelSend h env pkt) s
/-- TUNNEL_READ (R328). -/
def effTunnelRead (h : CmdHdr) (handle : Nat) (close : Bool) (s : State) : State := serve 0x0402 h (bodyTunnelRead h handle close) s
/-- TABLE_WRITE (R237). -/
def effTableWrite (h : CmdHdr) (table : Nat) (entries : List (List Nat)) (s : State) : State := serve 0x0501 h (bodyTableWrite table entries) s
/-- TABLE_READ (R237). -/
def effTableRead (h : CmdHdr) (table : Nat) (key : List Nat) (count : Nat) (s : State) : State := serve 0x0502 h (bodyTableRead h table key count) s
/-- TABLE_LOAD (R237). -/
def effTableLoad (h : CmdHdr) (table _first : Nat) (entries : List (List Nat)) (s : State) : State := serve 0x0503 h (bodyTableLoad h table entries) s
/-- CHANNEL_ADD (R240). -/
def effChannelAdd (h : CmdHdr) (ch : Nat) (desc : List Word) (s : State) : State := serve 0x0601 h (bodyChannelAdd ch desc) s
/-- CHANNEL_MODIFY (R240). -/
def effChannelModify (h : CmdHdr) (ch : Nat) (stage : Bool) (resetMask : Nat) (desc : List Word) (s : State) : State := serve 0x0602 h (bodyChannelModify ch stage resetMask desc) s
/-- CHANNEL_REMOVE (R240). -/
def effChannelRemove (h : CmdHdr) (ch : Nat) (s : State) : State := serve 0x0603 h (bodyChannelRemove ch) s
/-- CHANNEL_PIN (R240). -/
def effChannelPin (h : CmdHdr) (ch : Nat) (pinReq : Bool) (s : State) : State := serve 0x0604 h (bodyChannelPin ch pinReq) s
/-- CHANNEL_READ (R240). -/
def effChannelRead (h : CmdHdr) (ch : Nat) (s : State) : State := serve 0x0605 h (bodyChannelRead ch) s
/-- CROSSING_BOOK (R248). -/
def effCrossingBook (h : CmdHdr) (ch inPort outPort entry maxlen : Nat) (s : State) : State := serve 0x0606 h (bodyCrossingBook ch inPort outPort entry maxlen) s
/-- CROSSING_RELEASE (R248). -/
def effCrossingRelease (h : CmdHdr) (booking : Nat) (s : State) : State := serve 0x0607 h (bodyCrossingRelease booking) s
/-- FLUSH_READ (R268). -/
def effFlushRead (h : CmdHdr) (first count : Nat) (s : State) : State := serve 0x0608 h (bodyFlushRead h first count) s
/-- GCL_LOAD (R276). -/
def effGclLoad (h : CmdHdr) (a : GclArgs) (s : State) : State := serve 0x0701 h (bodyGclLoad a) s
/-- SLOT_WRITE (R288). -/
def effSlotWrite (h : CmdHdr) (slot : Nat) (data : List Byte) (s : State) : State := serve 0x0702 h (bodySlotWrite slot data) s
/-- SLOT_CONFIG (R288). -/
def effSlotConfig (h : CmdHdr) (a : SlotArgs) (s : State) : State := serve 0x0703 h (bodySlotConfig a) s
/-- SLOT_READ (R288). -/
def effSlotRead (h : CmdHdr) (slot : Nat) (s : State) : State := serve 0x0704 h (bodySlotRead slot) s
/-- POLICER_SET (R297). -/
def effPolicerSet (h : CmdHdr) (pol cir pir cbs pbs : Nat) (aware : Bool) (s : State) : State := serve 0x0705 h (bodyPolicerSet pol cir pir cbs pbs aware) s
/-- POLICER_READ (R297). -/
def effPolicerRead (h : CmdHdr) (pol : Nat) (s : State) : State := serve 0x0706 h (bodyPolicerRead pol) s
/-- TIME_SET (R123). -/
def effTimeSet (h : CmdHdr) (sec ns frac : Nat) (s : State) : State := serve 0x0801 h (bodyTimeSet sec ns frac) s
/-- TIME_ADJUST (R124). -/
def effTimeAdjust (h : CmdHdr) (when_ : Nat) (d : Int) (target : Nat) (s : State) : State := serve 0x0802 h (bodyTimeAdjust h when_ d target) s
/-- TIME_ACCEPT_JUMP (R125). -/
def effTimeAcceptJump (h : CmdHdr) (s : State) : State := serve 0x0803 h bodyTimeAcceptJump s
/-- ASYM_SET (R115). -/
def effAsymSet (h : CmdHdr) (p : Nat) (vals : List Word64) (s : State) : State := serve 0x0804 h (bodyAsymSet p vals) s
/-- TIME_READ (R353). -/
def effTimeRead (h : CmdHdr) (s : State) : State := serve 0x0805 h bodyTimeRead s
/-- REF_CONFIG (R158). -/
def effRefConfig (h : CmdHdr) (cand mask : Nat) (vals : List Word64) (s : State) : State := serve 0x0901 h (bodyRefConfig cand mask vals) s
/-- REF_FORCE (R147). -/
def effRefForce (h : CmdHdr) (sel cand : Nat) (s : State) : State := serve 0x0902 h (bodyRefForce sel cand) s
/-- OUT_CONFIG (R171). -/
def effOutConfig (h : CmdHdr) (out mask : Nat) (vals : List Word64) (s : State) : State := serve 0x0A01 h (bodyOutConfig out mask vals) s
/-- OUT_PHASE_STEP (R173). -/
def effOutPhaseStep (h : CmdHdr) (out : Nat) (d : Int) (s : State) : State := serve 0x0A02 h (bodyOutPhaseStep out d) s
/-- TIC_ARM (R188). -/
def effTicArm (h : CmdHdr) (a : TicArgs) (s : State) : State := serve 0x0B01 h (bodyTicArm h a) s
/-- TIC_READ (R194). -/
def effTicRead (h : CmdHdr) (ch count : Nat) (s : State) : State := serve 0x0B02 h (bodyTicRead h ch count) s
/-- SHAFT_DEFINE (R207). -/
def effShaftDefine (h : CmdHdr) (sh mask : Nat) (vals : List Word64) (s : State) : State := serve 0x0C01 h (bodyShaftDefine sh mask vals) s
/-- SEGMENT_PUSH (R203). -/
def effSegmentPush (h : CmdHdr) (sh : Nat) (rec : BitVec 288) (s : State) : State := serve 0x0C02 h (bodySegmentPush sh rec.toNat) s
/-- GEAR_SET (R211). -/
def effGearSet (h : CmdHdr) (a : GearArgs) (s : State) : State := serve 0x0C03 h (bodyGearSet h a) s
/-- SECTOR_ADD (R222). -/
def effSectorAdd (h : CmdHdr) (a : SectorArgs) (s : State) : State := serve 0x0C04 h (bodySectorAdd a) s
/-- SECTOR_REMOVE (R452). -/
def effSectorRemove (h : CmdHdr) (slot : Nat) (s : State) : State := serve 0x0C05 h (bodySectorRemove slot) s
/-- SECTOR_READ (R225). -/
def effSectorRead (h : CmdHdr) (count : Nat) (s : State) : State := serve 0x0C06 h (bodySectorRead h count) s
/-- ROLE_SET (R315). -/
def effRoleSet (h : CmdHdr) (mode pairId prio trunk : Nat) (s : State) : State := serve 0x0D01 h (bodyRoleSet mode pairId prio trunk) s
/-- SWITCHOVER (R311). -/
def effSwitchover (h : CmdHdr) (force : Bool) (s : State) : State := serve 0x0D02 h (bodySwitchover h force) s
/-- FAULT_READ (R380). -/
def effFaultRead (h : CmdHdr) (b : Nat) (s : State) : State := serve 0x0E01 h (bodyFaultRead b) s
/-- FAULT_CLEAR (R384). -/
def effFaultClear (h : CmdHdr) (b flt int : Nat) (ovf : Bool) (s : State) : State := serve 0x0E02 h (bodyFaultClear b flt int ovf) s
/-- FAULT_REACT_SET (R380). -/
def effFaultReactSet (h : CmdHdr) (b idx react : Nat) (s : State) : State := serve 0x0E03 h (bodyFaultReactSet b idx react) s
/-- ALIVE_RESUME (R385). -/
def effAliveResume (h : CmdHdr) (s : State) : State := serve 0x0E04 h bodyAliveResume s
/-- FAULT_INJECT (R387). -/
def effFaultInject (h : CmdHdr) (b idx : Nat) (s : State) : State := serve 0x0E05 h (bodyFaultInject b idx) s
/-- BIST_RUN (R396). -/
def effBistRun (h : CmdHdr) (b unit : Nat) (s : State) : State := serve 0x0F01 h (bodyBistRun h b unit) s
/-- SPARE_SWAP (R393). -/
def effSpareSwap (h : CmdHdr) (b unit : Nat) (s : State) : State := serve 0x0F02 h (bodySpareSwap h b unit) s
/-- SERVICE_RECORD_READ (R406). -/
def effServiceRecordRead (h : CmdHdr) (region start count : Nat) (s : State) : State := serve 0x0F03 h (bodyServiceRecordRead h region start count) s
/-- TEST_UNLOCK (R387). -/
def effTestUnlock (h : CmdHdr) (s : State) : State := serve 0x0F04 h bodyTestUnlock s
/-- COUNTER_CONFIG (R411). -/
def effCounterConfig (h : CmdHdr) (b ctr : Nat) (filt : Word64) (sel : Word) (s : State) : State := serve 0x1001 h (bodyCounterConfig b ctr filt sel) s
/-- COUNTER_READ (R411). -/
def effCounterRead (h : CmdHdr) (pairs : List (Nat × Nat)) (s : State) : State := serve 0x1002 h (bodyCounterRead pairs) s
/-- TRACE_CONFIG (R416). -/
def effTraceConfig (h : CmdHdr) (mask : Nat) (vals : List Word64) (s : State) : State := serve 0x1003 h (bodyTraceConfig mask vals) s
/-- TRACE_READ (R415). -/
def effTraceRead (h : CmdHdr) (count : Nat) (s : State) : State := serve 0x1004 h (bodyTraceRead h count) s
/-- CAPTURE_READ (R272). -/
def effCaptureRead (h : CmdHdr) (count : Nat) (s : State) : State := serve 0x1005 h (bodyCaptureRead h count) s

/-- SCRIPT_WAIT (R345): no answer while it waits. -/
def effScriptWait (h : CmdHdr) (r0 r1 r2 r3 timeout : Nat) (s : State) : State :=
  if keeperUp s && (stepRefusal 0x0010 h s).isNone && (waitStatus r0 r1 r2 r3 timeout s).isNone then startWait s
  else serve 0x0010 h (bodyScriptWait r0 r1 r2 r3 timeout) s

/-! ## Execution (R334) -/

/-- A body parsed and executed; a body that spells no command is refused (R346). -/
def respondBody (op : Nat) (h : CmdHdr) (b : Body) (s : State) : Resp :=
  match parseBody op h s.free b with
  | .ok i => respond i { s with free := s.free + 1 }
  | .error .length => refuse stBadLength s
  | .error .range => refuse stOutOfRange s

/-- The first waiting command of a class, the transports taken in turn from `t` on. -/
def firstOf (l : List Waiting) (cls t : Nat) : Nat → Option Waiting
  | 0 => none
  | n + 1 =>
    match l.find? (fun w => w.hdr.cls == cls && transportOf w.hdr.origin == t % 4) with
    | some w => some w
    | none => firstOf l cls (t + 1) n

/-- The next command: urgent before immediate before bulk; no bulk command while one runs. -/
def nextWaiting (s : State) : Option Waiting :=
  let l := s.keep.waiting
  match firstOf l 1 s.keep.turn 4 with
  | some w => some w
  | none =>
    match firstOf l 0 s.keep.turn 4 with
    | some w => some w
    | none => if s.keep.bulk.isEmpty then firstOf l 2 s.keep.turn 4 else none

/-- COMMAND_EXECUTION_START. -/
def effCommandExecutionStart (s : State) : State :=
  if !keeperUp s then s
  else match nextWaiting s with
  | none => s
  | some w =>
    let s := modKeep (fun k => { k with waiting := k.waiting.erase w, turn := (transportOf w.hdr.origin + 1) % 4 }) s
    execute w.opcode w.hdr (respondBody w.opcode w.hdr w.body) s

/-- BULK_STEP_DONE: the step of a flash write or of a table load ends; the last one completes the command. -/
def effBulkStepDone (last : Bool) (s : State) : State :=
  if !keeperUp s then s
  else match s.keep.bulk with
  | a :: r => if last then completeDone a.opcode 0 stOk (modKeep (fun k => { k with bulk := r }) s) else s
  | [] => loadStep last s

/-- COMMAND_PROGRESS of the bulk command that runs (R335). -/
def effCommandProgress (percent : Nat) (s : State) : State :=
  if !keeperUp s then s
  else match s.keep.bulk with
  | a :: _ => report bKEEP 0x02 [w32 a.opcode, w32 (min percent 100)] s
  | [] => if s.core.loads.isEmpty then s else report bKEEP 0x02 [0x0503, w32 (min percent 100)] s

/-! ## The startup script (R345) -/

/-- Runs one packet of the script, already taken from its list. -/
def runScriptPkt (l : List Byte) (s : State) : State :=
  match acceptPkt .script l s with
  | (none, s) => s
  | (some w, s) => execute w.opcode w.hdr (respondBody w.opcode w.hdr w.body) s

/-- The SCRIPT_WAIT that a packet spells and that has no outcome yet. -/
def stillWaits (l : List Byte) (s : State) : Bool :=
  match parseBody (beAt l 2 2) (pktHdr .script l) 0 (bytesWords ((l.drop 16).take (4 * beAt l 6 2))) with
  | .ok (.scriptWait _ r0 r1 r2 r3 ms) => (waitStatus r0 r1 r2 r3 ms s).isNone
  | _ => false

/-- SCRIPT_PACKET: the next packet, unless one is still to complete. -/
def effScriptPacket (s : State) : State :=
  if !rKeepCmd s then s
  else match s.keep.script with
  | none => s
  | some r =>
    match r.pkts with
    | [] => s
    | l :: rest =>
      if r.holding || r.ended then s
      else if magicOk l && crcOk l && stillWaits l s then startWait s
      else runScriptPkt l (modKeep (fun k => { k with script := some { r with pkts := rest, run := r.run + 1 } }) s)

/-- SCRIPT_DONE: the packets run, the index and status of the first failure, and SCRIPT_ID. -/
def effScriptDone (s : State) : State :=
  if !rKeepCmd s then s
  else match s.keep.script with
  | none => s
  | some r =>
    if r.holding || (!r.ended && !r.pkts.isEmpty) then s
    else
      let f := r.first.getD (0xFFFFFFFF, stOk)
      report bKEEP 0x05 [w32 r.run, w32 f.1, w32 f.2, w32 r.scriptId]
        (modBoot (fun b => { b with script := if r.first.isSome then 3 else 2 }) (modKeep (fun k => { k with script := none }) s))

end Sys2Proof.Machine
end

