-- ==== Sys2Proof/Machine/Finish.lean ====
section
/-! DEFINITION. What every meaning shares: the answer of a row, and rows that reach no register while the device is
held in reset. -/

namespace Sys2Proof.Machine

/-- A row's answer: a next state, settled (R23, R24, R341, R378). -/
def done (s : State) : Host.Outcome State Fault Refusal := .next (finish s)

/-- An access to registers or rings while the device is held in reset reaches nothing (R363). -/
def awake (f : State → State) (s : State) : State := if s.boot.phase = .heldInReset then s else f s

end Sys2Proof.Machine
end

