-- ==== Sys2Proof/Machine/ExecBuf.lean ====
section
/-! DEFINITION. Meanings of the rows of the opcode table for buffers and banks: one definition per row, each the row's effect
followed by what every command ends with. -/

namespace Sys2Proof.Machine

/-- WD_DEMOTE (R264): A watchdog timer reaches WD_TIME and the class is demoted. -/
def execWdDemote (p q : Nat) (s : State) : Host.Outcome State Fault Refusal := done (effWdDemote p q s)

/-- CLASS_RESTORED (R266): A demoted class meets its restore conditions for WD_RESTORE. -/
def execClassRestored (c : Nat) (s : State) : Host.Outcome State Fault Refusal := done (effClassRestored c s)

/-- PORT_FLUSH (R268): A port entering DOWN has its queues flushed and ingress cells orphaned. -/
def execPortFlush (p : Nat) (s : State) : Host.Outcome State Fault Refusal := done (effPortFlush p s)

/-- FLUSH_DONE (R269): the flush of a port completes. -/
def execFlushDone (p : Nat) (s : State) : Host.Outcome State Fault Refusal := done (effFlushDone p s)

/-- BANK_DRAINED (R255): A draining bank frees its last cell and is isolated. -/
def execBankDrained (s : State) : Host.Outcome State Fault Refusal := done (effBankDrained s)

/-- BANK_DRAIN_ABORT (R255): A bank not drained within 100 ms returns to allocation. -/
def execBankDrainAbort (s : State) : Host.Outcome State Fault Refusal := done (effBankDrainAbort s)

/-- BANK_SCRUB (R256): A bank scrub falls due and runs or is skipped. -/
def execBankScrub (bank corrected : Nat) (s : State) : Host.Outcome State Fault Refusal :=
  done (effBankScrub bank corrected s)

/-- HEADER_CAPTURE (R270): A header capture record is written to the ring. -/
def execHeaderCapture (k : Nat) (s : State) : Host.Outcome State Fault Refusal := done (effHeaderCapture k s)

end Sys2Proof.Machine
end

