-- ==== Sys2Proof/Machine/ExecClocks.lean ====
section
/-! DEFINITION. Meanings of the rows of the opcode table for clock synthesis and Store: one definition per row, each the row's effect
followed by what every command ends with. -/

namespace Sys2Proof.Machine

/-- OSC_LOST (R160): the oscillator in service stops and the loops switch to the other oscillator. -/
def execOscLost (s : State) : Host.Outcome State Fault Refusal := done (effOscLost s)

/-- OSC_RETURN (R160): A lost oscillator active again for 10 s may return to service. -/
def execOscReturn (osc : Nat) (s : State) : Host.Outcome State Fault Refusal := done (effOscReturn osc s)

/-- TIME_PLL_UNLOCK (R162): the time PLL in service loses lock and clocks move to the other PLL. -/
def execTimePllUnlock (pll : Nat) (s : State) : Host.Outcome State Fault Refusal := done (effTimePllUnlock pll s)

/-- TIME_PLL_RELOCK_FAIL (R162): A failed time PLL does not re-lock within 10 ms. -/
def execTimePllRelockFail (s : State) : Host.Outcome State Fault Refusal := done (effTimePllRelockFail s)

/-- TIME_PLL_BOTH (R163): no time PLL is locked; TIMEPLL clears and outputs go low. -/
def execTimePllBoth (s : State) : Host.Outcome State Fault Refusal := done (effTimePllBoth s)

/-- CORE_PLL_UNLOCK (R166): the core PLL loses lock and the core moves to the harbour clock. -/
def execCorePllUnlock (s : State) : Host.Outcome State Fault Refusal := done (effCorePllUnlock s)

/-- CORE_RETURN (R167): the core returns to the core PLL after 100 ms of lock. -/
def execCoreReturn (s : State) : Host.Outcome State Fault Refusal := done (effCoreReturn s)

/-- STORE_PLL_UNLOCK (R168): the Store PLL loses lock and STORE becomes not ready. -/
def execStorePllUnlock (s : State) : Host.Outcome State Fault Refusal := done (effStorePllUnlock s)

/-- PCIE_PLL_UNLOCK (R168): the PCIe PLL loses lock and the PCIe link goes down. -/
def execPciePllUnlock (s : State) : Host.Outcome State Fault Refusal := done (effPciePllUnlock s)

/-- STORE_TRAINED (R21): the Store interface completes training and STORE sets; cached counters are written back. -/
def execStoreTrained (ok : Bool) (size : Nat) (s : State) : Host.Outcome State Fault Refusal :=
  done (effStoreTrained ok size s)

/-- STORE_RETRAIN (R24): periodic Store retraining runs, or fails and clears STORE. -/
def execStoreRetrain (ok : Bool) (s : State) : Host.Outcome State Fault Refusal := done (effStoreRetrain ok s)

/-- AUX_DPLL_LOST (R157): an auxiliary selector has no eligible candidate and holds frequency. -/
def execAuxDpllLost (k : Nat) (s : State) : Host.Outcome State Fault Refusal := done (effAuxDpllLost k s)

end Sys2Proof.Machine
end

