-- ==== Sys2Proof/Machine/ExecCommands.lean ====
section
/-! DEFINITION. Meanings of the rows of the opcode table for the Efram commands of Table EF-9: one definition per row, each the row's effect
followed by what every command ends with. -/

namespace Sys2Proof.Machine

/-- IDENT (R2): returns DEV_IDENT, serial number, firmware version, pair state and EPOCH. -/
def execIdent (h : CmdHdr) (s : State) : Host.Outcome State Fault Refusal := done (effIdent h s)

/-- NOP (R333): does nothing and returns OK. -/
def execNop (h : CmdHdr) (s : State) : Host.Outcome State Fault Refusal := done (effNop h s)

/-- PARAM_GET (R337): returns the values of up to 64 parameters, or their staged values when SHADOW is set. -/
def execParamGet (h : CmdHdr) (shadow : Bool) (ids : List Nat) (s : State) : Host.Outcome State Fault Refusal :=
  done (effParamGet h shadow ids s)

/-- PARAM_SET (R338): writes up to 64 LIVE or HALTED parameters in list order after checking all of them. -/
def execParamSet (h : CmdHdr) (es : List ParamEntry) (s : State) : Host.Outcome State Fault Refusal :=
  done (effParamSet h es s)

/-- PARAM_STAGE (R338): writes STAGED parameters into their block's staged set. -/
def execParamStage (h : CmdHdr) (es : List ParamEntry) (s : State) : Host.Outcome State Fault Refusal :=
  done (effParamStage h es s)

/-- COMMIT (R339): applies the staged sets of the named blocks at once, at a rolling time or at a shaft angle, on comparator C60. -/
def execCommit (h : CmdHdr) (a : CommitArgs) (s : State) : Host.Outcome State Fault Refusal := done (effCommit h a s)

/-- COMMIT_CANCEL (R340): cancels the pending COMMIT and optionally discards staged sets. -/
def execCommitCancel (h : CmdHdr) (discard : Bool) (mask : Nat) (s : State) : Host.Outcome State Fault Refusal :=
  done (effCommitCancel h discard mask s)

/-- BLOCK_STOP (R341): stops a block, which enters OFF and clears its ready bit while keeping its parameters. -/
def execBlockStop (h : CmdHdr) (b : Nat) (s : State) : Host.Outcome State Fault Refusal := done (effBlockStop h b s)

/-- BLOCK_START (R341): checks and applies a block's staged set, then starts the block through INIT and READY to RUN. -/
def execBlockStart (h : CmdHdr) (b : Nat) (s : State) : Host.Outcome State Fault Refusal := done (effBlockStart h b s)

/-- BLOCK_RESET (R341): discards the staged set, returns parameters to reset values and restarts a running block. -/
def execBlockReset (h : CmdHdr) (b : Nat) (s : State) : Host.Outcome State Fault Refusal := done (effBlockReset h b s)

/-- POWER_BUDGET (R392): returns governor headroom, use and the queue of grants and requests. -/
def execPowerBudget (h : CmdHdr) (s : State) : Host.Outcome State Fault Refusal := done (effPowerBudget h s)

/-- REG_READ (R349): reads up to 64 BAR0 offsets through the Keeper's latch. -/
def execRegRead (h : CmdHdr) (offs : List Nat) (s : State) : Host.Outcome State Fault Refusal :=
  done (effRegRead h offs s)

/-- REG_WRITE (R348): writes up to 64 offset and value pairs as PCIe writes. -/
def execRegWrite (h : CmdHdr) (ps : List (Nat × Word)) (s : State) : Host.Outcome State Fault Refusal :=
  done (effRegWrite h ps s)

/-- EVENT_SUBSCRIBE (R332): registers, renews or cancels a remote subscription to block events. -/
def execEventSubscribe (h : CmdHdr) (a : SubArgs) (s : State) : Host.Outcome State Fault Refusal :=
  done (effEventSubscribe h a s)

/-- KEY_SET (R329): writes a key slot with a key and permission and sets its replay floor to 0. -/
def execKeySet (h : CmdHdr) (keyId perm key : Nat) (s : State) : Host.Outcome State Fault Refusal :=
  done (effKeySet h keyId perm key s)

/-- SCRIPT_WAIT (R345): holds the startup script until the masked ready bits are set or a timeout passes. -/
def execScriptWait (h : CmdHdr) (r0 r1 r2 r3 timeout : Nat) (s : State) : Host.Outcome State Fault Refusal :=
  done (effScriptWait h r0 r1 r2 r3 timeout s)

/-- BOOT_STATUS (R369): returns BOOT_STATUS, BOOT_FLASH, BOOT_TIMES and BOOT_SCRIPT_ID. -/
def execBootStatus (h : CmdHdr) (s : State) : Host.Outcome State Fault Refusal := done (effBootStatus h s)

/-- IMAGE_WRITE (R367): writes part of a firmware image to the slot that is not running. -/
def execImageWrite (h : CmdHdr) (slot offset : Nat) (data : List Byte) (s : State) : Host.Outcome State Fault Refusal :=
  done (effImageWrite h slot offset data s)

/-- IMAGE_SELECT (R367): checks a slot and names it the preferred slot for later starts. -/
def execImageSelect (h : CmdHdr) (slot : Nat) (s : State) : Host.Outcome State Fault Refusal :=
  done (effImageSelect h slot s)

/-- SCRIPT_WRITE (R342): writes part of the startup script to flash. -/
def execScriptWrite (h : CmdHdr) (offset : Nat) (data : List Byte) (s : State) : Host.Outcome State Fault Refusal :=
  done (effScriptWrite h offset data s)

/-- RESTART (R363): sends its reply, then resets every domain except VDD_AON. -/
def execRestart (h : CmdHdr) (s : State) : Host.Outcome State Fault Refusal := done (effRestart h s)

/-- LANE_ADAPT (R450): restarts initial adaptation of a lane, or applies fixed equaliser settings. -/
def execLaneAdapt (h : CmdHdr) (q n : Nat) (s : State) : Host.Outcome State Fault Refusal := done (effLaneAdapt h q n s)

/-- LANE_READ (R36): returns lane status, latency terms and FOM. -/
def execLaneRead (h : CmdHdr) (q n : Nat) (s : State) : Host.Outcome State Fault Refusal := done (effLaneRead h q n s)

/-- PTP_PORT_READ (R98): returns the 1588 port data set of an edge port. -/
def execPtpPortRead (h : CmdHdr) (p : Nat) (s : State) : Host.Outcome State Fault Refusal := done (effPtpPortRead h p s)

/-- TUNNEL_SEND (R328): sends an enveloped packet over a trunk source route and opens a handle. -/
def execTunnelSend (h : CmdHdr) (env : Envelope) (pkt : List Byte) (s : State) : Host.Outcome State Fault Refusal :=
  done (effTunnelSend h env pkt s)

/-- TUNNEL_READ (R328): returns packets held on a tunnel handle and optionally frees it. -/
def execTunnelRead (h : CmdHdr) (handle : Nat) (close : Bool) (s : State) : Host.Outcome State Fault Refusal :=
  done (effTunnelRead h handle close s)

/-- TABLE_WRITE (R237): writes single lookup table entries atomically. -/
def execTableWrite (h : CmdHdr) (table : Nat) (entries : List (List Nat)) (s : State) : Host.Outcome State Fault Refusal :=
  done (effTableWrite h table entries s)

/-- TABLE_READ (R237): reads lookup table entries. -/
def execTableRead (h : CmdHdr) (table : Nat) (key : List Nat) (count : Nat) (s : State) : Host.Outcome State Fault Refusal :=
  done (effTableRead h table key count s)

/-- TABLE_LOAD (R237): writes a block of table entries as a bulk load under a governor grant. -/
def execTableLoad (h : CmdHdr) (table first : Nat) (entries : List (List Nat)) (s : State) : Host.Outcome State Fault Refusal :=
  done (effTableLoad h table first entries s)

/-- CHANNEL_ADD (R240): creates a channel descriptor, initialises its state and caches it. -/
def execChannelAdd (h : CmdHdr) (ch : Nat) (desc : List Word) (s : State) : Host.Outcome State Fault Refusal :=
  done (effChannelAdd h ch desc s)

/-- CHANNEL_MODIFY (R240): replaces a channel's configuration at once or stages it in LKP. -/
def execChannelModify (h : CmdHdr) (ch : Nat) (stage : Bool) (resetMask : Nat) (desc : List Word) (s : State) : Host.Outcome State Fault Refusal :=
  done (effChannelModify h ch stage resetMask desc s)

/-- CHANNEL_REMOVE (R240): clears VALID, writes counters back and frees the cache entry. -/
def execChannelRemove (h : CmdHdr) (ch : Nat) (s : State) : Host.Outcome State Fault Refusal :=
  done (effChannelRemove h ch s)

/-- CHANNEL_PIN (R240): sets or clears PIN_REQ of a channel. -/
def execChannelPin (h : CmdHdr) (ch : Nat) (pinReq : Bool) (s : State) : Host.Outcome State Fault Refusal :=
  done (effChannelPin h ch pinReq s)

/-- CHANNEL_READ (R240): returns a channel descriptor from the cache or from Store. -/
def execChannelRead (h : CmdHdr) (ch : Nat) (s : State) : Host.Outcome State Fault Refusal :=
  done (effChannelRead h ch s)

/-- CROSSING_BOOK (R248): creates a reserved crossing booking from a trunk to an express gate entry. -/
def execCrossingBook (h : CmdHdr) (ch inPort outPort entry maxlen : Nat) (s : State) : Host.Outcome State Fault Refusal :=
  done (effCrossingBook h ch inPort outPort entry maxlen s)

/-- CROSSING_RELEASE (R248): removes a booking. -/
def execCrossingRelease (h : CmdHdr) (booking : Nat) (s : State) : Host.Outcome State Fault Refusal :=
  done (effCrossingRelease h booking s)

/-- FLUSH_READ (R268): returns per-channel flush counts. -/
def execFlushRead (h : CmdHdr) (first count : Nat) (s : State) : Host.Outcome State Fault Refusal :=
  done (effFlushRead h first count s)

/-- GCL_LOAD (R276): loads all or part of a port's gate control list into SCHED's staged set. -/
def execGclLoad (h : CmdHdr) (a : GclArgs) (s : State) : Host.Outcome State Fault Refusal := done (effGclLoad h a s)

/-- SLOT_WRITE (R288): loads a frame into a resident slot atomically against launches. -/
def execSlotWrite (h : CmdHdr) (slot : Nat) (data : List Byte) (s : State) : Host.Outcome State Fault Refusal :=
  done (effSlotWrite h slot data s)

/-- SLOT_CONFIG (R288): sets a resident slot's mode, port, class and launch times. -/
def execSlotConfig (h : CmdHdr) (a : SlotArgs) (s : State) : Host.Outcome State Fault Refusal :=
  done (effSlotConfig h a s)

/-- SLOT_READ (R288): returns a slot's fields, LAST_LAUNCH and status. -/
def execSlotRead (h : CmdHdr) (slot : Nat) (s : State) : Host.Outcome State Fault Refusal := done (effSlotRead h slot s)

/-- POLICER_SET (R297): writes a port-class policer and fills its buckets. -/
def execPolicerSet (h : CmdHdr) (pol cir pir cbs pbs : Nat) (aware : Bool) (s : State) : Host.Outcome State Fault Refusal :=
  done (effPolicerSet h pol cir pir cbs pbs aware s)

/-- POLICER_READ (R297): returns a port-class policer's fields, buckets and counters. -/
def execPolicerRead (h : CmdHdr) (pol : Nat) (s : State) : Host.Outcome State Fault Refusal :=
  done (effPolicerRead h pol s)

/-- TIME_SET (R123): loads a Guhild time into the counter, clears PROTECT and enters FREE. -/
def execTimeSet (h : CmdHdr) (sec ns frac : Nat) (s : State) : Host.Outcome State Fault Refusal :=
  done (effTimeSet h sec ns frac s)

/-- TIME_ADJUST (R124): adds a duration to the counter at once or arms it for a rolling time on C61. -/
def execTimeAdjust (h : CmdHdr) (when_ : Nat) (d : Int) (target : Nat) (s : State) : Host.Outcome State Fault Refusal :=
  done (effTimeAdjust h when_ d target s)

/-- TIME_ACCEPT_JUMP (R125): takes the refused difference as a step and enters ACQUIRING. -/
def execTimeAcceptJump (h : CmdHdr) (s : State) : Host.Outcome State Fault Refusal := done (effTimeAcceptJump h s)

/-- ASYM_SET (R115): writes a trunk's asymmetry parameters or an edge port's PTP_ASYM. -/
def execAsymSet (h : CmdHdr) (p : Nat) (vals : List Word64) (s : State) : Host.Outcome State Fault Refusal :=
  done (effAsymSet h p vals s)

/-- TIME_READ (R353): returns a Guhild time, the rolling time of the same tick and the Guhild state. -/
def execTimeRead (h : CmdHdr) (s : State) : Host.Outcome State Fault Refusal := done (effTimeRead h s)

/-- REF_CONFIG (R158): writes the parameters of one reference candidate. -/
def execRefConfig (h : CmdHdr) (cand mask : Nat) (vals : List Word64) (s : State) : Host.Outcome State Fault Refusal :=
  done (effRefConfig h cand mask vals s)

/-- REF_FORCE (R147): forces a selector onto an eligible candidate, or ends a force. -/
def execRefForce (h : CmdHdr) (sel cand : Nat) (s : State) : Host.Outcome State Fault Refusal :=
  done (effRefForce h sel cand s)

/-- OUT_CONFIG (R171): writes the parameters of one clock or pulse output. -/
def execOutConfig (h : CmdHdr) (out mask : Nat) (vals : List Word64) (s : State) : Host.Outcome State Fault Refusal :=
  done (effOutConfig h out mask vals s)

/-- OUT_PHASE_STEP (R173): adds a phase step to an output's pending count or next edge. -/
def execOutPhaseStep (h : CmdHdr) (out : Nat) (d : Int) (s : State) : Host.Outcome State Fault Refusal :=
  done (effOutPhaseStep h out d s)

/-- TIC_ARM (R188): opens or ends a TIC measurement on pin channels. -/
def execTicArm (h : CmdHdr) (a : TicArgs) (s : State) : Host.Outcome State Fault Refusal := done (effTicArm h a s)

/-- TIC_READ (R194): returns up to 256 records from a channel FIFO. -/
def execTicRead (h : CmdHdr) (ch count : Nat) (s : State) : Host.Outcome State Fault Refusal :=
  done (effTicRead h ch count s)

/-- SHAFT_DEFINE (R207): writes a shaft's parameters. -/
def execShaftDefine (h : CmdHdr) (sh mask : Nat) (vals : List Word64) (s : State) : Host.Outcome State Fault Refusal :=
  done (effShaftDefine h sh mask vals s)

/-- SEGMENT_PUSH (R203): queues a segment on a profiled shaft with the unit's own claim. -/
def execSegmentPush (h : CmdHdr) (sh : Nat) (rec : BitVec 288) (s : State) : Host.Outcome State Fault Refusal :=
  done (effSegmentPush h sh rec s)

/-- GEAR_SET (R211): sets or schedules the gearing of a derived shaft. -/
def execGearSet (h : CmdHdr) (a : GearArgs) (s : State) : Host.Outcome State Fault Refusal := done (effGearSet h a s)

/-- SECTOR_ADD (R222): allocates a sector event slot and returns its number. -/
def execSectorAdd (h : CmdHdr) (a : SectorArgs) (s : State) : Host.Outcome State Fault Refusal :=
  done (effSectorAdd h a s)

/-- SECTOR_REMOVE (R452): frees a sector event slot. -/
def execSectorRemove (h : CmdHdr) (slot : Nat) (s : State) : Host.Outcome State Fault Refusal :=
  done (effSectorRemove h slot s)

/-- SECTOR_READ (R225): returns up to 64 capture records. -/
def execSectorRead (h : CmdHdr) (count : Nat) (s : State) : Host.Outcome State Fault Refusal :=
  done (effSectorRead h count s)

/-- ROLE_SET (R315): writes PAIR_MODE, PAIR_ID, PRIO and PAIR_TRUNK while PAIR is stopped. -/
def execRoleSet (h : CmdHdr) (mode pairId prio trunk : Nat) (s : State) : Host.Outcome State Fault Refusal :=
  done (effRoleSet h mode pairId prio trunk s)

/-- SWITCHOVER (R311): starts a commanded handover of the active role to the partner. -/
def execSwitchover (h : CmdHdr) (force : Bool) (s : State) : Host.Outcome State Fault Refusal :=
  done (effSwitchover h force s)

/-- FAULT_READ (R380): returns a block's fault registers and reactions, or the mask of latched blocks. -/
def execFaultRead (h : CmdHdr) (b : Nat) (s : State) : Host.Outcome State Fault Refusal := done (effFaultRead h b s)

/-- FAULT_CLEAR (R384): applies W1C masks to a block's FLT_STATUS, INT_STATUS and FLT_OVF. -/
def execFaultClear (h : CmdHdr) (b flt int : Nat) (ovf : Bool) (s : State) : Host.Outcome State Fault Refusal :=
  done (effFaultClear h b flt int ovf s)

/-- FAULT_REACT_SET (R380): sets the reaction of one fault source. -/
def execFaultReactSet (h : CmdHdr) (b idx react : Nat) (s : State) : Host.Outcome State Fault Refusal :=
  done (effFaultReactSet h b idx react s)

/-- ALIVE_RESUME (R385): restarts ISOPHASE and clears FATAL once every stop cause is cleared. -/
def execAliveResume (h : CmdHdr) (s : State) : Host.Outcome State Fault Refusal := done (effAliveResume h s)

/-- FAULT_INJECT (R387): raises a fault source as if its condition had begun, in test mode. -/
def execFaultInject (h : CmdHdr) (b idx : Nat) (s : State) : Host.Outcome State Fault Refusal :=
  done (effFaultInject h b idx s)

/-- BIST_RUN (R396): runs the self-test of an isolated unit as a series of slices. -/
def execBistRun (h : CmdHdr) (b unit : Nat) (s : State) : Host.Outcome State Fault Refusal :=
  done (effBistRun h b unit s)

/-- SPARE_SWAP (R393): starts the swap of a named unit with its spare. -/
def execSpareSwap (h : CmdHdr) (b unit : Nat) (s : State) : Host.Outcome State Fault Refusal :=
  done (effSpareSwap h b unit s)

/-- SERVICE_RECORD_READ (R406): returns bytes of a service record region. -/
def execServiceRecordRead (h : CmdHdr) (region start count : Nat) (s : State) : Host.Outcome State Fault Refusal :=
  done (effServiceRecordRead h region start count s)

/-- TEST_UNLOCK (R387): permits FAULT_INJECT when the TEST_MODE strap is set. -/
def execTestUnlock (h : CmdHdr) (s : State) : Host.Outcome State Fault Refusal := done (effTestUnlock h s)

/-- COUNTER_CONFIG (R411): writes a counter's filter and selection in one core cycle. -/
def execCounterConfig (h : CmdHdr) (b ctr : Nat) (filt : Word64) (sel : Word) (s : State) : Host.Outcome State Fault Refusal :=
  done (effCounterConfig h b ctr filt sel s)

/-- COUNTER_READ (R411): returns up to 16 counter values with their CYCLE values. -/
def execCounterRead (h : CmdHdr) (pairs : List (Nat × Nat)) (s : State) : Host.Outcome State Fault Refusal :=
  done (effCounterRead h pairs s)

/-- TRACE_CONFIG (R416): writes TRACE parameters by class. -/
def execTraceConfig (h : CmdHdr) (mask : Nat) (vals : List Word64) (s : State) : Host.Outcome State Fault Refusal :=
  done (effTraceConfig h mask vals s)

/-- TRACE_READ (R415): returns up to 32 trace records and advances TRACE_RD. -/
def execTraceRead (h : CmdHdr) (count : Nat) (s : State) : Host.Outcome State Fault Refusal :=
  done (effTraceRead h count s)

/-- CAPTURE_READ (R272): returns up to 64 header capture records and advances CAP_RD. -/
def execCaptureRead (h : CmdHdr) (count : Nat) (s : State) : Host.Outcome State Fault Refusal :=
  done (effCaptureRead h count s)

end Sys2Proof.Machine
end

