-- ==== Sys2Proof/Machine/ExecEdge.lean ====
section
/-! DEFINITION. Meanings of the rows of the opcode table for edge ports: one definition per row, each the row's effect
followed by what every command ends with. -/

namespace Sys2Proof.Machine

/-- EDGE_LOCKED (R85): word lock, adaptation and auto-negotiation move an edge port to HOLDOFF. -/
def execEdgeLocked (p abilities : Nat) (s : State) : Host.Outcome State Fault Refusal :=
  done (effEdgeLocked p abilities s)

/-- EDGE_HOLDOFF_EXPIRED (R85): HOLDOFF elapses with word lock and flush complete; the edge port enters UP. -/
def execEdgeHoldoffExpired (p : Nat) (s : State) : Host.Outcome State Fault Refusal := done (effEdgeHoldoffExpired p s)

/-- EDGE_LINK_DOWN_FILTER (R86): A link fault persists for LINK_DOWN_FILTER and the edge port goes DOWN. -/
def execEdgeLinkDownFilter (p : Nat) (s : State) : Host.Outcome State Fault Refusal := done (effEdgeLinkDownFilter p s)

/-- AN_FAIL (R86): no auto-negotiation result 500 ms after entering LOCKING. -/
def execAnFail (p : Nat) (s : State) : Host.Outcome State Fault Refusal := done (effAnFail p s)

/-- PFC_FRAME_RECEIVED (R91): A received PAUSE or PFC frame pauses or releases classes. -/
def execPfcFrameReceived (p : Nat) (pfc : Bool) (enable : Nat) (quanta : List Nat) (s : State) : Host.Outcome State Fault Refusal :=
  done (effPfcFrameReceived p pfc enable quanta s)

/-- PAUSE_EXPIRED (R91): A paused class's received quanta run out. -/
def execPauseExpired (p c : Nat) (s : State) : Host.Outcome State Fault Refusal := done (effPauseExpired p c s)

/-- PFC_SEND (R92): the port sends a PFC or PAUSE frame at the next frame boundary. -/
def execPfcSend (p : Nat) (s : State) : Host.Outcome State Fault Refusal := done (effPfcSend p s)

/-- PFC_REFRESH (R92): the pause frame is repeated every PFC_REFRESH quanta. -/
def execPfcRefresh (p : Nat) (s : State) : Host.Outcome State Fault Refusal := done (effPfcRefresh p s)

/-- PFC_STORM (R96): A class stays paused for PFC_STORM_TIME. -/
def execPfcStorm (p c : Nat) (s : State) : Host.Outcome State Fault Refusal := done (effPfcStorm p c s)

/-- PTP_MESSAGE_RECEIVED (R98): A PTP frame is consumed by the engine or corrected as a transparent clock. -/
def execPtpMessageReceived (p : Nat) (m : PtpMsg) (s : State) : Host.Outcome State Fault Refusal :=
  done (effPtpMessageReceived p m s)

/-- PTP_EGRESS_STAMP (R102): A two-step egress stamp is delivered to the engine or lost. -/
def execPtpEgressStamp (p seqId stamp : Nat) (s : State) : Host.Outcome State Fault Refusal :=
  done (effPtpEgressStamp p seqId stamp s)

/-- PTP_SYNC_SEND (R133): the engine sends a Sync, Announce or delay message at its interval. -/
def execPtpSyncSend (p kind : Nat) (s : State) : Host.Outcome State Fault Refusal := done (effPtpSyncSend p kind s)

/-- ESMC_PDU_SEND (R103): an ESMC information PDU is sent once per second. -/
def execEsmcPduSend (p : Nat) (s : State) : Host.Outcome State Fault Refusal := done (effEsmcPduSend p s)

/-- ESMC_EVENT_PDU (R103): an event PDU is sent after a change of the quality level. -/
def execEsmcEventPdu (p : Nat) (s : State) : Host.Outcome State Fault Refusal := done (effEsmcEventPdu p s)

/-- ESMC_PDU_RECEIVED (R104): A received QL is accepted after two consecutive PDUs. -/
def execEsmcPduReceived (p ssm : Nat) (s : State) : Host.Outcome State Fault Refusal :=
  done (effEsmcPduReceived p ssm s)

/-- ESMC_TIMEOUT (R104): no valid PDU for 5 s sets QL-FAILED. -/
def execEsmcTimeout (p : Nat) (s : State) : Host.Outcome State Fault Refusal := done (effEsmcTimeout p s)

end Sys2Proof.Machine
end

