-- ==== Sys2Proof/Machine/ExecFaults.lean ====
section
/-! DEFINITION. Meanings of the rows of the opcode table for faults and the alive signal: one definition per row, each the row's effect
followed by what every command ends with. -/

namespace Sys2Proof.Machine

/-- CHIP_RESET (R377): 20 µs after a CHIP_RESET fault every domain except VDD_AON resets. -/
def execChipReset (s : State) : Host.Outcome State Fault Refusal := done (effChipReset s)

/-- ISOPHASE_TOGGLE (R381): the ISOPHASE level changes every PERIOD. -/
def execIsophaseToggle (s : State) : Host.Outcome State Fault Refusal := done (effIsophaseToggle s)

/-- KEEPER_WATCHDOG_EXPIRY (R383): the Keeper watchdog expires, stops ISOPHASE and resets the chip. -/
def execKeeperWatchdogExpiry (s : State) : Host.Outcome State Fault Refusal := done (effKeeperWatchdogExpiry s)

/-- LOCKSTEP_MISMATCH (R388): the Keeper controllers disagree and the spare pair takes over. -/
def execLockstepMismatch (s : State) : Host.Outcome State Fault Refusal := done (effLockstepMismatch s)

end Sys2Proof.Machine
end

