-- ==== Sys2Proof/Machine/ExecFrames.lean ====
section
/-! DEFINITION. Meanings of the rows of the opcode table for the frame path: one definition per row, each the row's effect
followed by what every command ends with. -/

namespace Sys2Proof.Machine

/-- FRAME_HEAD_INTAKE (R228): A frame head enters the pipeline for parse, lookup, resolution, policing and enqueue. -/
def execFrameHeadIntake (p : Nat) (f : FrameHead) (s : State) : Host.Outcome State Fault Refusal :=
  done (effFrameHeadIntake p f s)

/-- DESCRIPTOR_FETCHED (R242): A missed descriptor arrives from Store and waiting frames continue. -/
def execDescriptorFetched (ch : Nat) (s : State) : Host.Outcome State Fault Refusal := done (effDescriptorFetched ch s)

/-- ADMISSION_WAIT_TIMEOUT (R258): A lossless frame finds no cell within 2 µs and is dropped. -/
def execAdmissionWaitTimeout (k : Nat) (s : State) : Host.Outcome State Fault Refusal :=
  done (effAdmissionWaitTimeout k s)

/-- ADMISSION_CELL_FREE (R258): A waiting lossless frame is admitted when a cell of its account frees. -/
def execAdmissionCellFree (k : Nat) (s : State) : Host.Outcome State Fault Refusal := done (effAdmissionCellFree k s)

/-- FRAME_END_RECEIVED (R246): A frame's last byte arrives and its FCS is checked, or it is ended bad. -/
def execFrameEndReceived (p : Nat) (bytes : List Byte) (how : FrameEnd) (s : State) : Host.Outcome State Fault Refusal :=
  done (effFrameEndReceived p bytes how s)

/-- RESERVED_CROSSING (R249): A START with EXPRESS = 1 in its booked slot takes the reserved crossing. -/
def execReservedCrossing (p : Nat) (f : FrameHead) (s : State) : Host.Outcome State Fault Refusal :=
  done (effReservedCrossing p f s)

/-- EGRESS_SELECT (R275): the free transmitter starts the first frame the order of service admits. -/
def execEgressSelect (p : Nat) (s : State) : Host.Outcome State Fault Refusal := done (effEgressSelect p s)

/-- FRAME_TRANSMIT_END (R259): A copy finishes leaving and its cells are freed. -/
def execFrameTransmitEnd (p stamp : Nat) (s : State) : Host.Outcome State Fault Refusal :=
  done (effFrameTransmitEnd p stamp s)

/-- RECOVERY_RESET (R76): an 802.1CB reset timer expires and TAKE_ANY is set. -/
def execRecoveryReset (ch : Nat) (s : State) : Host.Outcome State Fault Refusal := done (effRecoveryReset ch s)

/-- FDB_AGE (R233): A learned entry not refreshed for AGE_TIME is removed. -/
def execFdbAge (fid mac : Nat) (s : State) : Host.Outcome State Fault Refusal := done (effFdbAge fid mac s)

/-- POLICER_SWEEP (R296): the background sweep refills buckets idle for more than 1 s. -/
def execPolicerSweep (s : State) : Host.Outcome State Fault Refusal := done (effPolicerSweep s)

end Sys2Proof.Machine
end

