-- ==== Sys2Proof/Machine/ExecHealth.lean ====
section
/-! DEFINITION. Meanings of the rows of the opcode table for the governor, self-tests, wear and records: one definition per row, each the row's effect
followed by what every command ends with. -/

namespace Sys2Proof.Machine

/-- GOVERNOR_GRANT (R390): the head request fits and is granted, starting its operation. -/
def execGovernorGrant (s : State) : Host.Outcome State Fault Refusal := done (effGrant s)

/-- GOVERNOR_RELEASE (R390): A granted operation's ramp-out ends on a supply. -/
def execGovernorRelease (id : Nat) (s : State) : Host.Outcome State Fault Refusal := done (effGovernorRelease id s)

/-- GRANT_STARVED (R391): A request waits longer than GRANT_TIMEOUT. -/
def execGrantStarved (s : State) : Host.Outcome State Fault Refusal := done (effGrantStarved s)

/-- ADAPT_REQUEST_RETRY (R391): A lane's held adaptation request is submitted again every 100 µs. -/
def execAdaptRequestRetry (l : Nat) (s : State) : Host.Outcome State Fault Refusal := done (effAdaptRequestRetry l s)

/-- BIST_SLICE (R396): A self-test slice runs under its grant. -/
def execBistSlice (b : Nat) (pass : Bool) (r : SliceResult) (s : State) : Host.Outcome State Fault Refusal :=
  done (effBistSlice b pass r s)

/-- BIST_DONE (R397): A test ends and the unit returns to the spare set or is retired. -/
def execBistDone (b : Nat) (s : State) : Host.Outcome State Fault Refusal := done (effBistDone b s)

/-- ROTATION_STEP (R399): every ROT_INTERVAL a unit is isolated and tested, or skipped. -/
def execRotationStep (s : State) : Host.Outcome State Fault Refusal := done (effRotationStep s)

/-- WEAR_MEASUREMENT (R400): an hourly ageing measurement updates AGE_WORST. -/
def execWearMeasurement (site ppm : Nat) (s : State) : Host.Outcome State Fault Refusal :=
  done (effWearMeasurement site ppm s)

/-- TJ_SAMPLE (R401): tj is sampled every minute into the life histogram. -/
def execTjSample (temp : Int) (s : State) : Host.Outcome State Fault Refusal := done (effTjSample temp s)

/-- FOM_DAILY_FIT (R402): A daily FOM mean updates FOM_DAYS per lane. -/
def execFomDailyFit (l slice mean low : Nat) (s : State) : Host.Outcome State Fault Refusal :=
  done (effFomDailyFit l slice mean low s)

/-- SUMMARY_WRITE (R404): the service record summary is written every 4 h or on a change. -/
def execSummaryWrite (ok : Bool) (s : State) : Host.Outcome State Fault Refusal := done (effSummaryWrite ok s)

/-- LOG_APPEND (R404): A service record log entry is appended to flash. -/
def execLogAppend (ok : Bool) (s : State) : Host.Outcome State Fault Refusal := done (effLogAppend ok s)

/-- TRACE_RECORD (R414): A traced copy's record is written when it leaves or is dropped. -/
def execTraceRecord (k : Nat) (s : State) : Host.Outcome State Fault Refusal := done (effTraceRecord k s)

end Sys2Proof.Machine
end

