-- ==== Sys2Proof/Machine/ExecKeeper.lean ====
section
/-! DEFINITION. Meanings of the rows of the opcode table for the Keeper and its transports: one definition per row, each the row's effect
followed by what every command ends with. -/

namespace Sys2Proof.Machine

/-- COMMAND_EXECUTION_START (R334): the Keeper takes the next waiting command by class, transport and arrival order. -/
def execCommandExecutionStart (s : State) : Host.Outcome State Fault Refusal := done (effCommandExecutionStart s)

/-- BULK_STEP_DONE (R334): A bulk command ends a step of at most 50 µs and lets urgent and immediate commands run. -/
def execBulkStepDone (last : Bool) (s : State) : Host.Outcome State Fault Refusal := done (effBulkStepDone last s)

/-- COMMAND_PROGRESS (R335): A running bulk command reports progress at least every 100 ms. -/
def execCommandProgress (percent : Nat) (s : State) : Host.Outcome State Fault Refusal :=
  done (effCommandProgress percent s)

/-- CMD_DOORBELL (R323): software writes a new command ring tail. -/
def execCmdDoorbell (idx : Nat) (s : State) : Host.Outcome State Fault Refusal := done (awake (effCmdDoorbell idx) s)

/-- DESCRIPTOR_FETCH (R323): the device fetches the next command descriptor and its packet once ring and completion room allow. -/
def execDescriptorFetch (desc pkt : List Byte) (s : State) : Host.Outcome State Fault Refusal :=
  done (effDescriptorFetch desc pkt s)

/-- CPL_HEAD (R324): software releases completion ring entries. -/
def execCplHead (idx : Nat) (s : State) : Host.Outcome State Fault Refusal := done (awake (effCplHead idx) s)

/-- EVT_HEAD (R325): software releases event ring entries. -/
def execEvtHead (idx : Nat) (s : State) : Host.Outcome State Fault Refusal := done (awake (effEvtHead idx) s)

/-- RING_ENABLE (R359): writing EN = 1 sets every ring index to 0 and starts ring service. -/
def execRingEnable (v : Word) (s : State) : Host.Outcome State Fault Refusal := done (awake (effRingEnable v) s)

/-- RING_DISABLE (R359): writing EN = 0 stops descriptor fetch and lets fetched commands finish. -/
def execRingDisable (v : Word) (s : State) : Host.Outcome State Fault Refusal := done (awake (effRingDisable v) s)

/-- WRITE_PKT (R326): an SPI transaction delivers one command packet. -/
def execWritePkt (pkt : List Byte) (s : State) : Host.Outcome State Fault Refusal := done (effWritePkt pkt s)

/-- READ_PKT (R326): an SPI transaction reads the next pending reply or event. -/
def execReadPkt (whole : Bool) (s : State) : Host.Outcome State Fault Refusal := done (effReadPkt whole s)

/-- SPI_STATUS (R326): an SPI transaction reads the status byte and clears ERR. -/
def execSpiStatus (s : State) : Host.Outcome State Fault Refusal := done (effSpiStatus s)

/-- INBAND_COMMAND_FRAME (R327): an EtherType 0x88B5 frame to MGMT_MAC carries an Efram command. -/
def execInbandCommandFrame (p dstMac srcMac vlan : Nat) (payload : List Byte) (s : State) : Host.Outcome State Fault Refusal :=
  done (effInbandCommandFrame p dstMac srcMac vlan payload s)

/-- TUNNEL_PACKET_RECEIVED (R77): A reassembled tunnelled packet is forwarded, delivered or returned. -/
def execTunnelPacketReceived (p : Nat) (env : Envelope) (pkt : List Byte) (s : State) : Host.Outcome State Fault Refusal :=
  done (effTunnelPacketReceived p env pkt s)

/-- TUNNEL_TIMEOUT (R328): no packet returned within TUNNEL_TIMEOUT and no reply is reported. -/
def execTunnelTimeout (handle : Nat) (s : State) : Host.Outcome State Fault Refusal := done (effTunnelTimeout handle s)

/-- TUNNEL_HANDLE_EXPIRY (R328): A handle not read for 1 s after its last TUNNEL_DONE is freed. -/
def execTunnelHandleExpiry (handle : Nat) (s : State) : Host.Outcome State Fault Refusal :=
  done (effTunnelHandleExpiry handle s)

/-- SUB_LEASE_EXPIRY (R332): A subscription lapses SUB_LEASE after its last renewal. -/
def execSubLeaseExpiry (idx : Nat) (s : State) : Host.Outcome State Fault Refusal := done (effSubLeaseExpiry idx s)

/-- REMOTE_RATE_SECOND (R327): A new second restarts the count of in-band and tunnelled commands taken. -/
def execRemoteRateSecond (s : State) : Host.Outcome State Fault Refusal := done (effRemoteRateSecond s)

end Sys2Proof.Machine
end

