-- ==== Sys2Proof/Machine/ExecLanes.lean ====
section
/-! DEFINITION. Meanings of the rows of the opcode table for quads and lanes: one definition per row, each the row's effect
followed by what every command ends with. -/

namespace Sys2Proof.Machine

/-- QUAD_PLL_UNLOCK (R28): A quad's serving PLL loses lock and the quad fails over to the standby PLL. -/
def execQuadPllUnlock (q pll : Nat) (s : State) : Host.Outcome State Fault Refusal := done (effQuadPllUnlock q pll s)

/-- FAILOVER_DONE (R28): all lanes of the quad have re-locked and republished their latencies. -/
def execFailoverDone (q : Nat) (meas : List (LatMeas × LatMeas)) (s : State) : Host.Outcome State Fault Refusal :=
  done (effFailoverDone q meas s)

/-- FAILOVER_FILTER_END (R28): the 10 µs suspension of the link-down filter ends. -/
def execFailoverFilterEnd (q : Nat) (s : State) : Host.Outcome State Fault Refusal := done (effFailoverFilterEnd q s)

/-- PLL_RELOCK_FAIL (R29): A failed quad PLL does not re-lock within 10 ms. -/
def execPllRelockFail (q : Nat) (s : State) : Host.Outcome State Fault Refusal := done (effPllRelockFail q s)

/-- NO_SERVING_PLL (R30): no locked PLL serves a lane and its transmitter is squelched. -/
def execNoServingPll (q n : Nat) (s : State) : Host.Outcome State Fault Refusal := done (effNoServingPll q n s)

/-- QUAD_READY (R31): every serving PLL of a quad is locked and latency constants are loaded. -/
def execQuadReady (q : Nat) (s : State) : Host.Outcome State Fault Refusal := done (effQuadReady q s)

/-- CDR_LOCK (R32): A lane gains CDR frequency lock and initial adaptation proceeds. -/
def execCdrLock (l : Nat) (tx rx : LatMeas) (s : State) : Host.Outcome State Fault Refusal :=
  done (effCdrLock l tx rx s)

/-- ADAPT_TIMEOUT (R32): CDR frequency lock is not reached within 2 ms. -/
def execAdaptTimeout (l : Nat) (s : State) : Host.Outcome State Fault Refusal := done (effAdaptTimeout l s)

/-- ADAPT_DONE (R450): an initial adaptation ends and reports status, cause and FOM. -/
def execAdaptDone (l : Nat) (sweep : List LmsPass) (last : LmsPass) (s : State) : Host.Outcome State Fault Refusal :=
  done (effAdaptDone l sweep last s)

/-- FOM_REFRESH (R33): the lane recomputes its FOM every 1 ms. -/
def execFomRefresh (l : Nat) (e : Eye) (s : State) : Host.Outcome State Fault Refusal := done (effFomRefresh l e s)

/-- LATENCY_CHANGED (R35): A published lane latency changes at a lane word boundary and LAT_SEQ increments. -/
def execLatencyChanged (l : Nat) (rx : Bool) (m : LatMeas) (s : State) : Host.Outcome State Fault Refusal :=
  done (effLatencyChanged l rx m s)

/-- LATENCY_TEMP_UPDATE (R34): the lane latency is re-evaluated every 10 ms for temperature. -/
def execLatencyTempUpdate (q : Nat) (temp : Int) (s : State) : Host.Outcome State Fault Refusal :=
  done (effLatencyTempUpdate q temp s)

/-- CDR_LOS (R35): A lane loses lock and its latency becomes invalid. -/
def execCdrLos (l : Nat) (s : State) : Host.Outcome State Fault Refusal := done (effCdrLos l s)

/-- SPARE_TRAINING_DONE (R38): adaptation of the spare slice ends and comparison starts or the swap aborts. -/
def execSpareTrainingDone (l : Nat) (r : AdaptRun) (s : State) : Host.Outcome State Fault Refusal :=
  done (effSpareTrainingDone l r s)

/-- SPARE_COMPARE_PASS (R38): 2^16 identical lane words arm the swap. -/
def execSpareComparePass (l : Nat) (pass : Bool) (s : State) : Host.Outcome State Fault Refusal :=
  done (effSpareComparePass l pass s)

/-- SLICE_SWAPPED (R38): at the swap boundary the slices exchange roles and the receive latency is republished. -/
def execSliceSwapped (l : Nat) (m : LatMeas) (s : State) : Host.Outcome State Fault Refusal :=
  done (effSliceSwapped l m s)

/-- SLICE_ABORT (R39): A swap sequence aborts for a cause or timeout. -/
def execSliceAbort (l cause : Nat) (s : State) : Host.Outcome State Fault Refusal := done (effSliceAbort l cause s)

/-- TX_SEGMENT_SWAPPED (R32): A spare driver segment replaces a weak one at a lane word boundary. -/
def execTxSegmentSwapped (l : Nat) (s : State) : Host.Outcome State Fault Refusal := done (effTxSegmentSwapped l s)

end Sys2Proof.Machine
end

