-- ==== Sys2Proof/Machine/ExecLate.lean ====
section
/-! DEFINITION. Meanings of the rows of the opcode table for the rows that the table lists last: one definition per row, each the row's effect
followed by what every command ends with. -/

namespace Sys2Proof.Machine

/-- TIME_PLL_RELOCKED (R162): A failed time PLL re-locks within its 10 ms attempt and becomes the phase-tracking spare, or after the loss of both restores TIMEPLL and GUH_RUN. -/
def execTimePllRelocked (pll : Nat) (s : State) : Host.Outcome State Fault Refusal := done (effTimePllRelocked pll s)

/-- QUAD_PLL_RELOCKED (R29): A failed quad LC PLL re-locks and becomes the standby PLL, or restores a squelched lane in the split arrangement. -/
def execQuadPllRelocked (q pll : Nat) (s : State) : Host.Outcome State Fault Refusal :=
  done (effQuadPllRelocked q pll s)

/-- WORD_LOCK_LOST (R87): an edge port loses word lock, or another link-down-filter condition of R86 begins, restarting the hold-off in HOLDOFF and starting the filter. -/
def execWordLockLost (x : LinkLoss) (s : State) : Host.Outcome State Fault Refusal := done (effWordLockLost x s)

/-- BLOCK_REACHES_RUN (R341): A started or reset block finishes INIT and READY, enters RUN and sets its ready bit, for example BUF after its cell ECC initialisation. -/
def execBlockReachesRun (b : Nat) (s : State) : Host.Outcome State Fault Refusal := done (effBlockReachesRun b s)

/-- EVT_MOD_EXPIRY (R356): EVT_MOD elapses after a vector's previous event message and a held event interrupt is signalled. -/
def execEvtModExpiry (b : Nat) (s : State) : Host.Outcome State Fault Refusal := done (effEvtModExpiry b s)

/-- AUX_UNLOCK (R159): an AUX0 or AUX1 synthesiser loses lock and AUX_UNLOCK is raised. -/
def execAuxUnlock (k : Nat) (s : State) : Host.Outcome State Fault Refusal := done (effAuxUnlock k s)

/-- DLL_FAIL (R177): A clock output's alignment line cannot hold its delay and DLL_FAIL is raised. -/
def execDllFail (o : Nat) (s : State) : Host.Outcome State Fault Refusal := done (effDllFail o s)

/-- TREND_RECORD_WRITE (R404): every 30 days of powered time a trend record is written to the service record and WEAR_REPORT is reported. -/
def execTrendRecordWrite (s : State) : Host.Outcome State Fault Refusal := done (effTrendRecordWrite s)

end Sys2Proof.Machine
end

