-- ==== Sys2Proof/Machine/ExecOutputs.lean ====
section
/-! DEFINITION. Meanings of the rows of the opcode table for clock, pulse and frame outputs: one definition per row, each the row's effect
followed by what every command ends with. -/

namespace Sys2Proof.Machine

/-- OUT_STEP (R173): A CLOCK output takes one 1 ps step at a falling edge. -/
def execOutStep (o : Nat) (s : State) : Host.Outcome State Fault Refusal := done (effOutStep o s)

/-- OUT_RESTARTED (R175): A pending count reaches OUT_RESTART and the output restarts. -/
def execOutRestarted (o : Nat) (s : State) : Host.Outcome State Fault Refusal := done (effOutRestarted o s)

/-- OUT_ALIGN_EDGE (R178): an input edge measures an aligned output's distance and corrects or loses alignment. -/
def execOutAlignEdge (o : Nat) (dist : Int) (s : State) : Host.Outcome State Fault Refusal :=
  done (effOutAlignEdge o dist s)

/-- PULSE_EDGE (R179): A pulse output edge is fired by its comparator. -/
def execPulseEdge (n : Nat) (s : State) : Host.Outcome State Fault Refusal := done (effPulseEdgeOf n s)

/-- FRAME_OUTPUT_EDGE (R171): A FRAME output edge is fired by its generator comparator. -/
def execFrameOutputEdge (g : Nat) (s : State) : Host.Outcome State Fault Refusal := done (effFrameOutputEdge g s)

/-- DLL_SWAPPED (R177): an alignment line is exchanged with its spare after comparison. -/
def execDllSwapped (o : Nat) (s : State) : Host.Outcome State Fault Refusal := done (effDllSwapped o s)

/-- TIME_PLL_SWAPPED (R162): A requested swap of time PLLs takes place at a tick boundary. -/
def execTimePllSwapped (s : State) : Host.Outcome State Fault Refusal := done (effTimePllSwapped s)

end Sys2Proof.Machine
end

