-- ==== Sys2Proof/Machine/ExecPair.lean ====
section
/-! DEFINITION. Meanings of the rows of the opcode table for pairing: one definition per row, each the row's effect
followed by what every command ends with. -/

namespace Sys2Proof.Machine

/-- PAIR_HB_SEND (R300): A PAIR_HB message is sent every 10 µs or on a change. -/
def execPairHbSend (s : State) : Host.Outcome State Fault Refusal := done (effPairHbSend s)

/-- PAIR_HB_RECEIVED (R301): A PAIR_HB message is checked, accepted and may change role. -/
def execPairHbReceived (msg : List Byte) (s : State) : Host.Outcome State Fault Refusal :=
  done (effPairHbReceived msg s)

/-- PATH_SILENT (R302): A heartbeat path yields nothing for HB_TIMEOUT. -/
def execPathSilent (trunk : Bool) (s : State) : Host.Outcome State Fault Refusal := done (effPathSilent trunk s)

/-- LISTENING_TIMEOUT (R305): nothing heard for 2 × HB_TIMEOUT in LISTENING makes the unit ACTIVE. -/
def execListeningTimeout (s : State) : Host.Outcome State Fault Refusal := done (effListeningTimeout s)

/-- INTERLOCK_TEST (R307): after the 2 µs wait the unit takes the grant if PAIR_HB_ACT_IN is low. -/
def execInterlockTest (actIn : Bool) (s : State) : Host.Outcome State Fault Refusal := done (effInterlockTest actIn s)

/-- INTERLOCK_RETRY (R307): after an ACT_CONFLICT the interlock test is retried after a PRIO-spaced delay. -/
def execInterlockRetry (s : State) : Host.Outcome State Fault Refusal := done (effInterlockRetry s)

/-- SWITCHOVER_RELEASE (R311): A claimed output is released at its next low level during switchover. -/
def execSwitchoverRelease (n : Nat) (s : State) : Host.Outcome State Fault Refusal := done (effSwitchoverRelease n s)

/-- SWITCH_TIMEOUT (R311): SWITCH_WAIT passes with an output still high. -/
def execSwitchTimeout (s : State) : Host.Outcome State Fault Refusal := done (effSwitchTimeout s)

/-- SWITCHOVER_DONE (R311): the switchover completes or fails and is reported. -/
def execSwitchoverDone (s : State) : Host.Outcome State Fault Refusal := done (effSwitchoverDone s)

/-- TAKEOVER_DONE (R310): shafts leave the mirror state and the takeover completes. -/
def execTakeoverDone (s : State) : Host.Outcome State Fault Refusal := done (effTakeoverDone s)

end Sys2Proof.Machine
end

