-- ==== Sys2Proof/Machine/ExecRegisters.lean ====
section
/-! DEFINITION. Meanings of the rows of the opcode table for accesses to registers: one definition per row, each the row's effect
followed by what every command ends with. -/

namespace Sys2Proof.Machine

/-- TIME_SNAP_CTRL (R352): writing TRIGGER = 1 latches the Guhild counter, state and cycle count at the next tick. -/
def execTimeSnapCtrl (v : Word) (s : State) : Host.Outcome State Fault Refusal := done (awake (effTimeSnapCtrl v) s)

/-- SHAFT_SNAP_CTRL (R202): A write latches rolling time, angle and speed of the named shaft in one tick. -/
def execShaftSnapCtrl (v : Word) (s : State) : Host.Outcome State Fault Refusal := done (awake (effShaftSnapWrite v) s)

/-- LOW_WORD_READ (R349): A 32-bit read of the low word of a wide register latches the whole value. -/
def execLowWordRead (r : Requester) (off : Nat) (s : State) : Host.Outcome State Fault Refusal :=
  done (awake (effLowWordRead r off) s)

/-- TIC_FIFO_DATA0 (R194): A read removes and latches the head record of the selected TIC FIFO. -/
def execTicFifoData0 (s : State) : Host.Outcome State Fault Refusal := done (awake (effTicFifoData0) s)

/-- NMI_STATUS_CLEAR (R358): writing 1 to PENDING releases NMI_N unless the cause is still active. -/
def execNmiStatusClear (s : State) : Host.Outcome State Fault Refusal := done (awake (effNmiStatusClear) s)

/-- FLT_STATUS_CLEAR (R384): A W1C of FLT_STATUS clears bits whose cause has ended and may clear the latch and stop flag. -/
def execFltStatusClear (b : Nat) (mask : Word) (s : State) : Host.Outcome State Fault Refusal :=
  done (awake (effFltStatusClear b mask) s)

/-- INT_STATUS_CLEAR (R384): A W1C of INT_STATUS acknowledges interrupts. -/
def execIntStatusClear (b : Nat) (mask : Word) (s : State) : Host.Outcome State Fault Refusal :=
  done (awake (effIntStatusClear b mask) s)

/-- FLT_OVF_CLEAR (R384): writing 1 to OVF clears the overflow flag and count. -/
def execFltOvfClear (b : Nat) (s : State) : Host.Outcome State Fault Refusal := done (awake (effFltOvfClear b) s)

/-- INT_ENABLE_WRITE (R356): A write of INT_ENABLE re-signals the vector if the pending condition stays true. -/
def execIntEnableWrite (b : Nat) (v : Word) (s : State) : Host.Outcome State Fault Refusal :=
  done (awake (effIntEnableWrite b v) s)

/-- PCNT_SEL_WRITE (R407): A write of PCNT_SEL_n clears the counter and starts the new selection. -/
def execPcntSelWrite (b n : Nat) (v : Word) (s : State) : Host.Outcome State Fault Refusal :=
  done (awake (effPcntSelWrite b n v) s)

/-- PCNT_FILT_WRITE (R407): A write of PCNT_FILT_n changes the filter from the next cycle. -/
def execPcntFiltWrite (b n : Nat) (v : Word64) (s : State) : Host.Outcome State Fault Refusal :=
  done (awake (effPcntFiltWrite b n v) s)

/-- PCNT_OVF_CLEAR (R410): A W1C of PCNT_OVF clears wrap flags. -/
def execPcntOvfClear (b : Nat) (mask : Word) (s : State) : Host.Outcome State Fault Refusal :=
  done (awake (effPcntOvfClear b mask) s)

/-- GUH_CMP_STEPPED_CLEAR (R129): A W1C of GUH_CMP_STEPPED clears stepped comparator bits. -/
def execGuhCmpSteppedClear (mask : Word64) (s : State) : Host.Outcome State Fault Refusal :=
  done (awake (effGuhCmpSteppedClear mask) s)

/-- ISO_CTRL_WRITE (R354): A write of ISO_CTRL sets the ISOPHASE period from the next toggle. -/
def execIsoCtrlWrite (v : Word) (s : State) : Host.Outcome State Fault Refusal := done (awake (effIsoCtrlWrite v) s)

/-- REGISTER_WRITE (R348): any other register write, including ignored or erroneous accesses counted as ACCESS_ERROR. -/
def execRegisterWrite (off width : Nat) (v : Word64) (s : State) : Host.Outcome State Fault Refusal :=
  done (awake (effRegisterWrite off width v) s)

end Sys2Proof.Machine
end

