-- ==== Sys2Proof/Machine/ExecSched.lean ====
section
/-! DEFINITION. Meanings of the rows of the opcode table for gates, slots and launches: one definition per row, each the row's effect
followed by what every command ends with. -/

namespace Sys2Proof.Machine

/-- GATE_BOUNDARY (R277): A gate list entry boundary changes the gates. -/
def execGateBoundary (p : Nat) (s : State) : Host.Outcome State Fault Refusal := done (effGateBoundary p s)

/-- ANGLE_BOUNDARY_CONVERTED (R280): the next angle boundary is converted and armed or applied late. -/
def execAngleBoundaryConverted (p : Nat) (s : State) : Host.Outcome State Fault Refusal :=
  done (effAngleBoundaryConverted p s)

/-- LAUNCH (R289): A resident slot's frame leaves at its launch quantum and is stamped. -/
def execLaunch (slot stamp : Nat) (s : State) : Host.Outcome State Fault Refusal := done (effLaunch slot stamp s)

/-- LAUNCH_MISSED (R291): A launch cannot leave by T + LATE_LIMIT and is not sent. -/
def execLaunchMissed (slot : Nat) (s : State) : Host.Outcome State Fault Refusal := done (effLaunchMissed slot s)

/-- HR_COMMIT (R294): 2 µs before the deadline a hold-repeat is committed. -/
def execHrCommit (slot : Nat) (s : State) : Host.Outcome State Fault Refusal := done (effHrCommit slot s)

/-- HR_REPEAT (R294): A committed repeat is launched at the deadline. -/
def execHrRepeat (slot stamp : Nat) (s : State) : Host.Outcome State Fault Refusal := done (effHrRepeat slot stamp s)

/-- ESCALATION (R287): A dwell timer reaches ESC_DWELL and a grant becomes pending. -/
def execEscalation (p q : Nat) (s : State) : Host.Outcome State Fault Refusal := done (effEscalation p q s)

end Sys2Proof.Machine
end

