-- ==== Sys2Proof/Machine/ExecShafts.lean ====
section
/-! DEFINITION. Meanings of the rows of the opcode table for shafts, sectors and the planner: one definition per row, each the row's effect
followed by what every command ends with. -/

namespace Sys2Proof.Machine

/-- SEGMENT_IN_FORCE (R206): A segment comes into force and joins with its discontinuity. -/
def execSegmentInForce (sh : Nat) (s : State) : Host.Outcome State Fault Refusal := done (effSegmentInForce sh s)

/-- SEG_LATE (R205): A segment ends with no successor and the shaft goes LATE or HELD. -/
def execSegLate (sh : Nat) (s : State) : Host.Outcome State Fault Refusal := done (effSegLate sh s)

/-- COASTING (R205): A LATE shaft reaches t0 + 2 s and coasts. -/
def execCoasting (sh : Nat) (s : State) : Host.Outcome State Fault Refusal := done (effCoasting sh s)

/-- CLAIM_TIMEOUT (R209): no record carrying CLAIM_HELD for CLAIM_TIMEOUT returns CLAIM_HELD to 0. -/
def execClaimTimeout (sh : Nat) (s : State) : Host.Outcome State Fault Refusal := done (effClaimTimeout sh s)

/-- CAPTURE_FIT (R208): A captured shaft fits its encoder records and pushes a segment. -/
def execCaptureFit (sh : Nat) (s : State) : Host.Outcome State Fault Refusal := done (effCaptureFit sh s)

/-- PLAN_CONVERSION (R217): an event entering PLAN_HORIZON is converted to a rolling time and queued. -/
def execPlanConversion (slot : Nat) (s : State) : Host.Outcome State Fault Refusal := done (effPlanConversion slot s)

/-- REPLAN_DONE (R218): A trajectory change replans or commits the shaft's targets. -/
def execReplanDone (sh : Nat) (s : State) : Host.Outcome State Fault Refusal := done (effReplanDone sh s)

/-- SECTOR_FIRED (R223): A planned target fires its pulse, gate, launch, capture or interrupt. -/
def execSectorFired (i : Nat) (s : State) : Host.Outcome State Fault Refusal := done (effSectorFired i s)

/-- EVENT_MISSED (R221): an event is missed and fires late or not at all. -/
def execEventMissed (slot : Nat) (s : State) : Host.Outcome State Fault Refusal := done (effEventMissed slot s)

/-- GEAR_CHANGED (R211): A pending gear change is applied at t_g or ends otherwise. -/
def execGearChanged (sh : Nat) (s : State) : Host.Outcome State Fault Refusal := done (effGearChanged sh s)

/-- PLAN_OVERLOAD (R219): conversion demand stays above the sustained rate for 1 ms. -/
def execPlanOverload (on : Bool) (s : State) : Host.Outcome State Fault Refusal := done (effPlanOverload on s)

/-- CAPTURE_RECORD_WRITE (R226): A capture record is written at the later of fire time and crossing. -/
def execCaptureRecordWrite (i : Nat) (s : State) : Host.Outcome State Fault Refusal := done (effCaptureRecordWrite i s)

end Sys2Proof.Machine
end

