-- ==== Sys2Proof/Machine/ExecStart.lean ====
section
/-! DEFINITION. Meanings of the rows of the opcode table for resets, supplies and start-up: one definition per row, each the row's effect
followed by what every command ends with. -/

namespace Sys2Proof.Machine

/-- RESET_N_LOW (R431): RESET_N held low for 1 µs puts the device in reset. -/
def execResetNLow (s : State) : Host.Outcome State Fault Refusal := done (effResetNLow s)

/-- RESET_RELEASE (R363): supplies good and RESET_N high release reset; straps are latched and the start attempt begins. -/
def execResetRelease (straps : Straps) (aonValid flashOk : Bool) (pairs : Nat) (s : State) : Host.Outcome State Fault Refusal :=
  done (effResetRelease straps aonValid flashOk pairs s)

/-- PLLS_LOCKED_AT_START (R365): core and time PLLs lock and the automatic blocks start. -/
def execPllsLockedAtStart (s : State) : Host.Outcome State Fault Refusal := done (effPllsLockedAtStart s)

/-- CALIBRATION_LOAD (R368): the calibration store copy and identity record are read and checked. -/
def execCalibrationLoad (copy0 copy1 : Bool) (ids : List (Option (Nat × Nat))) (overlayBad : List Nat) (s : State) : Host.Outcome State Fault Refusal :=
  done (effCalibrationLoad copy0 copy1 ids overlayBad s)

/-- IMAGE_LOADED (R367): the selected image is checked and loaded, and Keeper command service starts. -/
def execImageLoaded (s : State) : Host.Outcome State Fault Refusal := done (effImageLoaded s)

/-- SCRIPT_PACKET (R345): the Keeper executes the next packet of the startup script. -/
def execScriptPacket (s : State) : Host.Outcome State Fault Refusal := done (effScriptPacket s)

/-- SCRIPT_DONE (R345): the startup script ends and its result is reported. -/
def execScriptDone (s : State) : Host.Outcome State Fault Refusal := done (effScriptDone s)

/-- BOOT_OK (R369): every required ready bit is set, BOOT_OK is declared and the attempt counter clears. -/
def execBootOk (s : State) : Host.Outcome State Fault Refusal := done (effBootOk s)

/-- BOOT_INCOMPLETE (R369): BOOT_OK is declared 10 s after reset release while the Keeper serves commands. -/
def execBootIncomplete (s : State) : Host.Outcome State Fault Refusal := done (effBootIncomplete s)

/-- SUPPLY_FALLING (R428): A supply monitor reports a supply falling; FATAL and DYING set. -/
def execSupplyFalling (s : State) : Host.Outcome State Fault Refusal := done (effSupplyFalling s)

/-- SUPPLY_RESET (R428): 5 µs after a supply fall every domain except VDD_AON is reset. -/
def execSupplyReset (aonLost : Bool) (s : State) : Host.Outcome State Fault Refusal := done (effSupplyReset aonLost s)

/-- PERST_N_LOW (R432): PERST_N low resets the PCIe function only. -/
def execPerstNLow (s : State) : Host.Outcome State Fault Refusal := done (effPerstNLow s)

/-- PERST_N_RISE (R432): PERST_N rises and PCIe link training starts. -/
def execPerstNRise (s : State) : Host.Outcome State Fault Refusal := done (effPerstNRise s)

/-- PCIE_LINK_DOWN (R361): the PCIe link goes down, EN clears and completions are discarded. -/
def execPcieLinkDown (s : State) : Host.Outcome State Fault Refusal := done (effPcieLinkDown s)

/-- PCIE_LINK_UP (R365): the PCIe link reaches L0 and HOST_PCIE sets. -/
def execPcieLinkUp (gen width : Nat) (s : State) : Host.Outcome State Fault Refusal := done (effPcieLinkUp gen width s)

/-- JTAG_INSTRUCTION (R433): A test instruction other than BYPASS, IDCODE or SAMPLE/PRELOAD holds the device in reset. -/
def execJtagInstruction (holds : Bool) (s : State) : Host.Outcome State Fault Refusal :=
  done (effJtagInstruction holds s)

end Sys2Proof.Machine
end

