-- ==== Sys2Proof/Machine/ExecTic.lean ====
section
/-! DEFINITION. Meanings of the rows of the opcode table for the TIC: one definition per row, each the row's effect
followed by what every command ends with. -/

namespace Sys2Proof.Machine

/-- TIC_EDGE (R183): an edge on a TIC pin is stamped, counted and recorded. -/
def execTicEdge (ch : Nat) (falling : Bool) (l : Latch) (s : State) : Host.Outcome State Fault Refusal :=
  done (effTicEdge ch falling l s)

/-- CAL_PAIR (R185): an interpolator calibration pair updates scale and offset. -/
def execCalPair (i : Nat) (c1 c2 : Latch) (s : State) : Host.Outcome State Fault Refusal := done (effCalPair i c1 c2 s)

/-- CAL_STALE (R186): no calibration pair completes within 10 × CAL_INTERVAL. -/
def execCalStale (ch : Nat) (s : State) : Host.Outcome State Fault Refusal := done (effCalStale ch s)

/-- INTERVAL_TIMEOUT (R190): an open start is closed after TIMEOUT. -/
def execIntervalTimeout (s : State) : Host.Outcome State Fault Refusal := done (effIntervalTimeout s)

/-- FREQ_DONE (R191): A frequency gate closes and its regression is reported. -/
def execFreqDone (ch : Nat) (s : State) : Host.Outcome State Fault Refusal := done (effFreqDone ch s)

/-- ENCODER_EDGE (R195): an accepted A or B change moves ENC_POSITION and writes an encoder record. -/
def execEncoderEdge (e : Nat) (a b : PinLevel) (l : Latch) (s : State) : Host.Outcome State Fault Refusal :=
  done (effEncoderEdge e a b l s)

/-- ENC_Z (R196): a Z edge makes a record, and a rising one is checked or sets the position. -/
def execEncZ (e : Nat) (falling : Bool) (l : Latch) (s : State) : Host.Outcome State Fault Refusal :=
  done (effEncZ e falling l s)

/-- MONITOR_MARK (R198): A monitor source mark is stamped by a free monitor interpolator. -/
def execMonitorMark (src edges : Nat) (l : Latch) (s : State) : Host.Outcome State Fault Refusal :=
  done (effMonitorMark src edges l s)

/-- INTERP_SWAPPED (R199): after comparison a spare interpolator takes over in a dead time. -/
def execInterpSwapped (s : State) : Host.Outcome State Fault Refusal := done (effInterpSwapped s)

/-- INTERP_MISMATCH (R199): an interpolator swap comparison fails to pass within 2^20 pairs. -/
def execInterpMismatch (s : State) : Host.Outcome State Fault Refusal := done (effInterpMismatch s)

end Sys2Proof.Machine
end

