-- ==== Sys2Proof/Machine/ExecTime.lean ====
section
/-! DEFINITION. Meanings of the rows of the opcode table for Guhild and the references: one definition per row, each the row's effect
followed by what every command ends with. -/

namespace Sys2Proof.Machine

/-- COMPARATOR_FIRE (R128): an armed comparator fires in the tick containing its target. -/
def execComparatorFire (k : Nat) (s : State) : Host.Outcome State Fault Refusal := done (effComparatorFire k s)

/-- GUH_SAMPLE (R118): A phase error sample reaches Guhild and goes to the DPLL, is held, or confirms a step. -/
def execGuhSample (ref : Nat) (e : Int) (s : State) : Host.Outcome State Fault Refusal := done (effGuhSample ref e s)

/-- LOCK_TIME_ELAPSED (R119): samples stay within LOCK_THRESHOLD for LOCK_TIME and Guhild enters LOCKED. -/
def execLockTimeElapsed (s : State) : Host.Outcome State Fault Refusal := done (effLockTimeElapsed s)

/-- UNLOCK_TIME_ELAPSED (R119): samples stay beyond LOCK_THRESHOLD for UNLOCK_TIME and Guhild enters ACQUIRING. -/
def execUnlockTimeElapsed (s : State) : Host.Outcome State Fault Refusal := done (effUnlockTimeElapsed s)

/-- SWITCH_SAMPLE_TIMEOUT (R122): no first sample of a new reference within 100 ms; the switch becomes a loss. -/
def execSwitchSampleTimeout (s : State) : Host.Outcome State Fault Refusal := done (effSwitchSampleTimeout s)

/-- HOLDOVER_HOUR (R119): one hour in holdover changes the quality served from 0x40 to 0x60. -/
def execHoldoverHour (s : State) : Host.Outcome State Fault Refusal := done (effHoldoverHour s)

/-- LEAP_DONE (R131): the announced leap is applied at the end of the UTC day. -/
def execLeapDone (s : State) : Host.Outcome State Fault Refusal := done (effLeapDone s)

/-- COUNTER_CHECK (R110): counter and shadow counter disagree. -/
def execCounterCheck (agree : Bool) (s : State) : Host.Outcome State Fault Refusal := done (effCounterCheck agree s)

/-- MONITOR_REFIT (R148): A candidate monitor refits and REFS evaluates activity, band, phase, dispute and selection. -/
def execMonitorRefit (cand ns frac : Nat) (s : State) : Host.Outcome State Fault Refusal :=
  done (effMonitorRefit cand ns frac s)

/-- REF_EDGE (R140): an edge on a REF_IN input is counted for activity. -/
def execRefEdge (k stamp : Nat) (s : State) : Host.Outcome State Fault Refusal := done (effRefEdge k stamp s)

/-- REF_LOST (R140): no edge arrives for the loss interval and the input stops being present. -/
def execRefLost (k : Nat) (s : State) : Host.Outcome State Fault Refusal := done (effRefLost k s)

/-- CANDIDATE_PRESENCE_CHANGE (R148): A port candidate becomes or stops being present and REFS evaluates. -/
def execCandidatePresenceChange (cand : Nat) (present : Bool) (s : State) : Host.Outcome State Fault Refusal :=
  done (effCandidatePresenceChange cand present s)

/-- MONITOR_FAIL (R142): no refit for two windows disqualifies the candidate. -/
def execMonitorFail (cand : Nat) (s : State) : Host.Outcome State Fault Refusal := done (effMonitorFail cand s)

/-- MOORING_SECOND (R155): one second of DPLL frequency is recorded in the mooring record. -/
def execMooringSecond (freq : Int) (s : State) : Host.Outcome State Fault Refusal := done (effMooringSecond freq s)

/-- MAIN_LOST (R156): the main selector has no eligible candidate and moves to the holdover frequency. -/
def execMainLost (s : State) : Host.Outcome State Fault Refusal := done (effMainLost s)

/-- ACQUISITION_END (R150): frequency error stays within 10 ppb for 10 s and tracking bandwidth starts. -/
def execAcquisitionEnd (sel : Nat) (s : State) : Host.Outcome State Fault Refusal := done (effAcquisitionEnd sel s)

end Sys2Proof.Machine
end

