-- ==== Sys2Proof/Machine/ExecTrunks.lean ====
section
/-! DEFINITION. Meanings of the rows of the opcode table for Difivi trunks: one definition per row, each the row's effect
followed by what every command ends with. -/

namespace Sys2Proof.Machine

/-- DIFIVI_BLOCK_RECEIVED (R45): A trunk block is received, destuffed, descrambled and its words and signal word handled. -/
def execDifiviBlockReceived (p : Nat) (comma : Bool) (region : List Bool) (stamp : Nat) (s : State) : Host.Outcome State Fault Refusal :=
  done (effBlockReceived p comma region stamp s)

/-- DIFIVI_BLOCK_TRANSMIT (R43): the transmitter builds and sends one block with its header, signal word and words. -/
def execDifiviBlockTransmit (p stamp : Nat) (s : State) : Host.Outcome State Fault Refusal :=
  done (effDifiviBlockTransmit p stamp s)

/-- TRUNK_LINK_DOWN_FILTER (R63): three consecutive missing blocks take the trunk DOWN and reset its credit state. -/
def execTrunkLinkDownFilter (p : Nat) (s : State) : Host.Outcome State Fault Refusal := done (effTrunkFilter p s)

/-- SIGNAL_DETECTED (R62): SIG_DET and CDR_LOCK with LINK_ADMIN = 1 move a port from DOWN to LOCKING. -/
def execSignalDetected (p : Nat) (s : State) : Host.Outcome State Fault Refusal := done (effSignalDetected p s)

/-- LOCK_TIMEOUT (R62): the trunk stays in LOCKING for LOCK_TIMEOUT. -/
def execLockTimeout (p : Nat) (s : State) : Host.Outcome State Fault Refusal := done (effLockTimeout p s)

/-- TRAINING_DONE (R68): receiver-directed transmit training ends. -/
def execTrainingDone (p fom : Nat) (s : State) : Host.Outcome State Fault Refusal := done (effTrainingDone p fom s)

/-- TRAINING_REQUEST_TIMEOUT (R68): A FIR request is not acknowledged within 100 µs and training ends. -/
def execTrainingRequestTimeout (p : Nat) (s : State) : Host.Outcome State Fault Refusal :=
  done (effTrainingRequestTimeout p s)

/-- TRUNK_TRAINED (R62): ALIGNED conditions hold and the trunk enters TRAINED. -/
def execTrunkTrained (p : Nat) (s : State) : Host.Outcome State Fault Refusal := done (effTrunkTrained p s)

/-- TIME_CHECK_PASSED (R65): TIMED_EXCHANGES valid exchanges pass the time check and TIME_OK sets. -/
def execTimeCheckPassed (p : Nat) (s : State) : Host.Outcome State Fault Refusal := done (effTimeCheck p s)

/-- EXCHANGE_LOSS (R66): 64 superblocks pass without a valid exchange and TIME_OK clears. -/
def execExchangeLoss (p : Nat) (s : State) : Host.Outcome State Fault Refusal := done (effExchangeLost p s)

/-- TRUNK_HOLDOFF_EXPIRED (R62): hold-off, flush and far-end state let the trunk enter UP. -/
def execTrunkHoldoffExpired (p : Nat) (s : State) : Host.Outcome State Fault Refusal := done (effTrunkHoldoff p s)

/-- EXCHANGE_WINDOW_END (R116): an averaging window ends and yields a phase error sample or none. -/
def execExchangeWindowEnd (p : Nat) (s : State) : Host.Outcome State Fault Refusal := done (effExchangeWindowEnd p s)

/-- LINK_ADMIN_DOWN (R81): LINK_ADMIN goes from 1 to 0, aborting any frame and entering DOWN. -/
def execLinkAdminDown (p : Nat) (s : State) : Host.Outcome State Fault Refusal := done (effLinkAdminDown p s)

end Sys2Proof.Machine
end

