-- ==== Sys2Proof/Machine/Dispatch.lean ====
section
/-! DEFINITION. Which meaning each row of the opcode table has: one arm per constructor. -/

namespace Sys2Proof.Machine

def exec (i : Instr) (s : State) : Host.Outcome State Fault Refusal :=
  match i with
  | .ident h => Sys2Proof.Machine.execIdent h s
  | .nop h => Sys2Proof.Machine.execNop h s
  | .paramGet h shadow ids => Sys2Proof.Machine.execParamGet h shadow ids s
  | .paramSet h es => Sys2Proof.Machine.execParamSet h es s
  | .paramStage h es => Sys2Proof.Machine.execParamStage h es s
  | .commit h a => Sys2Proof.Machine.execCommit h a s
  | .commitCancel h discard mask => Sys2Proof.Machine.execCommitCancel h discard mask s
  | .blockStop h b => Sys2Proof.Machine.execBlockStop h b s
  | .blockStart h b => Sys2Proof.Machine.execBlockStart h b s
  | .blockReset h b => Sys2Proof.Machine.execBlockReset h b s
  | .powerBudget h => Sys2Proof.Machine.execPowerBudget h s
  | .regRead h offs => Sys2Proof.Machine.execRegRead h offs s
  | .regWrite h ps => Sys2Proof.Machine.execRegWrite h ps s
  | .eventSubscribe h a => Sys2Proof.Machine.execEventSubscribe h a s
  | .keySet h keyId perm key => Sys2Proof.Machine.execKeySet h keyId perm key s
  | .scriptWait h r0 r1 r2 r3 timeout => Sys2Proof.Machine.execScriptWait h r0 r1 r2 r3 timeout s
  | .bootStatus h => Sys2Proof.Machine.execBootStatus h s
  | .imageWrite h slot offset data => Sys2Proof.Machine.execImageWrite h slot offset data s
  | .imageSelect h slot => Sys2Proof.Machine.execImageSelect h slot s
  | .scriptWrite h offset data => Sys2Proof.Machine.execScriptWrite h offset data s
  | .restart h => Sys2Proof.Machine.execRestart h s
  | .laneAdapt h q n => Sys2Proof.Machine.execLaneAdapt h q n s
  | .laneRead h q n => Sys2Proof.Machine.execLaneRead h q n s
  | .ptpPortRead h p => Sys2Proof.Machine.execPtpPortRead h p s
  | .tunnelSend h env pkt => Sys2Proof.Machine.execTunnelSend h env pkt s
  | .tunnelRead h handle close => Sys2Proof.Machine.execTunnelRead h handle close s
  | .tableWrite h table entries => Sys2Proof.Machine.execTableWrite h table entries s
  | .tableRead h table key count => Sys2Proof.Machine.execTableRead h table key count s
  | .tableLoad h table first entries => Sys2Proof.Machine.execTableLoad h table first entries s
  | .channelAdd h ch desc => Sys2Proof.Machine.execChannelAdd h ch desc s
  | .channelModify h ch stage resetMask desc => Sys2Proof.Machine.execChannelModify h ch stage resetMask desc s
  | .channelRemove h ch => Sys2Proof.Machine.execChannelRemove h ch s
  | .channelPin h ch pinReq => Sys2Proof.Machine.execChannelPin h ch pinReq s
  | .channelRead h ch => Sys2Proof.Machine.execChannelRead h ch s
  | .crossingBook h ch inPort outPort entry maxlen => Sys2Proof.Machine.execCrossingBook h ch inPort outPort entry maxlen s
  | .crossingRelease h booking => Sys2Proof.Machine.execCrossingRelease h booking s
  | .flushRead h first count => Sys2Proof.Machine.execFlushRead h first count s
  | .gclLoad h a => Sys2Proof.Machine.execGclLoad h a s
  | .slotWrite h slot data => Sys2Proof.Machine.execSlotWrite h slot data s
  | .slotConfig h a => Sys2Proof.Machine.execSlotConfig h a s
  | .slotRead h slot => Sys2Proof.Machine.execSlotRead h slot s
  | .policerSet h pol cir pir cbs pbs aware => Sys2Proof.Machine.execPolicerSet h pol cir pir cbs pbs aware s
  | .policerRead h pol => Sys2Proof.Machine.execPolicerRead h pol s
  | .timeSet h sec ns frac => Sys2Proof.Machine.execTimeSet h sec ns frac s
  | .timeAdjust h when_ d target => Sys2Proof.Machine.execTimeAdjust h when_ d target s
  | .timeAcceptJump h => Sys2Proof.Machine.execTimeAcceptJump h s
  | .asymSet h p vals => Sys2Proof.Machine.execAsymSet h p vals s
  | .timeRead h => Sys2Proof.Machine.execTimeRead h s
  | .refConfig h cand mask vals => Sys2Proof.Machine.execRefConfig h cand mask vals s
  | .refForce h sel cand => Sys2Proof.Machine.execRefForce h sel cand s
  | .outConfig h out mask vals => Sys2Proof.Machine.execOutConfig h out mask vals s
  | .outPhaseStep h out d => Sys2Proof.Machine.execOutPhaseStep h out d s
  | .ticArm h a => Sys2Proof.Machine.execTicArm h a s
  | .ticRead h ch count => Sys2Proof.Machine.execTicRead h ch count s
  | .shaftDefine h sh mask vals => Sys2Proof.Machine.execShaftDefine h sh mask vals s
  | .segmentPush h sh rec => Sys2Proof.Machine.execSegmentPush h sh rec s
  | .gearSet h a => Sys2Proof.Machine.execGearSet h a s
  | .sectorAdd h a => Sys2Proof.Machine.execSectorAdd h a s
  | .sectorRemove h slot => Sys2Proof.Machine.execSectorRemove h slot s
  | .sectorRead h count => Sys2Proof.Machine.execSectorRead h count s
  | .roleSet h mode pairId prio trunk => Sys2Proof.Machine.execRoleSet h mode pairId prio trunk s
  | .switchover h force => Sys2Proof.Machine.execSwitchover h force s
  | .faultRead h b => Sys2Proof.Machine.execFaultRead h b s
  | .faultClear h b flt int ovf => Sys2Proof.Machine.execFaultClear h b flt int ovf s
  | .faultReactSet h b idx react => Sys2Proof.Machine.execFaultReactSet h b idx react s
  | .aliveResume h => Sys2Proof.Machine.execAliveResume h s
  | .faultInject h b idx => Sys2Proof.Machine.execFaultInject h b idx s
  | .bistRun h b unit => Sys2Proof.Machine.execBistRun h b unit s
  | .spareSwap h b unit => Sys2Proof.Machine.execSpareSwap h b unit s
  | .serviceRecordRead h region start count => Sys2Proof.Machine.execServiceRecordRead h region start count s
  | .testUnlock h => Sys2Proof.Machine.execTestUnlock h s
  | .counterConfig h b ctr filt sel => Sys2Proof.Machine.execCounterConfig h b ctr filt sel s
  | .counterRead h pairs => Sys2Proof.Machine.execCounterRead h pairs s
  | .traceConfig h mask vals => Sys2Proof.Machine.execTraceConfig h mask vals s
  | .traceRead h count => Sys2Proof.Machine.execTraceRead h count s
  | .captureRead h count => Sys2Proof.Machine.execCaptureRead h count s
  | .commandExecutionStart => Sys2Proof.Machine.execCommandExecutionStart s
  | .bulkStepDone last => Sys2Proof.Machine.execBulkStepDone last s
  | .commandProgress percent => Sys2Proof.Machine.execCommandProgress percent s
  | .cmdDoorbell idx => Sys2Proof.Machine.execCmdDoorbell idx s
  | .descriptorFetch desc pkt => Sys2Proof.Machine.execDescriptorFetch desc pkt s
  | .cplHead idx => Sys2Proof.Machine.execCplHead idx s
  | .evtHead idx => Sys2Proof.Machine.execEvtHead idx s
  | .ringEnable v => Sys2Proof.Machine.execRingEnable v s
  | .ringDisable v => Sys2Proof.Machine.execRingDisable v s
  | .writePkt pkt => Sys2Proof.Machine.execWritePkt pkt s
  | .readPkt whole => Sys2Proof.Machine.execReadPkt whole s
  | .spiStatus => Sys2Proof.Machine.execSpiStatus s
  | .inbandCommandFrame p dstMac srcMac vlan payload => Sys2Proof.Machine.execInbandCommandFrame p dstMac srcMac vlan payload s
  | .tunnelPacketReceived p env pkt => Sys2Proof.Machine.execTunnelPacketReceived p env pkt s
  | .tunnelTimeout handle => Sys2Proof.Machine.execTunnelTimeout handle s
  | .tunnelHandleExpiry handle => Sys2Proof.Machine.execTunnelHandleExpiry handle s
  | .subLeaseExpiry idx => Sys2Proof.Machine.execSubLeaseExpiry idx s
  | .remoteRateSecond => Sys2Proof.Machine.execRemoteRateSecond s
  | .timeSnapCtrl v => Sys2Proof.Machine.execTimeSnapCtrl v s
  | .shaftSnapCtrl v => Sys2Proof.Machine.execShaftSnapCtrl v s
  | .lowWordRead r off => Sys2Proof.Machine.execLowWordRead r off s
  | .ticFifoData0 => Sys2Proof.Machine.execTicFifoData0 s
  | .nmiStatusClear => Sys2Proof.Machine.execNmiStatusClear s
  | .fltStatusClear b mask => Sys2Proof.Machine.execFltStatusClear b mask s
  | .intStatusClear b mask => Sys2Proof.Machine.execIntStatusClear b mask s
  | .fltOvfClear b => Sys2Proof.Machine.execFltOvfClear b s
  | .intEnableWrite b v => Sys2Proof.Machine.execIntEnableWrite b v s
  | .pcntSelWrite b n v => Sys2Proof.Machine.execPcntSelWrite b n v s
  | .pcntFiltWrite b n v => Sys2Proof.Machine.execPcntFiltWrite b n v s
  | .pcntOvfClear b mask => Sys2Proof.Machine.execPcntOvfClear b mask s
  | .guhCmpSteppedClear mask => Sys2Proof.Machine.execGuhCmpSteppedClear mask s
  | .isoCtrlWrite v => Sys2Proof.Machine.execIsoCtrlWrite v s
  | .registerWrite off width v => Sys2Proof.Machine.execRegisterWrite off width v s
  | .resetNLow => Sys2Proof.Machine.execResetNLow s
  | .resetRelease straps aonValid flashOk pairs => Sys2Proof.Machine.execResetRelease straps aonValid flashOk pairs s
  | .pllsLockedAtStart => Sys2Proof.Machine.execPllsLockedAtStart s
  | .calibrationLoad copy0 copy1 ids overlayBad => Sys2Proof.Machine.execCalibrationLoad copy0 copy1 ids overlayBad s
  | .imageLoaded => Sys2Proof.Machine.execImageLoaded s
  | .scriptPacket => Sys2Proof.Machine.execScriptPacket s
  | .scriptDone => Sys2Proof.Machine.execScriptDone s
  | .bootOk => Sys2Proof.Machine.execBootOk s
  | .bootIncomplete => Sys2Proof.Machine.execBootIncomplete s
  | .supplyFalling => Sys2Proof.Machine.execSupplyFalling s
  | .supplyReset aonLost => Sys2Proof.Machine.execSupplyReset aonLost s
  | .perstNLow => Sys2Proof.Machine.execPerstNLow s
  | .perstNRise => Sys2Proof.Machine.execPerstNRise s
  | .pcieLinkDown => Sys2Proof.Machine.execPcieLinkDown s
  | .pcieLinkUp gen width => Sys2Proof.Machine.execPcieLinkUp gen width s
  | .jtagInstruction holds => Sys2Proof.Machine.execJtagInstruction holds s
  | .oscLost => Sys2Proof.Machine.execOscLost s
  | .oscReturn osc => Sys2Proof.Machine.execOscReturn osc s
  | .timePllUnlock pll => Sys2Proof.Machine.execTimePllUnlock pll s
  | .timePllRelockFail => Sys2Proof.Machine.execTimePllRelockFail s
  | .timePllBoth => Sys2Proof.Machine.execTimePllBoth s
  | .corePllUnlock => Sys2Proof.Machine.execCorePllUnlock s
  | .coreReturn => Sys2Proof.Machine.execCoreReturn s
  | .storePllUnlock => Sys2Proof.Machine.execStorePllUnlock s
  | .pciePllUnlock => Sys2Proof.Machine.execPciePllUnlock s
  | .storeTrained ok size => Sys2Proof.Machine.execStoreTrained ok size s
  | .storeRetrain ok => Sys2Proof.Machine.execStoreRetrain ok s
  | .auxDpllLost k => Sys2Proof.Machine.execAuxDpllLost k s
  | .quadPllUnlock q pll => Sys2Proof.Machine.execQuadPllUnlock q pll s
  | .failoverDone q meas => Sys2Proof.Machine.execFailoverDone q meas s
  | .failoverFilterEnd q => Sys2Proof.Machine.execFailoverFilterEnd q s
  | .pllRelockFail q => Sys2Proof.Machine.execPllRelockFail q s
  | .noServingPll q n => Sys2Proof.Machine.execNoServingPll q n s
  | .quadReady q => Sys2Proof.Machine.execQuadReady q s
  | .cdrLock l tx rx => Sys2Proof.Machine.execCdrLock l tx rx s
  | .adaptTimeout l => Sys2Proof.Machine.execAdaptTimeout l s
  | .adaptDone l sweep last => Sys2Proof.Machine.execAdaptDone l sweep last s
  | .fomRefresh l e => Sys2Proof.Machine.execFomRefresh l e s
  | .latencyChanged l rx m => Sys2Proof.Machine.execLatencyChanged l rx m s
  | .latencyTempUpdate q temp => Sys2Proof.Machine.execLatencyTempUpdate q temp s
  | .cdrLos l => Sys2Proof.Machine.execCdrLos l s
  | .spareTrainingDone l r => Sys2Proof.Machine.execSpareTrainingDone l r s
  | .spareComparePass l pass => Sys2Proof.Machine.execSpareComparePass l pass s
  | .sliceSwapped l m => Sys2Proof.Machine.execSliceSwapped l m s
  | .sliceAbort l cause => Sys2Proof.Machine.execSliceAbort l cause s
  | .txSegmentSwapped l => Sys2Proof.Machine.execTxSegmentSwapped l s
  | .difiviBlockReceived p comma region stamp => Sys2Proof.Machine.execDifiviBlockReceived p comma region stamp s
  | .difiviBlockTransmit p stamp => Sys2Proof.Machine.execDifiviBlockTransmit p stamp s
  | .trunkLinkDownFilter p => Sys2Proof.Machine.execTrunkLinkDownFilter p s
  | .signalDetected p => Sys2Proof.Machine.execSignalDetected p s
  | .lockTimeout p => Sys2Proof.Machine.execLockTimeout p s
  | .trainingDone p fom => Sys2Proof.Machine.execTrainingDone p fom s
  | .trainingRequestTimeout p => Sys2Proof.Machine.execTrainingRequestTimeout p s
  | .trunkTrained p => Sys2Proof.Machine.execTrunkTrained p s
  | .timeCheckPassed p => Sys2Proof.Machine.execTimeCheckPassed p s
  | .exchangeLoss p => Sys2Proof.Machine.execExchangeLoss p s
  | .trunkHoldoffExpired p => Sys2Proof.Machine.execTrunkHoldoffExpired p s
  | .exchangeWindowEnd p => Sys2Proof.Machine.execExchangeWindowEnd p s
  | .linkAdminDown p => Sys2Proof.Machine.execLinkAdminDown p s
  | .edgeLocked p abilities => Sys2Proof.Machine.execEdgeLocked p abilities s
  | .edgeHoldoffExpired p => Sys2Proof.Machine.execEdgeHoldoffExpired p s
  | .edgeLinkDownFilter p => Sys2Proof.Machine.execEdgeLinkDownFilter p s
  | .anFail p => Sys2Proof.Machine.execAnFail p s
  | .pfcFrameReceived p pfc enable quanta => Sys2Proof.Machine.execPfcFrameReceived p pfc enable quanta s
  | .pauseExpired p c => Sys2Proof.Machine.execPauseExpired p c s
  | .pfcSend p => Sys2Proof.Machine.execPfcSend p s
  | .pfcRefresh p => Sys2Proof.Machine.execPfcRefresh p s
  | .pfcStorm p c => Sys2Proof.Machine.execPfcStorm p c s
  | .ptpMessageReceived p m => Sys2Proof.Machine.execPtpMessageReceived p m s
  | .ptpEgressStamp p seqId stamp => Sys2Proof.Machine.execPtpEgressStamp p seqId stamp s
  | .ptpSyncSend p kind => Sys2Proof.Machine.execPtpSyncSend p kind s
  | .esmcPduSend p => Sys2Proof.Machine.execEsmcPduSend p s
  | .esmcEventPdu p => Sys2Proof.Machine.execEsmcEventPdu p s
  | .esmcPduReceived p ssm => Sys2Proof.Machine.execEsmcPduReceived p ssm s
  | .esmcTimeout p => Sys2Proof.Machine.execEsmcTimeout p s
  | .frameHeadIntake p f => Sys2Proof.Machine.execFrameHeadIntake p f s
  | .descriptorFetched ch => Sys2Proof.Machine.execDescriptorFetched ch s
  | .admissionWaitTimeout k => Sys2Proof.Machine.execAdmissionWaitTimeout k s
  | .admissionCellFree k => Sys2Proof.Machine.execAdmissionCellFree k s
  | .frameEndReceived p bytes how => Sys2Proof.Machine.execFrameEndReceived p bytes how s
  | .reservedCrossing p f => Sys2Proof.Machine.execReservedCrossing p f s
  | .egressSelect p => Sys2Proof.Machine.execEgressSelect p s
  | .frameTransmitEnd p stamp => Sys2Proof.Machine.execFrameTransmitEnd p stamp s
  | .recoveryReset ch => Sys2Proof.Machine.execRecoveryReset ch s
  | .fdbAge fid mac => Sys2Proof.Machine.execFdbAge fid mac s
  | .policerSweep => Sys2Proof.Machine.execPolicerSweep s
  | .comparatorFire k => Sys2Proof.Machine.execComparatorFire k s
  | .guhSample ref e => Sys2Proof.Machine.execGuhSample ref e s
  | .lockTimeElapsed => Sys2Proof.Machine.execLockTimeElapsed s
  | .unlockTimeElapsed => Sys2Proof.Machine.execUnlockTimeElapsed s
  | .switchSampleTimeout => Sys2Proof.Machine.execSwitchSampleTimeout s
  | .holdoverHour => Sys2Proof.Machine.execHoldoverHour s
  | .leapDone => Sys2Proof.Machine.execLeapDone s
  | .counterCheck agree => Sys2Proof.Machine.execCounterCheck agree s
  | .monitorRefit cand ns frac => Sys2Proof.Machine.execMonitorRefit cand ns frac s
  | .refEdge k stamp => Sys2Proof.Machine.execRefEdge k stamp s
  | .refLost k => Sys2Proof.Machine.execRefLost k s
  | .candidatePresenceChange cand present => Sys2Proof.Machine.execCandidatePresenceChange cand present s
  | .monitorFail cand => Sys2Proof.Machine.execMonitorFail cand s
  | .mooringSecond freq => Sys2Proof.Machine.execMooringSecond freq s
  | .mainLost => Sys2Proof.Machine.execMainLost s
  | .acquisitionEnd sel => Sys2Proof.Machine.execAcquisitionEnd sel s
  | .outStep o => Sys2Proof.Machine.execOutStep o s
  | .outRestarted o => Sys2Proof.Machine.execOutRestarted o s
  | .outAlignEdge o dist => Sys2Proof.Machine.execOutAlignEdge o dist s
  | .pulseEdge n => Sys2Proof.Machine.execPulseEdge n s
  | .frameOutputEdge g => Sys2Proof.Machine.execFrameOutputEdge g s
  | .dllSwapped o => Sys2Proof.Machine.execDllSwapped o s
  | .timePllSwapped => Sys2Proof.Machine.execTimePllSwapped s
  | .ticEdge ch falling l => Sys2Proof.Machine.execTicEdge ch falling l s
  | .calPair n0 c1 c2 => Sys2Proof.Machine.execCalPair n0 c1 c2 s
  | .calStale ch => Sys2Proof.Machine.execCalStale ch s
  | .intervalTimeout => Sys2Proof.Machine.execIntervalTimeout s
  | .freqDone ch => Sys2Proof.Machine.execFreqDone ch s
  | .encoderEdge e a b l => Sys2Proof.Machine.execEncoderEdge e a b l s
  | .encZ e falling l => Sys2Proof.Machine.execEncZ e falling l s
  | .monitorMark src edges l => Sys2Proof.Machine.execMonitorMark src edges l s
  | .interpSwapped => Sys2Proof.Machine.execInterpSwapped s
  | .interpMismatch => Sys2Proof.Machine.execInterpMismatch s
  | .segmentInForce sh => Sys2Proof.Machine.execSegmentInForce sh s
  | .segLate sh => Sys2Proof.Machine.execSegLate sh s
  | .coasting sh => Sys2Proof.Machine.execCoasting sh s
  | .claimTimeout sh => Sys2Proof.Machine.execClaimTimeout sh s
  | .captureFit sh => Sys2Proof.Machine.execCaptureFit sh s
  | .planConversion slot => Sys2Proof.Machine.execPlanConversion slot s
  | .replanDone sh => Sys2Proof.Machine.execReplanDone sh s
  | .sectorFired n0 => Sys2Proof.Machine.execSectorFired n0 s
  | .eventMissed slot => Sys2Proof.Machine.execEventMissed slot s
  | .gearChanged sh => Sys2Proof.Machine.execGearChanged sh s
  | .planOverload on => Sys2Proof.Machine.execPlanOverload on s
  | .captureRecordWrite n0 => Sys2Proof.Machine.execCaptureRecordWrite n0 s
  | .gateBoundary p => Sys2Proof.Machine.execGateBoundary p s
  | .angleBoundaryConverted p => Sys2Proof.Machine.execAngleBoundaryConverted p s
  | .launch slot stamp => Sys2Proof.Machine.execLaunch slot stamp s
  | .launchMissed slot => Sys2Proof.Machine.execLaunchMissed slot s
  | .hrCommit slot => Sys2Proof.Machine.execHrCommit slot s
  | .hrRepeat slot stamp => Sys2Proof.Machine.execHrRepeat slot stamp s
  | .escalation p q => Sys2Proof.Machine.execEscalation p q s
  | .wdDemote p q => Sys2Proof.Machine.execWdDemote p q s
  | .classRestored c => Sys2Proof.Machine.execClassRestored c s
  | .portFlush p => Sys2Proof.Machine.execPortFlush p s
  | .flushDone p => Sys2Proof.Machine.execFlushDone p s
  | .bankDrained => Sys2Proof.Machine.execBankDrained s
  | .bankDrainAbort => Sys2Proof.Machine.execBankDrainAbort s
  | .bankScrub bank corrected => Sys2Proof.Machine.execBankScrub bank corrected s
  | .headerCapture k => Sys2Proof.Machine.execHeaderCapture k s
  | .pairHbSend => Sys2Proof.Machine.execPairHbSend s
  | .pairHbReceived msg => Sys2Proof.Machine.execPairHbReceived msg s
  | .pathSilent trunk => Sys2Proof.Machine.execPathSilent trunk s
  | .listeningTimeout => Sys2Proof.Machine.execListeningTimeout s
  | .interlockTest actIn => Sys2Proof.Machine.execInterlockTest actIn s
  | .interlockRetry => Sys2Proof.Machine.execInterlockRetry s
  | .switchoverRelease n => Sys2Proof.Machine.execSwitchoverRelease n s
  | .switchTimeout => Sys2Proof.Machine.execSwitchTimeout s
  | .switchoverDone => Sys2Proof.Machine.execSwitchoverDone s
  | .takeoverDone => Sys2Proof.Machine.execTakeoverDone s
  | .chipReset => Sys2Proof.Machine.execChipReset s
  | .isophaseToggle => Sys2Proof.Machine.execIsophaseToggle s
  | .keeperWatchdogExpiry => Sys2Proof.Machine.execKeeperWatchdogExpiry s
  | .lockstepMismatch => Sys2Proof.Machine.execLockstepMismatch s
  | .governorGrant => Sys2Proof.Machine.execGovernorGrant s
  | .governorRelease id => Sys2Proof.Machine.execGovernorRelease id s
  | .grantStarved => Sys2Proof.Machine.execGrantStarved s
  | .adaptRequestRetry l => Sys2Proof.Machine.execAdaptRequestRetry l s
  | .bistSlice b pass r => Sys2Proof.Machine.execBistSlice b pass r s
  | .bistDone b => Sys2Proof.Machine.execBistDone b s
  | .rotationStep => Sys2Proof.Machine.execRotationStep s
  | .wearMeasurement site ppm => Sys2Proof.Machine.execWearMeasurement site ppm s
  | .tjSample temp => Sys2Proof.Machine.execTjSample temp s
  | .fomDailyFit l slice mean low => Sys2Proof.Machine.execFomDailyFit l slice mean low s
  | .summaryWrite ok => Sys2Proof.Machine.execSummaryWrite ok s
  | .logAppend ok => Sys2Proof.Machine.execLogAppend ok s
  | .traceRecord k => Sys2Proof.Machine.execTraceRecord k s
  | .timePllRelocked pll => Sys2Proof.Machine.execTimePllRelocked pll s
  | .quadPllRelocked q pll => Sys2Proof.Machine.execQuadPllRelocked q pll s
  | .wordLockLost x => Sys2Proof.Machine.execWordLockLost x s
  | .blockReachesRun b => Sys2Proof.Machine.execBlockReachesRun b s
  | .evtModExpiry b => Sys2Proof.Machine.execEvtModExpiry b s
  | .auxUnlock k => Sys2Proof.Machine.execAuxUnlock k s
  | .dllFail o => Sys2Proof.Machine.execDllFail o s
  | .trendRecordWrite => Sys2Proof.Machine.execTrendRecordWrite s

end Sys2Proof.Machine
end

