-- ==== Sys2Proof/Machine/Step.lean ====
section
/-! DEFINITION. One step of the block: the command at the front of the queue, or a time tick while none waits. -/

namespace Sys2Proof.Machine

/-- Takes the oldest waiting command and executes it on the rest of the queue; with none waiting one time tick passes
(DESIGN CHOICE, log entry 1). -/
def step (s : State) : Host.Outcome State Fault Refusal :=
  match s.pending with
  | [] => .next (finish (tick s))
  | c :: rest => exec c { s with pending := rest }

/-- The command that a table word spells, at the front of the queue.  The table gives no row any bits, so that no word
spells one and nothing is added. -/
def State.withFetchWord (s : State) (nbits w : Nat) : State :=
  match Sys2Proof.decodeTableWord nbits w with
  | some c => { s with pending := c :: s.pending }
  | none => s

end Sys2Proof.Machine
end

