-- ==== Sys2Proof/Safety.lean ====
section
/-! DEFINITION. What counts as a safe run, in the terms the claims use. -/

namespace Sys2Proof.Machine

/-- The block goes on: the step answers a next state. -/
def GoesOn (o : Host.Outcome State Fault Refusal) : Prop := ∃ t, o = .next t

/-- READY_0 and READY_1 are as last reported: no change of a ready bit is owed its event (R24). -/
def ReadyTold (s : State) : Prop := s.told = ready0 s ∧ s.told1 = ready1 s

/-- No ready bit is set whose prerequisites of Table AR-7 are not all set; CORE also needs COREPLL or TIMEPLL (R23). -/
def PrereqsHold (w : Nat) : Prop :=
  (∀ n, n < 20 → w.testBit n = true → ∀ k ∈ prereqs n, w.testBit k = true) ∧
    (w.testBit 14 = true → w.testBit 6 = true ∨ w.testBit 5 = true)

/-- An Efram command that the Keeper takes: it passes steps 8 to 11 of Table EF-4 (R321, R314, R343, R372). -/
def Taken (op : Nat) (h : CmdHdr) (s : State) : Prop :=
  keeperUp s = true ∧ (s.boot.phase == .standbyLight && isRemote h.origin) = false ∧ stepRefusal op h s = none ∧
    roleMatches h s = true

/-- `t` is what a row leaves, before what every command ends with (`finish`). -/
def Leaves (i : Instr) (s t : State) : Prop := exec i s = .next (finish t)

/-- A command answers `st` with result words `w` after its effect has left `t`. -/
def Answers (i : Instr) (h : CmdHdr) (op st : Nat) (w : List Word) (s t : State) : Prop :=
  exec i s = .next (finish (sendReply h op st w t))

/-- A list of parameter entries that a command may write: every entry passes, MON_WINDOW stays
long enough for a PPS input and the thresholds of GUH stay ordered (R134, R139, R337, R338). -/
def EntriesPass (how : WriteHow) (es : List (Nat × Word64)) (s : State) : Prop :=
  (∀ e ∈ es, entryRefused how s e = none) ∧ monRefused how s es = none ∧ jumpRefused s es = none

/-- The entries that a mask and its values spell for unit `i` of block `b` from Number `base` on (R346). -/
def maskEntries (b i base mask : Nat) (vals : List Word64) : List (Nat × Word64) :=
  (maskBits mask).zipWith (fun k v => (pid b i (base + k), v)) vals

end Sys2Proof.Machine
end

