-- ==== Sys2Proof/Machine/Operands.lean ====
section
/-! DEFINITION. The operands that many rows have in common: the header of an Efram command, and the port, lane, quad or
block a row is about. -/

namespace Sys2Proof.Machine

/-- The header of an Efram command (Table EF-1). -/
def hdrOf : Instr → Option CmdHdr
  | .ident h => some h
  | .nop h => some h
  | .paramGet h _ _ => some h
  | .paramSet h _ => some h
  | .paramStage h _ => some h
  | .commit h _ => some h
  | .commitCancel h _ _ => some h
  | .blockStop h _ => some h
  | .blockStart h _ => some h
  | .blockReset h _ => some h
  | .powerBudget h => some h
  | .regRead h _ => some h
  | .regWrite h _ => some h
  | .eventSubscribe h _ => some h
  | .keySet h _ _ _ => some h
  | .scriptWait h _ _ _ _ _ => some h
  | .bootStatus h => some h
  | .imageWrite h _ _ _ => some h
  | .imageSelect h _ => some h
  | .scriptWrite h _ _ => some h
  | .restart h => some h
  | .laneAdapt h _ _ => some h
  | .laneRead h _ _ => some h
  | .ptpPortRead h _ => some h
  | .tunnelSend h _ _ => some h
  | .tunnelRead h _ _ => some h
  | .tableWrite h _ _ => some h
  | .tableRead h _ _ _ => some h
  | .tableLoad h _ _ _ => some h
  | .channelAdd h _ _ => some h
  | .channelModify h _ _ _ _ => some h
  | .channelRemove h _ => some h
  | .channelPin h _ _ => some h
  | .channelRead h _ => some h
  | .crossingBook h _ _ _ _ _ => some h
  | .crossingRelease h _ => some h
  | .flushRead h _ _ => some h
  | .gclLoad h _ => some h
  | .slotWrite h _ _ => some h
  | .slotConfig h _ => some h
  | .slotRead h _ => some h
  | .policerSet h _ _ _ _ _ _ => some h
  | .policerRead h _ => some h
  | .timeSet h _ _ _ => some h
  | .timeAdjust h _ _ _ => some h
  | .timeAcceptJump h => some h
  | .asymSet h _ _ => some h
  | .timeRead h => some h
  | .refConfig h _ _ _ => some h
  | .refForce h _ _ => some h
  | .outConfig h _ _ _ => some h
  | .outPhaseStep h _ _ => some h
  | .ticArm h _ => some h
  | .ticRead h _ _ => some h
  | .shaftDefine h _ _ _ => some h
  | .segmentPush h _ _ => some h
  | .gearSet h _ => some h
  | .sectorAdd h _ => some h
  | .sectorRemove h _ => some h
  | .sectorRead h _ => some h
  | .roleSet h _ _ _ _ => some h
  | .switchover h _ => some h
  | .faultRead h _ => some h
  | .faultClear h _ _ _ _ => some h
  | .faultReactSet h _ _ _ => some h
  | .aliveResume h => some h
  | .faultInject h _ _ => some h
  | .bistRun h _ _ => some h
  | .spareSwap h _ _ => some h
  | .serviceRecordRead h _ _ _ => some h
  | .testUnlock h => some h
  | .counterConfig h _ _ _ _ => some h
  | .counterRead h _ => some h
  | .traceConfig h _ _ => some h
  | .traceRead h _ => some h
  | .captureRead h _ => some h
  | _ => none

/-- The port a row is about. -/
def portOperand : Instr → Option Nat
  | .ptpPortRead _ p => some p
  | .asymSet _ p _ => some p
  | .inbandCommandFrame p _ _ _ _ => some p
  | .tunnelPacketReceived p _ _ => some p
  | .difiviBlockReceived p _ _ _ => some p
  | .difiviBlockTransmit p _ => some p
  | .trunkLinkDownFilter p => some p
  | .signalDetected p => some p
  | .lockTimeout p => some p
  | .trainingDone p _ => some p
  | .trainingRequestTimeout p => some p
  | .trunkTrained p => some p
  | .timeCheckPassed p => some p
  | .exchangeLoss p => some p
  | .trunkHoldoffExpired p => some p
  | .exchangeWindowEnd p => some p
  | .linkAdminDown p => some p
  | .edgeLocked p _ => some p
  | .edgeHoldoffExpired p => some p
  | .edgeLinkDownFilter p => some p
  | .anFail p => some p
  | .pfcFrameReceived p _ _ _ => some p
  | .pauseExpired p _ => some p
  | .pfcSend p => some p
  | .pfcRefresh p => some p
  | .pfcStorm p _ => some p
  | .ptpMessageReceived p _ => some p
  | .ptpEgressStamp p _ _ => some p
  | .ptpSyncSend p _ => some p
  | .esmcPduSend p => some p
  | .esmcEventPdu p => some p
  | .esmcPduReceived p _ => some p
  | .esmcTimeout p => some p
  | .frameHeadIntake p _ => some p
  | .frameEndReceived p _ _ => some p
  | .reservedCrossing p _ => some p
  | .egressSelect p => some p
  | .frameTransmitEnd p _ => some p
  | .gateBoundary p => some p
  | .angleBoundaryConverted p => some p
  | .escalation p _ => some p
  | .wdDemote p _ => some p
  | .portFlush p => some p
  | .flushDone p => some p
  | .wordLockLost ⟨p, _⟩ => some p
  | _ => none

/-- The lane a row is about. -/
def laneOperand : Instr → Option Nat
  | .cdrLock l _ _ => some l
  | .adaptTimeout l => some l
  | .adaptDone l _ _ => some l
  | .fomRefresh l _ => some l
  | .latencyChanged l _ _ => some l
  | .cdrLos l => some l
  | .spareTrainingDone l _ => some l
  | .spareComparePass l _ => some l
  | .sliceSwapped l _ => some l
  | .sliceAbort l _ => some l
  | .txSegmentSwapped l => some l
  | .adaptRequestRetry l => some l
  | .fomDailyFit l _ _ _ => some l
  | _ => none

/-- The quad a row is about. -/
def quadOperand : Instr → Option Nat
  | .laneAdapt _ q _ => some q
  | .laneRead _ q _ => some q
  | .quadPllUnlock q _ => some q
  | .failoverDone q _ => some q
  | .failoverFilterEnd q => some q
  | .pllRelockFail q => some q
  | .noServingPll q _ => some q
  | .quadReady q => some q
  | .latencyTempUpdate q _ => some q
  | .quadPllRelocked q _ => some q
  | _ => none

/-- The block a row is about (Table AR-2). -/
def blockOperand : Instr → Option Nat
  | .blockStop _ b => some b
  | .blockStart _ b => some b
  | .blockReset _ b => some b
  | .faultRead _ b => some b
  | .faultClear _ b _ _ _ => some b
  | .faultReactSet _ b _ _ => some b
  | .faultInject _ b _ => some b
  | .bistRun _ b _ => some b
  | .spareSwap _ b _ => some b
  | .counterConfig _ b _ _ _ => some b
  | .fltStatusClear b _ => some b
  | .intStatusClear b _ => some b
  | .fltOvfClear b => some b
  | .intEnableWrite b _ => some b
  | .pcntSelWrite b _ _ => some b
  | .pcntFiltWrite b _ _ => some b
  | .pcntOvfClear b _ => some b
  | .bistSlice b _ _ => some b
  | .bistDone b => some b
  | .blockReachesRun b => some b
  | .evtModExpiry b => some b
  | _ => none

end Sys2Proof.Machine
end

