-- ==== Sys2Proof/WellFormed.lean ====
section
/-! DEFINITION. Which terms of `Instr` are commands that can reach the device: header fields in the widths of Table EF-1,
ports, lanes and quads that exist (Table AR-2), and a block number that its field can carry.
No meaning assumes this: every row has an effect, or none, on every operand. -/

namespace Sys2Proof

/-- An origin in the ranges of Tables EF-5 and EF-8 and R327. -/
def Origin.wf : Origin → Bool
  | .pcie tag addr size => decide (tag < 2 ^ 32) && decide (addr < 2 ^ 64) && decide (size ≤ 65536)
  | .inband port mac vlan => decide (port < 64) && decide (mac < 2 ^ 48) && decide (vlan < 2 ^ 16)
  | .tunnel port env => decide (port < 64) && env.length == 12
  | .spi => true
  | .script => true

/-- A header in the widths of Table EF-1. -/
def CmdHdr.wf (h : CmdHdr) : Bool :=
  h.origin.wf && decide (h.seq < 2 ^ 16) && decide (h.trole < 3) && decide (h.epoch < 2 ^ 16) && decide (h.cls < 3) &&
    (match h.key with
     | none => true
     | some (k, r) => decide (k < 8) && decide (r < 2 ^ 64))

/-- `v` is absent or below `n`. -/
def belowOpt (n : Nat) : Option Nat → Bool
  | none => true
  | some v => decide (v < n)

/-- A command that can reach the device. -/
def Instr.wf (i : Instr) : Bool :=
  ((Machine.hdrOf i).map CmdHdr.wf).getD true && belowOpt 64 (Machine.portOperand i) && belowOpt 64 (Machine.laneOperand i)
    && belowOpt 16 (Machine.quadOperand i) && belowOpt (2 ^ 64) (Machine.blockOperand i)

end Sys2Proof
end

