-- ==== Sys2Proof/Certificates/Slice0/Obligations.lean ====
section
/-! DEFINITION. The statements for the provers: one group of rows or one rule of the spec each, with the answers, the
effects and what is left unchanged. `Leaves` and `Answers` (Safety.lean) say that a row answers a next state. -/

open Sys2Proof Sys2Proof.Machine

/-- IDENT and NOP (Tables EF-9 and EF-16): the answer is all they do. -/
def Obligations.IdentAndNop : Prop :=
  ∀ (h : CmdHdr) (s : State),
    (Taken 0x0001 h s → exec (.ident h) s = .next (finish (sendReply h 0x0001 stOk
      ([0x9680FB21] ++ w64 s.boot.serial ++ [w32 s.boot.fwVersion] ++ w64 ((s.pair.state.map PairRole.code).getD 0)
        ++ w64 s.pair.epoch) s))) ∧
    (Taken 0x0002 h s → exec (.nop h) s = .next (finish (sendReply h 0x0002 stOk [] s)))

/-- PARAM_GET (R337): per identifier its word and its value words; a refusal names the entry (R319). -/
def Obligations.ParamGetAnswers : Prop :=
  ∀ (h : CmdHdr) (shadow : Bool) (ids : List Nat) (s : State), Taken 0x0003 h s →
    (1 ≤ ids.length → ids.length ≤ 64 → (∀ id ∈ ids, ∃ r, findRow id = some r) →
      exec (.paramGet h shadow ids) s = .next (finish (sendReply h 0x0003 stOk
        (ids.flatMap (fun id => match findRow id with
          | some r =>
            (match if shadow then s.staged.find id else none with
             | some v => w32 (id + 2 ^ 31) :: w64i v
             | none => w32 id :: w64i (paramValue s r (idBlock id) (idUnit id) (idNum id)))
          | none => [])) s))) ∧
    (∀ k id, 1 ≤ ids.length → ids.length ≤ 64 → ids[k]? = some id → findRow id = none →
      (∀ j < k, ∀ i, ids[j]? = some i → findRow i ≠ none) →
      exec (.paramGet h shadow ids) s = .next (finish (sendReply h 0x0003 stBadParamId [w32 k] s))) ∧
    (ids.length = 0 ∨ 64 < ids.length →
      exec (.paramGet h shadow ids) s = .next (finish (sendReply h 0x0003 stOutOfRange [] s)))

/-- All entries are checked before any is written; when one is refused none is written (R337, R338). -/
def Obligations.ParamWriteAllOrNone : Prop :=
  ∀ (h : CmdHdr) (es : List ParamEntry) (s : State),
    (Taken 0x0004 h s →
      (1 ≤ es.length → es.length ≤ 64 → (∀ e ∈ es, entryRefused .set s e = none) → monRefused .set s es = none →
        jumpRefused s es = none →
        exec (.paramSet h es) s = .next (finish (sendReply h 0x0004 stOk [] (es.foldl writeEntryOf s)))) ∧
      (∀ k e st, 1 ≤ es.length → es.length ≤ 64 → es[k]? = some e → entryRefused .set s e = some st →
        (∀ j < k, ∀ x, es[j]? = some x → entryRefused .set s x = none) →
        exec (.paramSet h es) s = .next (finish (sendReply h 0x0004 st [w32 k] s))) ∧
      (∀ k, 1 ≤ es.length → es.length ≤ 64 → (∀ e ∈ es, entryRefused .set s e = none) →
        monRefused .set s es = some k ∨ (monRefused .set s es = none ∧ jumpRefused s es = some k) →
        exec (.paramSet h es) s = .next (finish (sendReply h 0x0004 stOutOfRange [w32 k] s))) ∧
      (es.length = 0 ∨ 64 < es.length →
        exec (.paramSet h es) s = .next (finish (sendReply h 0x0004 stOutOfRange [] s)))) ∧
    (Taken 0x0005 h s →
      (1 ≤ es.length → es.length ≤ 64 → (∀ e ∈ es, entryRefused .stage s e = none) → monRefused .stage s es = none →
        jumpRefused s es = none →
        exec (.paramStage h es) s = .next (finish (sendReply h 0x0005 stOk [] (es.foldl writeEntryOf s)))) ∧
      (∀ k e st, 1 ≤ es.length → es.length ≤ 64 → es[k]? = some e → entryRefused .stage s e = some st →
        (∀ j < k, ∀ x, es[j]? = some x → entryRefused .stage s x = none) →
        exec (.paramStage h es) s = .next (finish (sendReply h 0x0005 st [w32 k] s))) ∧
      (∀ k, 1 ≤ es.length → es.length ≤ 64 → (∀ e ∈ es, entryRefused .stage s e = none) →
        monRefused .stage s es = some k ∨ (monRefused .stage s es = none ∧ jumpRefused s es = some k) →
        exec (.paramStage h es) s = .next (finish (sendReply h 0x0005 stOutOfRange [w32 k] s))) ∧
      (es.length = 0 ∨ 64 < es.length →
        exec (.paramStage h es) s = .next (finish (sendReply h 0x0005 stOutOfRange [] s))))

/-- Commands that write the parameters a mask names, each by its class (R338, R346). -/
def Obligations.MaskedConfigWrites : Prop :=
  ∀ (h : CmdHdr) (n mask : Nat) (vals : List Word64) (s : State),
    (Taken 0x0901 h s → candExists n = true →
      ((maskBits mask).length = vals.length → EntriesPass .byClass (maskEntries bREFS n 1 mask vals) s →
        Answers (.refConfig h n mask vals) h 0x0901 stOk [] s ((maskEntries bREFS n 1 mask vals).foldl writeEntryOf s)) ∧
      ((maskBits mask).length ≠ vals.length → Answers (.refConfig h n mask vals) h 0x0901 stBadLength [] s s)) ∧
    (Taken 0x0901 h s → candExists n = false → Answers (.refConfig h n mask vals) h 0x0901 stBadParamId [] s s) ∧
    (Taken 0x0A01 h s → n < 16 → (maskBits mask).length = vals.length →
      EntriesPass .byClass (maskEntries bCSYN n 0x100 mask vals) s →
      Answers (.outConfig h n mask vals) h 0x0A01 stOk [] s ((maskEntries bCSYN n 0x100 mask vals).foldl writeEntryOf s)) ∧
    (Taken 0x0A01 h s → 0x20 ≤ n → n < 0x38 → (maskBits mask).length = vals.length →
      EntriesPass .byClass (maskEntries bCSYN n 0x200 mask vals) s →
      Answers (.outConfig h n mask vals) h 0x0A01 stOk [] s ((maskEntries bCSYN n 0x200 mask vals).foldl writeEntryOf s)) ∧
    (Taken 0x0A01 h s → (16 ≤ n ∧ n < 0x20) ∨ 0x38 ≤ n → Answers (.outConfig h n mask vals) h 0x0A01 stBadParamId [] s s) ∧
    (Taken 0x0C01 h s → n < 64 → (maskBits mask).length = vals.length →
      EntriesPass .byClass (maskEntries bSHAFT n 1 mask vals) s →
      Answers (.shaftDefine h n mask vals) h 0x0C01 stOk [] s ((maskEntries bSHAFT n 1 mask vals).foldl writeEntryOf s)) ∧
    (Taken 0x1003 h s → (maskBits mask).length = vals.length →
      EntriesPass .byClass (maskEntries bTRACE 0 1 mask vals) s →
      Answers (.traceConfig h mask vals) h 0x1003 stOk [] s ((maskEntries bTRACE 0 1 mask vals).foldl writeEntryOf s)) ∧
    (Taken 0x0804 h s → n < 64 → ∀ a b c : Word64,
      (EntriesPass .byClass [(pid (bP n) 0 Par.epPtpAsym, a)] s →
        Answers (.asymSet h n [a]) h 0x0804 stOk [] s ([(pid (bP n) 0 Par.epPtpAsym, a)].foldl writeEntryOf s)) ∧
      (EntriesPass .byClass
          [(pid (bP n) 0 Par.gxAsymFixed, a), (pid (bP n) 0 Par.gxAsymEps, b), (pid (bP n) 0 Par.gxExtDelay, c)] s →
        Answers (.asymSet h n [a, b, c]) h 0x0804 stOk [] s
          ([(pid (bP n) 0 Par.gxAsymFixed, a), (pid (bP n) 0 Par.gxAsymEps, b), (pid (bP n) 0 Par.gxExtDelay, c)].foldl
            writeEntryOf s)) ∧
      Answers (.asymSet h n [a, b]) h 0x0804 stBadLength [] s s)

/-- COMMIT and COMMIT_CANCEL (R339, R340).  The place of UNTIMED in the cause word is the model's (log entry 24). -/
def Obligations.CommitRules : Prop :=
  ∀ (h : CmdHdr) (a : CommitArgs) (s : State),
    (Taken 0x0006 h s → (∀ b < nBlocks, a.mask.testBit b = true → blkStopped s b = false) → s.keep.commit = none →
      (firstFailing a.mask s = none → a.when_ = 0 → rGuhRun s = true →
        Answers (.commit h a) h 0x0006 stOk [] s
          (report bKEEP 0x03 (commitWords 0 a.mask (rollNs (passTo (onGrid ((units s : Int) + 1)) s)) 0)
            (applyBlocks a.mask (passTo (onGrid ((units s : Int) + 1)) s)))) ∧
      (firstFailing a.mask s = none → a.when_ = 0 → rGuhRun s = false →
        Answers (.commit h a) h 0x0006 stOk [] s
          (report bKEEP 0x03 (commitWords 0 a.mask 0 untimed) (applyBlocks a.mask s))) ∧
      (firstFailing a.mask s = none → a.when_ = 1 → rGuhRun s = true → 0 < nsAhead s a.target →
        nsAhead s a.target ≤ 2000000000 →
        Answers (.commit h a) h 0x0006 stAccepted [] s (accept 0x0006 0 h (arm 60 a.target
          { s with keep := { s.keep with commit := some ⟨h, 1, a.dir, a.shaft, a.mask, a.target, true⟩ } }))) ∧
      (firstFailing a.mask s = none → a.when_ = 2 → a.dir ≤ 1 → rShaft s = true → shaftRunning s a.shaft = true →
        Answers (.commit h a) h 0x0006 stAccepted [] s (accept 0x0006 0 h (modSh
          (fun b => { b with lanes := b.lanes.set 0 (cursorAt s a.shaft ((units s : Int) + 1)) })
          { s with keep := { s.keep with commit := some ⟨h, 2, a.dir, a.shaft, a.mask, a.target, false⟩ } }))) ∧
      (∀ b st, firstFailing a.mask s = some (b, st) → a.when_ = 0 → Answers (.commit h a) h 0x0006 st [w32 b] s s)) ∧
    (Taken 0x0006 h s → ∀ b < nBlocks, a.mask.testBit b = true → blkStopped s b = true →
      (∀ c < b, a.mask.testBit c = true → blkStopped s c = false) →
      Answers (.commit h a) h 0x0006 stNotReady [w32 b] s s) ∧
    (Taken 0x0006 h s → (∀ b < nBlocks, a.mask.testBit b = true → blkStopped s b = false) → a.when_ = 0 →
      s.keep.commit ≠ none → Answers (.commit h a) h 0x0006 stBusy [] s s) ∧
    (Taken 0x0006 h s → (∀ b < nBlocks, a.mask.testBit b = true → blkStopped s b = false) → a.when_ = 1 →
      (rGuhRun s = false → Answers (.commit h a) h 0x0006 stNotReady [] s s) ∧
      (rGuhRun s = true → nsAhead s a.target ≤ 0 ∨ 2000000000 < nsAhead s a.target →
        Answers (.commit h a) h 0x0006 stOutOfRange [] s s)) ∧
    (Taken 0x0006 h s → (∀ b < nBlocks, a.mask.testBit b = true → blkStopped s b = false) → a.when_ = 2 →
      (rShaft s = false ∨ shaftRunning s a.shaft = false → Answers (.commit h a) h 0x0006 stNotReady [] s s) ∧
      (rShaft s = true → shaftRunning s a.shaft = true → 1 < a.dir →
        Answers (.commit h a) h 0x0006 stOutOfRange [] s s)) ∧
    (Taken 0x0007 h s → ∀ mask, s.keep.commit = none →
      Answers (.commitCancel h false mask) h 0x0007 stOk [] s s ∧
      (mask.testBit bSCHED = false → mask.testBit bLKP = false →
        Answers (.commitCancel h true mask) h 0x0007 stOk [] s
          { s with staged := s.staged.filter (fun e => !mask.testBit (e.1 / 2 ^ 24)) })) ∧
    (Taken 0x0007 h s → ∀ mask c, s.keep.commit = some c →
      Answers (.commitCancel h false mask) h 0x0007 stOk [] s
        (completeWith 0x0006 0 bKEEP 0x03 (commitWords 1 c.mask (rollNs s) 1) stNotReady (dropTargets commitSlot
          { s with keep := { s.keep with commit := none }, guh := { s.guh with cmps := s.guh.cmps.del 60 } })))

/-- BLOCK_STOP, BLOCK_START and BLOCK_RESET (R340, R341); a start of a block that is not stopped is log entry 25. -/
def Obligations.BlockCommandRules : Prop :=
  ∀ (h : CmdHdr) (b : Nat) (s : State),
    (Taken 0x0008 h s → b < nBlocks →
      (commitNames s b = false → (hdr s b).state ≠ .off →
        Answers (.blockStop h b) h 0x0008 stOk [] s
          { modHdr b (fun x => { x with state := .off }) s with halts := s.halts ++ [b] }) ∧
      (commitNames s b = false → (hdr s b).state = .off → Answers (.blockStop h b) h 0x0008 stOk [] s s) ∧
      (commitNames s b = true → Answers (.blockStop h b) h 0x0008 stBusy [] s s)) ∧
    (Taken 0x0009 h s → b < nBlocks →
      (blkStopped s b = true → startCheck s b = none → isQuadB b = false →
        Answers (.blockStart h b) h 0x0009 stAccepted [] s
          (accept 0x0009 b h (applyBlocks (2 ^ b) (modHdr b (fun x => { x with state := .init }) s)))) ∧
      (blkStopped s b = true → startCheck s b = none → isQuadB b = true →
        Answers (.blockStart h b) h 0x0009 stAccepted [] s
          (accept 0x0009 b h (startQuad (b - 0x10) (writeStaged (2 ^ b) (modHdr b (fun x => { x with state := .init }) s))))) ∧
      (∀ st, blkStopped s b = true → startCheck s b = some st → Answers (.blockStart h b) h 0x0009 st [w32 b] s s) ∧
      (blkStopped s b = false → Answers (.blockStart h b) h 0x0009 stOk [] s s)) ∧
    (Taken 0x000A h s → b < nBlocks →
      (commitNames s b = false → blkStopped s b = false →
        Answers (.blockReset h b) h 0x000A stAccepted [] s (accept 0x000A b h
          { modHdr b (fun x => { x with state := .init }) (resetParams b (dropStaged b s)) with halts := s.halts ++ [b] })) ∧
      (commitNames s b = false → blkStopped s b = true →
        Answers (.blockReset h b) h 0x000A stOk [] s (wipeBlock b (resetParams b (dropStaged b s)))) ∧
      (commitNames s b = true → Answers (.blockReset h b) h 0x000A stBusy [] s s)) ∧
    (nBlocks ≤ b →
      (Taken 0x0008 h s → Answers (.blockStop h b) h 0x0008 stBadParamId [] s s) ∧
      (Taken 0x0009 h s → Answers (.blockStart h b) h 0x0009 stBadParamId [] s s) ∧
      (Taken 0x000A h s → Answers (.blockReset h b) h 0x000A stBadParamId [] s s))

/-- REG_READ, REG_WRITE, POWER_BUDGET and BOOT_STATUS (Tables EF-9 and EF-16, R346, R348, R392). -/
def Obligations.RegisterAndStatusCommands : Prop :=
  ∀ (h : CmdHdr) (offs : List Nat) (ps : List (Nat × Word)) (s : State),
    (Taken 0x000C h s →
      (offs ≠ [] → offs.length ≤ 64 →
        Answers (.regRead h offs) h 0x000C stOk (readRegs offs s).1 s (readRegs offs s).2) ∧
      (∀ o, Answers (.regRead h [o]) h 0x000C stOk [w32 (regRead .keeper o 32 s).1] s (regRead .keeper o 32 s).2) ∧
      (64 < offs.length → Answers (.regRead h offs) h 0x000C stOutOfRange [] s s)) ∧
    (Taken 0x000D h s →
      (ps ≠ [] → ps.length ≤ 64 →
        Answers (.regWrite h ps) h 0x000D stOk [] s (ps.foldl (fun t e => regWrite e.1 32 e.2.toNat t) s)) ∧
      (64 < ps.length → Answers (.regWrite h ps) h 0x000D stOutOfRange [] s s)) ∧
    (Taken 0x000B h s →
      Answers (.powerBudget h) h 0x000B stOk
        ([w32 (parN s bHLTH 0 Par.hlGovCoreHeadroom * 65536 + coreInUse s),
          w32 (parN s bHLTH 0 Par.hlGovTimeHeadroom * 65536 + timeInUse s),
          w32 (min s.hlth.gov.queue.length 255 * 2 ^ 24 + min s.hlth.gov.grants.length 255 * 2 ^ 16 + s.hlth.gov.starves)]
          ++ s.hlth.gov.grants.map (govWord true) ++ s.hlth.gov.queue.map (govWord false)) s s) ∧
    (Taken 0x0101 h s →
      Answers (.bootStatus h) h 0x0101 stOk
        [w32 (bootStatus s), w32 (bootFlash s), w32 (min s.boot.tKeep 0xFFFF * 2 ^ 16 + min s.boot.tBootOk 0xFFFF),
          w32 s.boot.scriptId] s s)

/-- Keys and subscriptions (R329, R330, R332). -/
def Obligations.KeysAndSubscriptions : Prop :=
  ∀ (h : CmdHdr) (k perm key : Nat) (a : SubArgs) (i : Nat) (s : State),
    (Taken 0x000F h s →
      (k ≤ 7 → perm ≤ 2 → Answers (.keySet h k perm key) h 0x000F stOk [] s
        { s with
          keep := { s.keep with
            keys := s.keep.keys.set k { (keySlot s k) with perm := perm, key := if perm = 0 then 0 else key } }
          aon := { s.aon with floors := s.aon.floors.set k 0, flashFloors := s.aon.flashFloors.set k 0 } }) ∧
      (7 < k ∨ 2 < perm → Answers (.keySet h k perm key) h 0x000F stOutOfRange [] s s)) ∧
    (Taken 0x000E h s → a.keyId ≤ 7 → (keySlot s a.keyId).perm ≠ 0 →
      (a.dest = 0 → a.port < 64 → findSub s a.keyId (.inband a.port a.mac a.vlan) = some i →
        Answers (.eventSubscribe h a) h 0x000E stOk (w64 i) s
          { s with keep := { s.keep with
            subs := s.keep.subs.set i ⟨a.keyId, a.mask % 2 ^ 96, .inband a.port a.mac a.vlan⟩ } }) ∧
      (a.dest = 0 → a.port < 64 → findSub s a.keyId (.inband a.port a.mac a.vlan) = none → s.keep.subs.freeFrom 0 4 = some i →
        Answers (.eventSubscribe h a) h 0x000E stOk (w64 i) s
          { s with keep := { s.keep with
            subs := s.keep.subs.set i ⟨a.keyId, a.mask % 2 ^ 96, .inband a.port a.mac a.vlan⟩ } }) ∧
      (a.dest = 0 → a.port < 64 → findSub s a.keyId (.inband a.port a.mac a.vlan) = none → s.keep.subs.freeFrom 0 4 = none →
        Answers (.eventSubscribe h a) h 0x000E stNoResource [] s s) ∧
      (a.dest = 2 →
        Answers (.eventSubscribe h a) h 0x000E stOk
          (w64 (((s.keep.subs.filter (fun e => e.2.keyId == a.keyId)).head?.map (·.1)).getD 0)) s
          { s with keep := { s.keep with subs := s.keep.subs.filter (fun e => e.2.keyId != a.keyId) } })) ∧
    Leaves (.subLeaseExpiry i) s { s with keep := { s.keep with subs := s.keep.subs.del i } }

/-- The commands of group 0x01 and the rows that drive a bulk command (R335, R336, R363, R367). -/
def Obligations.BootCommands : Prop :=
  ∀ (h : CmdHdr) (k off n : Nat) (data : List Byte) (s : State),
    (Taken 0x0102 h s → 1 ≤ k → k ≤ 2 →
      (off + data.length ≤ 0x200000 → ¬ (s.boot.phase = .started ∧ s.boot.image = k) → s.keep.bulk = [] → s.boot.flashOk = true →
        Answers (.imageWrite h k off data) h 0x0102 stAccepted [] s (accept 0x0102 0 h
          { s with
            flash := Memory.writeAll s.flash (slotBase k + off) data
            keep := { s.keep with bulk := [⟨0x0102, h, 0⟩] } })) ∧
      (0x200000 < off + data.length → Answers (.imageWrite h k off data) h 0x0102 stOutOfRange [] s s) ∧
      (off + data.length ≤ 0x200000 → s.boot.phase = .started → s.boot.image = k →
        Answers (.imageWrite h k off data) h 0x0102 stBusy [] s s)) ∧
    (Taken 0x0104 h s →
      (off + data.length ≤ 262144 → s.keep.bulk = [] → s.boot.flashOk = true →
        Answers (.scriptWrite h off data) h 0x0104 stAccepted [] s (accept 0x0104 0 h
          { s with
            flash := Memory.writeAll s.flash (0x410000 + off) data
            keep := { s.keep with bulk := [⟨0x0104, h, 0⟩] } })) ∧
      (262144 < off + data.length → Answers (.scriptWrite h off data) h 0x0104 stOutOfRange [] s s) ∧
      (off + data.length ≤ 262144 → s.keep.bulk ≠ [] → Answers (.scriptWrite h off data) h 0x0104 stBusy [] s s)) ∧
    (Taken 0x0103 h s → 1 ≤ k → k ≤ 2 → s.boot.flashOk = true →
      (slotValid s.flash k = true → Answers (.imageSelect h k) h 0x0103 stOk [] s
        (report bBOOT 0x04 [w32 k] { s with aon := { s.aon with preferred := k } })) ∧
      (slotValid s.flash k = false → Answers (.imageSelect h k) h 0x0103 stCheckFail [] s s)) ∧
    (Taken 0x0105 h s → Leaves (.restart h) s (restartReset (sendReply h 0x0105 stOk [] s))) ∧
    (keeperUp s = true → ∀ a r, s.keep.bulk = a :: r →
      Leaves (.bulkStepDone true) s (completeDone a.opcode 0 stOk { s with keep := { s.keep with bulk := r } }) ∧
      Leaves (.bulkStepDone false) s s ∧
      (n ≤ 100 → Leaves (.commandProgress n) s (report bKEEP 0x02 [w32 a.opcode, w32 n] s)))

/-- Execution order (R334), the role check (R314) and the script (R345). -/
def Obligations.ExecutionAndScript : Prop :=
  ∀ (h : CmdHdr) (r0 r1 r2 r3 ms : Nat) (s : State),
    (keeperUp s = true → ∀ w, nextWaiting s = some w → w.opcode ≠ 0x0105 →
      Leaves .commandExecutionStart s
        (let t := { s with keep := { s.keep with
            waiting := s.keep.waiting.erase w, turn := (transportOf w.hdr.origin + 1) % 4 } }
         let r := respondBody w.opcode w.hdr w.body t
         if roleMatches w.hdr t then sendReply w.hdr w.opcode r.status r.words r.state
         else sendReply w.hdr w.opcode stRoleMoved (roleWords t) t)) ∧
    (∀ w, nextWaiting s = some w → w ∈ s.keep.waiting ∧
      (w.hdr.cls ≠ 1 → ∀ v ∈ s.keep.waiting, transportOf v.hdr.origin < 4 → v.hdr.cls ≠ 1)) ∧
    (Taken 0x0010 h s →
      (1 ≤ ms → ms ≤ 10000 → masksMet s r0 r1 r2 r3 = true → Answers (.scriptWait h r0 r1 r2 r3 ms) h 0x0010 stOk [] s s) ∧
      (∀ r t, 1 ≤ ms → ms ≤ 10000 → masksMet s r0 r1 r2 r3 = false → s.keep.script = some r → r.waitFrom = some t →
        ms * 625000 ≤ s.ticks - t → Answers (.scriptWait h r0 r1 r2 r3 ms) h 0x0010 stNotReady [] s s) ∧
      (ms < 1 ∨ 10000 < ms → Answers (.scriptWait h r0 r1 r2 r3 ms) h 0x0010 stOutOfRange [] s s) ∧
      (∀ r, 1 ≤ ms → ms ≤ 10000 → masksMet s r0 r1 r2 r3 = false → s.keep.script = some r → r.waitFrom = none →
        Leaves (.scriptWait h r0 r1 r2 r3 ms) s
          { s with keep := { s.keep with script := some { r with waitFrom := some s.ticks } } })) ∧
    (rKeepCmd s = true → ∀ r l rest w t, s.keep.script = some r → r.pkts = l :: rest → r.holding = false → r.ended = false →
      (magicOk l && crcOk l && stillWaits l s) = false →
      acceptPkt .script l { s with keep := { s.keep with script := some { r with pkts := rest, run := r.run + 1 } } }
        = (some w, t) → w.opcode ≠ 0x0105 →
      Leaves .scriptPacket s
        (let x := respondBody w.opcode w.hdr w.body t
         if roleMatches w.hdr t then sendReply w.hdr w.opcode x.status x.words x.state
         else sendReply w.hdr w.opcode stRoleMoved (roleWords t) t)) ∧
    (rKeepCmd s = true → ∀ r, s.keep.script = some r → r.holding = false → r.pkts = [] →
      (r.first = none → Leaves .scriptDone s
        (report bKEEP 0x05 [w32 r.run, 0xFFFFFFFF, 0, w32 r.scriptId]
          { s with keep := { s.keep with script := none }, boot := { s.boot with script := 2 } })) ∧
      (∀ i st, r.first = some (i, st) → Leaves .scriptDone s
        (report bKEEP 0x05 [w32 r.run, w32 i, w32 st, w32 r.scriptId]
          { s with keep := { s.keep with script := none }, boot := { s.boot with script := 3 } })))

/-- Adaptation of a lane (R32, R391, R450) and LANE_READ (R36). -/
def Obligations.LaneAdaptation : Prop :=
  ∀ (h : CmdHdr) (q n l : Nat) (sweep : List LmsPass) (last : LmsPass) (tx rx : LatMeas) (s : State), q < 16 → n < 4 →
    (Taken 0x0201 h s → (lane s (4 * q + n)).mode ≠ 0 → blkRun s (bQ q) = true →
      (lane s (4 * q + n)).adapt = .none → (lane s (4 * q + n)).spare = .idle →
      (adaptFixed s (4 * q + n) = true → Answers (.laneAdapt h q n) h 0x0201 stOk [] s
        (modLane (4 * q + n) (fun x => { x with ctle := parN s (bQ q) n Par.lnCtlePeak, dfe := x.dfeStored }) s)) ∧
      (adaptFixed s (4 * q + n) = false → ∀ t, govRequest (.laneAdapt (4 * q + n)) s = (.queued, t) →
        Answers (.laneAdapt h q n) h 0x0201 stAccepted [] s (accept 0x0201 (4 * q + n) h
          (modLane (4 * q + n) (fun x => { x with adapt := .waitGrant, adaptCmd := true, bgAdapt := false }) t))) ∧
      (adaptFixed s (4 * q + n) = false → ∀ t, govRequest (.laneAdapt (4 * q + n)) s = (.full, t) →
        Answers (.laneAdapt h q n) h 0x0201 stBusy [] s t)) ∧
    (Taken 0x0201 h s → (lane s (4 * q + n)).mode = 0 ∨ blkRun s (bQ q) = false →
      Answers (.laneAdapt h q n) h 0x0201 stNotReady [] s s) ∧
    (Taken 0x0202 h s → Answers (.laneRead h q n) h 0x0202 stOk
      [w32 (laneStatus s (4 * q + n)), w32 (lane s (4 * q + n)).txLat, w32 (lane s (4 * q + n)).rxLat,
       w32 (measWord (lane s (4 * q + n)).txSeq (lane s (4 * q + n)).txMeas),
       w32 (measWord (lane s (4 * q + n)).rxSeq (lane s (4 * q + n)).rxMeas)] s s) ∧
    ((lane s l).mode ≠ 0 → (lane s l).cdrLock = false → blkRun s (bQ (l / 4)) = true →
      pllLocked s (l / 4) (lanePll s l) = true →
      Leaves (.cdrLock l tx rx) s (startAdapt l (publishBoth l tx rx
        (modLane l (fun x => { x with cdrLock := true, sigDet := true }) s)))) ∧
    ((lane s l).adapt = .running ∨ awaitsLock s l = true → (lane s l).cdrLock = false →
      Leaves (.adaptTimeout l) s (portAdaptFails l (adaptEnds l stNotReady 1 0 (laneFault l 2 s)))) ∧
    ((lane s l).adapt = .held → Leaves (.adaptRequestRetry l) s (requestAdapt l s)) ∧
    ((lane s l).adapt = .running → (lane s l).cdrLock = true → ∀ peak taps fom,
      runAdapt (lane s l).peakGiven (lane s l).ctle ⟨sweep, last⟩ = (peak, taps, fom) →
      (parN s (bQ (l / 4)) (l % 4) Par.lnFomFail ≤ fom →
        Leaves (.adaptDone l sweep last) s (portAdapted l (adaptEnds l stOk 0 fom
          (setPar (bQ (l / 4)) (l % 4) Par.lnCtlePeak peak (modLane l (fun x =>
            { x with ctle := peak, dfe := taps, dfeStored := taps, fom := fom, fomLow := 0, bgAdapt := true }) s))))) ∧
      (fom < parN s (bQ (l / 4)) (l % 4) Par.lnFomFail →
        Leaves (.adaptDone l sweep last) s (portAdaptFails l (adaptEnds l stOk 0 fom (laneFault l 1
          (setPar (bQ (l / 4)) (l % 4) Par.lnCtlePeak peak (modLane l (fun x =>
            { x with ctle := peak, dfe := taps, dfeStored := taps, fom := fom, fomLow := 0, bgAdapt := laneCarries s l }) s)))))))

/-- The lookup table commands (R235, R237, R346). -/
def Obligations.TableCommands : Prop :=
  ∀ (h : CmdHdr) (table first n vid : Nat) (es : List (List Nat)) (key : List Nat) (s : State),
    (Taken 0x0501 h s → rLkp s = true → table ≤ 3 →
      (∀ t, writeEntries table 0 es s = .inr t → Answers (.tableWrite h table es) h 0x0501 stOk [] s t) ∧
      (∀ st i, writeEntries table 0 es s = .inl (st, i) →
        (st = stOutOfRange ∨ st = stNoResource) ∧ Answers (.tableWrite h table es) h 0x0501 st [w32 i] s s)) ∧
    (Taken 0x0501 h s → rLkp s = true →
      (∀ member untag fid, vid < 4096 → fid < 4096 → member < 2 ^ 64 → untag < 2 ^ 64 →
        Answers (.tableWrite h 0 [[vid, member, untag, fid, 1, 1]]) h 0x0501 stOk [] s
          { s with core := { s.core with vlan := s.core.vlan.set vid ⟨member, untag, fid, true⟩ } }) ∧
      (∀ g ports, g < 1024 → ports < 2 ^ 64 →
        Answers (.tableWrite h 3 [[g, ports]]) h 0x0501 stOk [] s
          { s with core := { s.core with groups := s.core.groups.set g ports } })) ∧
    (Taken 0x0502 h s → rLkp s = true →
      (vid < 4096 → Answers (.tableRead h 0 [vid] n) h 0x0502 stOk
        ((((((List.range 4096).drop vid).take n).map (fun v => (vlanFields s v).flatMap w64)).flatten).take
          (roomFor h 2)) s s) ∧
      (4096 ≤ vid → Answers (.tableRead h 0 [vid] n) h 0x0502 stOutOfRange [] s s)) ∧
    (Taken 0x0503 h s → rLkp s = true → table ≤ 3 →
      (s.core.loads = [] → ∀ t, writeEntries table 0 es s = .inr t → ∀ u, govRequest .tableLoad s = (.queued, u) →
        Answers (.tableLoad h table first es) h 0x0503 stAccepted [] s
          (accept 0x0503 0 h { u with core := { u.core with loads := [⟨h, table, es, 0, false⟩] } })) ∧
      (s.core.loads ≠ [] → Answers (.tableLoad h table first es) h 0x0503 stBusy [] s s)) ∧
    (rLkp s = false →
      (Taken 0x0501 h s → Answers (.tableWrite h table es) h 0x0501 stNotReady [] s s) ∧
      (Taken 0x0502 h s → Answers (.tableRead h table key n) h 0x0502 stNotReady [] s s) ∧
      (Taken 0x0503 h s → Answers (.tableLoad h table first es) h 0x0503 stNotReady [] s s)) ∧
    (rLkp s = true → 3 < table →
      (Taken 0x0501 h s → Answers (.tableWrite h table es) h 0x0501 stOutOfRange [] s s) ∧
      (Taken 0x0502 h s → Answers (.tableRead h table key n) h 0x0502 stOutOfRange [] s s) ∧
      (Taken 0x0503 h s → Answers (.tableLoad h table first es) h 0x0503 stOutOfRange [] s s))

/-- The Light List commands (R239 to R241). -/
def Obligations.ChannelCommands : Prop :=
  ∀ (h : CmdHdr) (ch mask : Nat) (d : List Word) (pin : Bool) (s : State),
    (rLkp s = true → chanInList s ch = true →
      (rStore s = true →
        (Taken 0x0601 h s →
          (∀ c, c = ((Chan.blank.withConf d).resetState (rollNs s) 15).setF 0 31 31 1 →
            chanOf s ch = none → confOk s c = true → pinFits s ch c = true →
            Answers (.channelAdd h ch d) h 0x0601 stOk [] s (putChan ch c s)) ∧
          (chanOf s ch ≠ none → Answers (.channelAdd h ch d) h 0x0601 stBusy [] s s)) ∧
        (Taken 0x0602 h s → ∀ c0, chanOf s ch = some c0 → ∀ c, c = (c0.withConf d).resetState (rollNs s) mask →
          (confOk s c = true → pinFits s ch c = true →
            Answers (.channelModify h ch false mask d) h 0x0602 stOk [] s (putChan ch c s)) ∧
          (confOk s c = true → commitNames s bLKP = false → (s.core.stagedMods.set ch (mask, d)).length ≤ 256 →
            stagedPinsFit s (s.core.stagedMods.set ch (mask, d)) = true →
            Answers (.channelModify h ch true mask d) h 0x0602 stOk [] s
              { s with core := { s.core with stagedMods := s.core.stagedMods.set ch (mask, d) } }) ∧
          (confOk s c = true → commitNames s bLKP = true →
            Answers (.channelModify h ch true mask d) h 0x0602 stBusy [] s s) ∧
          (confOk s c = false → Answers (.channelModify h ch false mask d) h 0x0602 stOutOfRange [] s s)) ∧
        (Taken 0x0604 h s → ∀ c0, chanOf s ch = some c0 →
          (pinFits s ch (c0.setF 0 29 29 1) = true → Answers (.channelPin h ch true) h 0x0604 stOk [] s
            (cacheIn ch (updatePin ch { s with core := { s.core with chans := s.core.chans.set ch (c0.setF 0 29 29 1) } }))) ∧
          Answers (.channelPin h ch false) h 0x0604 stOk [] s
            (updatePin ch { s with core := { s.core with chans := s.core.chans.set ch (c0.setF 0 29 29 0) } })) ∧
        (Taken 0x0604 h s → chanOf s ch = none → Answers (.channelPin h ch pin) h 0x0604 stNotReady [] s s)) ∧
      (Taken 0x0603 h s →
        (s.core.streams.any (fun e => e.channel == ch) = false → booked s ch = false →
          ∀ t, t = modChan ch (fun c => (c.setF 0 31 30 0).toStore) s →
          Answers (.channelRemove h ch) h 0x0603 stOk [] s (armLaunch 3 (armLaunch 2 (armLaunch 1 (armLaunch 0
            { t with core := { t.core with cache := t.core.cache.erase ch, stagedMods := t.core.stagedMods.del ch } }))))) ∧
        (s.core.streams.any (fun e => e.channel == ch) = true ∨ booked s ch = true →
          Answers (.channelRemove h ch) h 0x0603 stBusy [] s s)) ∧
      (Taken 0x0605 h s → ∀ c, s.core.chans.find ch = some c → rStore s = true ∨ s.core.cache.contains ch = true →
        Answers (.channelRead h ch) h 0x0605 stOk c.words s s)) ∧
    (rLkp s = true → chanInList s ch = false →
      (rStore s = true → Taken 0x0601 h s → Answers (.channelAdd h ch d) h 0x0601 stOutOfRange [] s s) ∧
      (Taken 0x0603 h s → Answers (.channelRemove h ch) h 0x0603 stOutOfRange [] s s) ∧
      (Taken 0x0605 h s → Answers (.channelRead h ch) h 0x0605 stOutOfRange [] s s)) ∧
    (rLkp s = false →
      (Taken 0x0601 h s → Answers (.channelAdd h ch d) h 0x0601 stNotReady [] s s) ∧
      (Taken 0x0602 h s → Answers (.channelModify h ch pin mask d) h 0x0602 stNotReady [] s s) ∧
      (Taken 0x0603 h s → Answers (.channelRemove h ch) h 0x0603 stNotReady [] s s) ∧
      (Taken 0x0604 h s → Answers (.channelPin h ch pin) h 0x0604 stNotReady [] s s) ∧
      (Taken 0x0605 h s → Answers (.channelRead h ch) h 0x0605 stNotReady [] s s))

/-- Reserved crossings by command and FLUSH_READ (R248, R95, R268). -/
def Obligations.CrossingAndFlushCommands : Prop :=
  ∀ (h : CmdHdr) (ch inP outP entry maxlen first n : Nat) (s : State),
    (Taken 0x0606 h s → rCore s = true → ∀ c, chanOf s ch = some c → inP < 64 → outP < 64 → 64 ≤ maxlen → maxlen ≤ 10240 →
      isTrunk s inP = true →
      (expressFits s outP entry maxlen = true → pauseForbids s outP c.cls = false →
        (s.core.bookings.any (fun e => e.2.outPort == outP && e.2.entry == entry) = false →
          (s.core.bookings.filter (fun e => pipeOf e.2.inPort == pipeOf inP)).length < 1024 →
          mustPin s ch c = true ∨ pinnedCount s < 2048 → ∀ k, s.core.bookings.freeFrom 0 4096 = some k →
          Answers (.crossingBook h ch inP outP entry maxlen) h 0x0606 stOk (w64 k) s
            (report bCORE 0x02 [1, w32 ch, w32 inP, w32 outP] (cacheIn ch (updatePin ch { s with core := { s.core with
              bookings := s.core.bookings.set k ⟨ch, inP, outP, entry, maxlen⟩ } })))) ∧
        (s.core.bookings.any (fun e => e.2.outPort == outP && e.2.entry == entry) = true →
          Answers (.crossingBook h ch inP outP entry maxlen) h 0x0606 stNoResource [] s s)) ∧
      (expressFits s outP entry maxlen = false ∨ pauseForbids s outP c.cls = true →
        Answers (.crossingBook h ch inP outP entry maxlen) h 0x0606 stOutOfRange [] s s)) ∧
    (Taken 0x0607 h s → rCore s = true →
      (∀ b, s.core.bookings.find n = some b → Answers (.crossingRelease h n) h 0x0607 stOk [] s
        (report bCORE 0x02 [0, w32 b.channel, w32 b.inPort, w32 b.outPort]
          (updatePin b.channel { s with core := { s.core with bookings := s.core.bookings.del n } }))) ∧
      (s.core.bookings.find n = none → Answers (.crossingRelease h n) h 0x0607 stOutOfRange [] s s)) ∧
    (rCore s = false →
      (Taken 0x0606 h s → Answers (.crossingBook h ch inP outP entry maxlen) h 0x0606 stNotReady [] s s) ∧
      (Taken 0x0607 h s → Answers (.crossingRelease h n) h 0x0607 stNotReady [] s s)) ∧
    (Taken 0x0608 h s → 1 ≤ n → n ≤ 1024 →
      (first + n ≤ parN s bLKP 0 Par.lkLlSize →
        (rBuf s = true → Answers (.flushRead h first n) h 0x0608 stOk
          (w32 (min n (2 * roomFor h 1)) :: flushWords s (min n (2 * roomFor h 1)) first) s s) ∧
        (rBuf s = false → Answers (.flushRead h first n) h 0x0608 stNotReady [] s s)) ∧
      (parN s bLKP 0 Par.lkLlSize < first + n → Answers (.flushRead h first n) h 0x0608 stOutOfRange [] s s))

/-- The commands of SCHED (R276, R288, R297). -/
def Obligations.SchedCommands : Prop :=
  ∀ (h : CmdHdr) (n k cir pir cbs pbs : Nat) (aware : Bool) (g : GclArgs) (a : SlotArgs) (data : List Byte) (s : State),
    (rSched s = true →
      (Taken 0x0701 h s → g.port < 64 → g.ref ≤ 1 → g.count ≤ 1024 → (g.ref = 1 → g.shaft < 64) →
        (g.ref = 0 → 1000 * 65536 ≤ g.cycle ∧ g.cycle ≤ 2000000000 * 65536) →
        (g.ref ≠ 0 → 1 ≤ g.cycle ∧ g.cycle ≤ 65535) → g.first = 0 → g.count = g.entries.length →
        ∀ x : Gcl, x = ⟨g.ref, if g.ref = 1 then g.shaft else 0, g.base, g.cycle, g.entries.map (fun e => e.toNat)⟩ →
        (gclOk x = true → bookingMoved s g.port x = false → commitNames s bSCHED = false →
          Answers (.gclLoad h g) h 0x0701 stOk [] s
            { s with sched := { s.sched with staged := s.sched.staged.set g.port ⟨x, g.count⟩ } }) ∧
        (gclOk x = false → Answers (.gclLoad h g) h 0x0701 stOutOfRange [] s s) ∧
        (gclOk x = true → commitNames s bSCHED = true → Answers (.gclLoad h g) h 0x0701 stBusy [] s s)) ∧
      (Taken 0x0702 h s → n < 1024 → 60 ≤ data.length → data.length ≤ 2044 → (slotOf s n).args.feed = 0 →
        ((∀ t, slotNext s n = some t → (units s : Int) + usU 1 ≤ t) → Answers (.slotWrite h n data) h 0x0702 stOk [] s
          (modSlot n (fun x => { x with frame := withFcs data, seq := none, waiting := none }) s)) ∧
        (∀ t, slotNext s n = some t → t < (units s : Int) + usU 1 → Answers (.slotWrite h n data) h 0x0702 stOk [] s
          (modSlot n (fun x => { x with waiting := some (withFcs data) }) s))) ∧
      (Taken 0x0703 h s → a.slot < 1024 → a.mode = 0 ∨ a.mode = 3 → a.feed ≤ 1 → a.port < 64 → a.cls < 8 →
        a.channel < 65536 → a.lateLimit ≤ 1000000000 * 65536 →
        Answers (.slotConfig h a) h 0x0703 stOk [] s
          (armLaunch (pipeOf a.port) (armLaunch (pipeOf (slotOf s a.slot).args.port) (modSlot a.slot (fun x =>
            { x with
              args := a, next := none, deadline := none, committed := false
              fresh := if x.args.feed = a.feed then x.fresh else false
              frame := if x.args.feed = a.feed then x.frame else []
              seq := if x.args.feed = a.feed then x.seq else none }) s)))) ∧
      (Taken 0x0704 h s → n < 1024 → ∀ x b tm, x = slotOf s n → b = x.args → tm = (if b.mode = 2 then guhFormat b.time else b.time) →
        Answers (.slotRead h n) h 0x0704 stOk ([n, b.mode, b.feed, b.port, b.cls, b2n b.chanValid, b.channel].flatMap w64
          ++ [w32 (tm >>> 64), w32 (tm >>> 32), w32 tm] ++ w64 b.period ++ w64 b.lateLimit ++ w64 b.hrGrace ++ w64 x.lastLaunch
          ++ [w32 (b2n (!x.frame.isEmpty) * 2 ^ 31 + b2n x.fresh * 2 ^ 30 + b2n x.committed * 2 ^ 29 + x.replaced % 2 ^ 16)])
          s s) ∧
      (Taken 0x0705 h s → k < 1024 →
        (cir ≤ pir → cbs < 2 ^ 24 → pbs < 2 ^ 24 → Answers (.policerSet h k cir pir cbs pbs aware) h 0x0705 stOk [] s
          (modPolicer k (fun x =>
            { x with
              cir := cir, pir := pir, cbs := cbs, pbs := pbs, aware := aware, tc := (cbs * 8192 : Nat),
              tp := (pbs * 8192 : Nat), time := rollNs s }) s)) ∧
        (pir < cir → Answers (.policerSet h k cir pir cbs pbs aware) h 0x0705 stOutOfRange [] s s)) ∧
      (Taken 0x0706 h s → k < 1024 → ∀ x, x = policer s k → Answers (.policerRead h k) h 0x0706 stOk
        ([k, x.cir, x.pir, x.cbs, x.pbs, b2n x.aware].flatMap w64 ++ w64i (x.tc / 8192) ++ w64i (x.tp / 8192) ++
          w64 x.yellow ++ w64 x.red) s s)) ∧
    (rSched s = false →
      (Taken 0x0701 h s → Answers (.gclLoad h g) h 0x0701 stNotReady [] s s) ∧
      (Taken 0x0702 h s → Answers (.slotWrite h n data) h 0x0702 stNotReady [] s s) ∧
      (Taken 0x0703 h s → Answers (.slotConfig h a) h 0x0703 stNotReady [] s s) ∧
      (Taken 0x0704 h s → Answers (.slotRead h n) h 0x0704 stNotReady [] s s) ∧
      (Taken 0x0705 h s → Answers (.policerSet h k cir pir cbs pbs aware) h 0x0705 stNotReady [] s s) ∧
      (Taken 0x0706 h s → Answers (.policerRead h k) h 0x0706 stNotReady [] s s))

/-- Tunnels (R77, R328), the second of remote commands (R331), and PTP_PORT_READ (R346). -/
def Obligations.TunnelRows : Prop :=
  ∀ (h : CmdHdr) (e : Envelope) (pkt : List Byte) (k p : Nat) (close : Bool) (s : State),
    (Taken 0x0401 h s →
      (envelopeOk e = true → e.back = false → e.hopIndex = 0 →
        (16 ≤ pkt.length → pkt.length ≤ 2048 → tunnelTrunk s (e.ports.getD 0 0) = true →
          (s.keep.handles.freeFrom 0 16 = some k → Answers (.tunnelSend h e pkt) h 0x0401 stAccepted (w64 k) s
            (accept 0x0401 k h (queueMgmt (e.ports.getD 0 0) (envBytes { e with ports := e.ports.set 0 0xFF, hopIndex := 1 } ++ pkt)
              { s with keep := { s.keep with handles := s.keep.handles.set k ⟨e.ports.take e.pathLen, pkt, [], false⟩ } }))) ∧
          (s.keep.handles.freeFrom 0 16 = none → Answers (.tunnelSend h e pkt) h 0x0401 stNoResource [] s s)) ∧
        (pkt.length < 16 ∨ 2048 < pkt.length → Answers (.tunnelSend h e pkt) h 0x0401 stBadLength [] s s)) ∧
      (envelopeOk e = false → Answers (.tunnelSend h e pkt) h 0x0401 stOutOfRange [] s s)) ∧
    (Taken 0x0402 h s →
      (∀ x, s.keep.handles.find k = some x → ∀ n, n = packetsFit (roomFor h 1 * 4) x.held →
        Answers (.tunnelRead h k false) h 0x0402 stOk (w32 n :: (x.held.take n).flatMap (fun l => w32 l.length :: bytesWords l)) s
          { s with keep := { s.keep with handles := s.keep.handles.set k { x with held := x.held.drop n } } } ∧
        Answers (.tunnelRead h k true) h 0x0402 stOk (w32 n :: (x.held.take n).flatMap (fun l => w32 l.length :: bytesWords l)) s
          (freeHandle k { x with held := x.held.drop n } s)) ∧
      (s.keep.handles.find k = none → Answers (.tunnelRead h k close) h 0x0402 stOutOfRange [] s s)) ∧
    (∀ x, s.keep.handles.find k = some x →
      (x.heard = false → Leaves (.tunnelTimeout k) s (completeWith 0x0401 k bKEEP 0x04 [w32 k, 2] stOk
        { s with keep := { s.keep with handles := s.keep.handles.set k { x with heard := true } } })) ∧
      (x.heard = true → Leaves (.tunnelTimeout k) s s ∧
        Leaves (.tunnelHandleExpiry k) s { s with keep := { s.keep with handles := s.keep.handles.del k } }) ∧
      (x.heard = false → Leaves (.tunnelHandleExpiry k) s s)) ∧
    (tunnelTrunk s p = true →
      ∀ t, t = modTrunk p (fun t => { t with rx := { t.rx with packets := t.rx.packets.erase (envBytes e ++ pkt) } }) s →
      Leaves (.tunnelPacketReceived p e pkt) s (tunnelStep p e pkt t) ∧
      (envelopeOk e = true → pkt.length ≤ 2048 → e.back = false → e.hopIndex = e.pathLen →
        tunnelStep p e pkt t = takeRemote (.tunnel p (envBytes { e with back := true })) pkt t) ∧
      (envelopeOk e = false → tunnelStep p e pkt t = tunnelDiscard p 1 t)) ∧
    (tunnelTrunk s p = false → Leaves (.tunnelPacketReceived p e pkt) s s) ∧
    Leaves .remoteRateSecond s { s with keep := { s.keep with remoteTaken := 0, untagged := [], authRefused := 0 } } ∧
    (Taken 0x0301 h s → p < 64 →
      (isEdge s p = true → ∀ a t b u, drawInt s = (a, t) → drawNat t = (b, u) →
        ∀ g : Nat → Int, g = (fun n => par s (bP p) 0 n) → Answers (.ptpPortRead h p) h 0x0301 stOk
          (w64 (s.boot.serial % 2 ^ 48 * 2 ^ 16 + (p + 1)) ++ w64 (if ptpRole s p = 1 then (edge s p).ptp.state else 0)
            ++ w64i (g Par.epPtpLogMindelay) ++ w64i (edge s p).ptp.meanDelay ++ w64i a ++ w64 b ++ w64i (g Par.epPtpLogSync)
            ++ w64 (if parN s (bP p) 0 Par.epPtpProfile == 1 || parN s (bP p) 0 Par.epPtpProfile == 2 then 2 else 1)
            ++ w64i (g Par.epPtpLogMindelay) ++ w64 2 ++ w64 1 ++ w64i (g Par.epPtpAsym)
            ++ w64 (b2n (ptpRole s p == 1)) ++ w64 0) s u) ∧
      (isEdge s p = false → Answers (.ptpPortRead h p) h 0x0301 stNotReady [] s s))

/-- The commands of TIC (R186, R188, R194). -/
def Obligations.TicCommands : Prop :=
  ∀ (h : CmdHdr) (a : TicArgs) (c n : Nat) (s : State),
    (rTic s = true →
      (Taken 0x0B01 h s →
        (a.stop = false → ticArgsOk a = true → ∀ cs, cs = (List.range 25).filter (fun c => (measMask a).testBit c) →
          (cs.any (fun c => (measOf s c).isSome || encHolds s c) = false →
            ∀ t, t = cs.foldl (fun s c => modCh c (fun x => { x with gate := [] }) (calAnew (servingUnit s c) s)) s →
            Answers (.ticArm h a) h 0x0B01 stAccepted [] s (accept 0x0B01 a.channels h
              { t with tic := { t.tic with meas := t.tic.meas ++ [⟨h, a, cs.map (fun c => (servingUnit t c, 16)), 0, 0, none, a.channels⟩] } })) ∧
          (cs.any (fun c => (measOf s c).isSome || encHolds s c) = true →
            Answers (.ticArm h a) h 0x0B01 stBusy [] s s)) ∧
        (a.stop = false → ticArgsOk a = false → Answers (.ticArm h a) h 0x0B01 stOutOfRange [] s s) ∧
        (a.stop = true → 0 < a.channels → a.channels < 2 ^ 25 → Answers (.ticArm h a) h 0x0B01 stOk [] s
          ((s.tic.meas.filter (fun m => measMask m.args &&& a.channels != 0)).foldl (fun s m => measEnds m 1 s) s))) ∧
      (Taken 0x0B02 h s → c < 25 → 1 ≤ n → n ≤ 256 →
        (parN s bTIC c Par.tcFifoReader ≠ 1 → ∀ k, k = min n (min (ticCh s c).fifo.length (roomFor h 4)) →
          Answers (.ticRead h c n) h 0x0B02 stOk (w32 k :: ((ticCh s c).fifo.take k).flatten) s
            (modCh c (fun x => { x with fifo := x.fifo.drop k }) s)) ∧
        (parN s bTIC c Par.tcFifoReader = 1 → Answers (.ticRead h c n) h 0x0B02 stBusy [] s s)) ∧
      (Taken 0x0B02 h s → 25 ≤ c ∨ 256 < n → Answers (.ticRead h c n) h 0x0B02 stOutOfRange [] s s)) ∧
    (rTic s = false →
      (Taken 0x0B01 h s → Answers (.ticArm h a) h 0x0B01 stNotReady [] s s) ∧
      (Taken 0x0B02 h s → c < 25 → 1 ≤ n → n ≤ 256 → Answers (.ticRead h c n) h 0x0B02 stNotReady [] s s))

/-- The commands of SHAFT (R203, R204, R211, R222, R225, R452). -/
def Obligations.ShaftCommands : Prop :=
  ∀ (h : CmdHdr) (n k : Nat) (rec : BitVec 288) (a : GearArgs) (e : SectorArgs) (s : State),
    (rShaft s = true →
      (Taken 0x0C02 h s → n < 64 →
        ((shaft s n).source = 1 → isMirror s n = false → ∀ g short, g = { readRecord s rec.toNat with claim := ownClaim s } →
          short = decide (g.t0 < (units s : Int) + usU (parN s bSHAFT n Par.shLead)) →
          (∀ t, acceptSeg n g short s = (.taken, t) → Answers (.segmentPush h n rec) h 0x0C02 stOk
            (w64 (shaft (distribute n g none t) n).segs.length) s (distribute n g none t)) ∧
          (∀ t, acceptSeg n g short s = (.duplicate, t) → Answers (.segmentPush h n rec) h 0x0C02 stOk
            (w64 (shaft (countDup n t) n).segs.length) s (countDup n t)) ∧
          ((acceptSeg n g short s).1 = .invalid → Answers (.segmentPush h n rec) h 0x0C02 stOutOfRange [] s s) ∧
          ((acceptSeg n g short s).1 = .full → Answers (.segmentPush h n rec) h 0x0C02 stNoResource [] s s)) ∧
        ((shaft s n).source = 1 → isMirror s n = true → Answers (.segmentPush h n rec) h 0x0C02 stNotActive [] s s) ∧
        ((shaft s n).source ≠ 1 → Answers (.segmentPush h n rec) h 0x0C02 stBadClass [] s s)) ∧
      (Taken 0x0C03 h s → a.shaft < 64 → a.src < 64 → 0 < a.den → a.den < 2 ^ 32 → -(2 ^ 31) ≤ a.num → a.num < 2 ^ 31 →
        a.dir ≤ 1 →
        (gearReaches s 5 a.src a.shaft = false → chainDepth s 5 a.src + 1 + chainAbove s 5 a.shaft ≤ 4 →
          (∀ p t, (shaft s a.shaft).pend = some p → p.tg = some t → (units s : Int) + usU 2 < t) →
          (a.when_ = 0 → Answers (.gearSet h a) h 0x0C03 stOk [] s
            (gearChanged a.shaft 0 (units s) (applyGear a.shaft a (units s) (dropGear a.shaft 1 s)))) ∧
          (a.when_ = 1 → 0 < nsAhead s a.target → ∀ t, t = dropGear a.shaft 1 s →
            Answers (.gearSet h a) h 0x0C03 stAccepted [] s (accept 0x0C03 a.shaft h
              (queueGear a.shaft (modShaft a.shaft (fun x => { x with pend := some ⟨h, a, some (dueOf t a.target)⟩ }) t)))) ∧
          (a.when_ = 2 → ∀ t, t = dropGear a.shaft 1 s →
            ∀ u, u = modShaft a.shaft (fun x => { x with pend := some ⟨h, a, none⟩ }) t →
            Answers (.gearSet h a) h 0x0C03 stAccepted [] s (accept 0x0C03 a.shaft h
              { u with shaft := { u.shaft with lanes := u.shaft.lanes.set (a.shaft + 1) (cursorAt u a.src ((units s : Int) + 1)) } }))) ∧
        (gearReaches s 5 a.src a.shaft = true ∨ 4 < chainDepth s 5 a.src + 1 + chainAbove s 5 a.shaft → a.when_ ≤ 2 →
          Answers (.gearSet h a) h 0x0C03 stOutOfRange [] s s)) ∧
      (Taken 0x0C04 h s → e.shaft < 64 → e.kind ≤ 4 → e.angle < 2 ^ 32 → e.turnRule = 0 → e.dir ≤ 2 → |e.timeOffset| ≤ usU 1000 →
        e.record ≤ 2 → e.missPolicy ≤ 1 → targetOk s e = true →
        (s.shaft.slots.freeFrom 0 8192 = some n → ∀ c : Cursor, c = cursorAt s e.shaft ((units s : Int) + 1) →
          Answers (.sectorAdd h e) h 0x0C04 stOk (w64 n) s
            { s with shaft := { s.shaft with slots := s.shaft.slots.set n ⟨e, c, c, []⟩ } }) ∧
        (s.shaft.slots.freeFrom 0 8192 = none → Answers (.sectorAdd h e) h 0x0C04 stNoResource [] s s)) ∧
      (Taken 0x0C05 h s → n ≤ 8191 →
        (s.shaft.slots.find n = none → Answers (.sectorRemove h n) h 0x0C05 stOk [] s s) ∧
        (s.shaft.slots.find n ≠ none → Answers (.sectorRemove h n) h 0x0C05 stOk [] s (freeSlot n { s with shaft := { s.shaft with
          tq := s.shaft.tq.map (fun p => if p.slot == n && decide (p.fire ≤ (units s : Int) + usU 2) then
            { p with flags := p.flags ||| 4 } else p) } }))) ∧
      (Taken 0x0C06 h s → 1 ≤ n → n ≤ 64 → k = min n (min s.shaft.recs.length (roomFor h 8)) →
        Answers (.sectorRead h n) h 0x0C06 stOk (w32 k :: (s.shaft.recs.take k).flatten) s
          { s with shaft := { s.shaft with recs := s.shaft.recs.drop k } })) ∧
    (rShaft s = false →
      (Taken 0x0C02 h s → n < 64 → Answers (.segmentPush h n rec) h 0x0C02 stNotReady [] s s) ∧
      (Taken 0x0C03 h s → Answers (.gearSet h a) h 0x0C03 stNotReady [] s s) ∧
      (Taken 0x0C04 h s → Answers (.sectorAdd h e) h 0x0C04 stNotReady [] s s) ∧
      (Taken 0x0C05 h s → Answers (.sectorRemove h n) h 0x0C05 stNotReady [] s s) ∧
      (Taken 0x0C06 h s → Answers (.sectorRead h n) h 0x0C06 stNotReady [] s s))

/-- The commands of PAIR, switchover and takeover (R304, R310, R311, R315). -/
def Obligations.PairCommandRows : Prop :=
  ∀ (h : CmdHdr) (mode pid_ prio tr n : Nat) (force : Bool) (s : State),
    (Taken 0x0D01 h s →
      (blkStopped s bPAIR = true → mode ≤ 1 → 1 ≤ pid_ → pid_ ≤ 255 → 1 ≤ prio → prio ≤ 127 → tr ≤ 63 ∨ tr = 255 →
        Answers (.roleSet h mode pid_ prio tr) h 0x0D01 stOk [] s
          (setPar bPAIR 0 Par.prPairMode mode (setPar bPAIR 0 Par.prPairId pid_
            (setPar bPAIR 0 Par.prPrio prio (setPar bPAIR 0 Par.prPairTrunk tr s))))) ∧
      (blkStopped s bPAIR = false → Answers (.roleSet h mode pid_ prio tr) h 0x0D01 stBadClass [] s s)) ∧
    (Taken 0x0D02 h s →
      (s.pair.switching = none → s.pair.state = some .active → s.pair.hb.silent = false → s.pair.trunk.silent = false →
        s.pair.hb.role = 2 → s.pair.trunk.role = 2 → s.pair.hb.fatal = false → s.pair.trunk.fatal = false →
        (force = true ∨ (s.pair.hbBits.testBit 4 = false ∧ s.pair.hbBits.testBit 7 = true ∧ s.pair.hbBits.testBit 6 = true ∧
          s.pair.hbBits.testBit 5 = true)) → ∀ outs, outs = claimedOuts s → ∀ t, t = accept 0x0D02 0 h { s with pair := { s.pair with
            switching := some ⟨h, outs, false⟩ } } →
          (outs ≠ [] → Answers (.switchover h force) h 0x0D02 stAccepted [] s t) ∧
          (outs = [] → Answers (.switchover h force) h 0x0D02 stAccepted [] s (demote t))) ∧
      (s.pair.switching ≠ none → Answers (.switchover h force) h 0x0D02 stBusy [] s s) ∧
      (s.pair.switching = none → s.pair.state ≠ some .active → Answers (.switchover h force) h 0x0D02 stNotActive [] s s) ∧
      (s.pair.switching = none → s.pair.state = some .active → s.pair.hb.silent = true ∨ s.pair.trunk.role ≠ 2 →
        Answers (.switchover h force) h 0x0D02 stNotReady [] s s)) ∧
    (∀ w, s.pair.switching = some w →
      demote s = enterRole .standby (s.pair.epoch + 1) 4
        (setGrant false { s with pair := { s.pair with switching := some { w with outs := [], demoted := true } } }) ∧
      (w.demoted = false → n ∈ w.outs → pulsePin s n ≠ some true → ∀ t, t = { s with pair := { s.pair with switching := some { w with outs := w.outs.erase n } } } →
        (w.outs.erase n ≠ [] → Leaves (.switchoverRelease n) s t) ∧
        (w.outs.erase n = [] → Leaves (.switchoverRelease n) s (demote t))) ∧
      (n ∉ w.outs ∨ pulsePin s n = some true → Leaves (.switchoverRelease n) s s) ∧
      (w.demoted = false → w.outs ≠ [] →
        ((∃ k ∈ w.outs, pulsePin s k = some true) → Leaves .switchTimeout s (demote (raise bPAIR 7 s))) ∧
        ((∀ k ∈ w.outs, pulsePin s k ≠ some true) → Leaves .switchTimeout s (demote s))) ∧
      (w.demoted = true → ∀ u, u = { s with pair := { s.pair with switching := none } } →
        (partnerDrives s = true → Leaves .switchoverDone s (completeWith 0x0D02 0 bPAIR 0x06 [w32 stOk] stOk u)) ∧
        (partnerDrives s = false → partnerFailed s = true → ∀ v, v = lastHeard s → Leaves .switchoverDone s
          (completeWith 0x0D02 0 bPAIR 0x06 [w32 stNotReady, w32 v.role, w32 (b2n v.fatal), w32 v.epoch] stNotReady u)) ∧
        (partnerDrives s = false → partnerFailed s = false → Leaves .switchoverDone s s))) ∧
    (s.pair.switching = none → Leaves (.switchoverRelease n) s s ∧ Leaves .switchTimeout s s ∧ Leaves .switchoverDone s s) ∧
    (∀ k, s.pair.takeover = some k → ∀ t, t = { s with pair := { s.pair with takeover := none } } →
      Leaves .takeoverDone s (evaluate (reportShafts s (report bPAIR 0x07 [w32 ((s.ticks - k) * 8 / 5)] t)))) ∧
    (s.pair.takeover = none → Leaves .takeoverDone s s)

/-- Heartbeats, election by silence and the interlock (R300 to R302, R305, R307). -/
def Obligations.PairRows : Prop :=
  ∀ (l : List Byte) (onTrunk actIn : Bool) (s : State),
    (s.pair.started = true → s.boot.phase = .started → Leaves .pairHbSend s
      (emit (.pairHb (hbMessage s)) { s with pair := { s.pair with hbCount := (s.pair.hbCount + 1) % 256, hbDirty := false } })) ∧
    (s.pair.started = false ∨ s.boot.phase = .standbyLight → Leaves .pairHbSend s s) ∧
    (blkRun s bPAIR = true → l.length = 16 → hbCrc l = beAt l 14 2 → beAt l 0 1 / 16 = 1 →
      (beAt l 1 1 ≠ pairPar s Par.prPairId → Leaves (.pairHbReceived l) s (wrongPairId false (beAt l 1 1) s)) ∧
      (beAt l 1 1 = pairPar s Par.prPairId → Leaves (.pairHbReceived l) s (acceptHb false
        ⟨false, beAt l 2 2, beAt l 4 2, beAt l 0 1 / 4 % 4, (beAt l 0 1).testBit 1, (beAt l 0 1).testBit 0, some s.ticks, false⟩
        { s with pair := { s.pair with hbBits := beAt l 7 1, hbDevice := beAt l 8 4, lastId := beAt l 1 1 } }))) ∧
    (blkRun s bPAIR = false ∨ l.length ≠ 16 ∨ hbCrc l ≠ beAt l 14 2 ∨ beAt l 0 1 / 16 ≠ 1 → Leaves (.pairHbReceived l) s s) ∧
    (blkRun s bPAIR = true → s.pair.trunk.silent = false → ∀ t, t = pathFaults (report bPAIR 0x03 [1, 0]
        { s with pair := { s.pair with trunk := { s.pair.trunk with silent := true, wrongId := false } } }) →
      (t.pair.hb.silent = true → t.pair.trunk.silent = true → t.pair.state = some .standby → mayBeActive t = true →
        Leaves (.pathSilent true) s (becomeActive 2 true t)) ∧
      (t.pair.hb.silent = false → Leaves (.pathSilent true) s (evalGrant t))) ∧
    (blkRun s bPAIR = true → s.pair.hb.silent = false → ∀ t, t = pathFaults (report bPAIR 0x03 [0, 0]
        { s with pair := { s.pair with hb := { s.pair.hb with silent := true, wrongId := false } } }) →
      (t.pair.hb.silent = true → t.pair.trunk.silent = true → t.pair.state = some .standby → mayBeActive t = true →
        Leaves (.pathSilent false) s (becomeActive 2 true t)) ∧
      (t.pair.trunk.silent = false → Leaves (.pathSilent false) s (evalGrant t))) ∧
    (blkRun s bPAIR = false → Leaves (.pathSilent onTrunk) s s) ∧
    (s.pair.state = some .listening → s.pair.hb.quiet = true → s.pair.trunk.quiet = true → mayBeActive s = true →
      (pairPar s Par.prActCheck = 0 ∨ s.pair.actIn = false) → Leaves .listeningTimeout s (becomeActive 1 false s)) ∧
    (s.pair.state ≠ some .listening ∨ mayBeActive s = false → Leaves .listeningTimeout s s) ∧
    (s.pair.testing = true → ∀ t, t = { s with pair := { s.pair with actIn := actIn } } → grantConds t = true →
      (actIn = false → Leaves (.interlockTest actIn) s (setGrant true { t with pair := { t.pair with testing := false } })) ∧
      (actIn = true → Leaves (.interlockTest actIn) s
        (raise bPAIR 6 { t with pair := { t.pair with testing := false, conflict := true } }))) ∧
    (s.pair.conflict = true →
      (grantConds s = true → Leaves .interlockRetry s { s with pair := { s.pair with conflict := false, testing := true } }) ∧
      (grantConds s = false → Leaves .interlockRetry s { s with pair := { s.pair with conflict := false } }))

/-- The transports of the Keeper (R323 to R327, R356, R359, R360). -/
def Obligations.TransportRows : Prop :=
  ∀ (idx b p dst src vlan : Nat) (v : Word) (f l payload : List Byte) (s : State),
    (s.boot.phase ≠ .heldInReset →
      (s.host.en = true →
        (idx < ringSize s.host.cmdLog2 → Leaves (.cmdDoorbell idx) s { s with host := { s.host with doorbell := idx } }) ∧
        (ringSize s.host.cmdLog2 ≤ idx → Leaves (.cmdDoorbell idx) s (ringRefused s)) ∧
        (∀ t, t = { s with host := { s.host with cplHead := idx } } →
          (spanOk s.host.cplLog2 s.host.cplHead s.host.cplTail idx = true →
            Leaves (.cplHead idx) s (drainOwed s.host.owed.length t)) ∧
          (spanOk s.host.cplLog2 s.host.cplHead s.host.cplTail idx = false → Leaves (.cplHead idx) s (ringRefused s))) ∧
        (∀ t, t = { s with host := { s.host with evtHead := idx } } →
          spanOk s.host.evtLog2 s.host.evtHead s.host.evtTail idx = true →
          (s.host.ringLost = false → Leaves (.evtHead idx) s t) ∧
          (s.host.ringLost = true → evtFull t = false → Leaves (.evtHead idx) s (report bKEEP 0x06 [0, w32 s.keep.evtLost] t)))) ∧
      (s.host.en = false → Leaves (.cmdDoorbell idx) s (ringRefused s) ∧ Leaves (.cplHead idx) s (ringRefused s) ∧
        Leaves (.evtHead idx) s (ringRefused s)) ∧
      (v.toNat.testBit 31 = true → s.host.en = true → Leaves (.ringEnable v) s { s with host :=
        { s.host with
          en := true, doorbell := 0, cmdHead := 0, cplTail := 0, cplHead := 0, evtTail := 0, evtHead := 0,
          cplPhase := true, evtPhase := true } }) ∧
      (v.toNat.testBit 31 = false → s.host.en = true →
        Leaves (.ringDisable v) s { s with host := { s.host with en := false, err := false } })) ∧
    (∀ d, d = readDesc f → keeperUp s = true → s.host.en = true → s.host.pcieUp = true → s.host.doorbell ≠ s.host.cmdHead → cplFull s = false →
      s.host.owed = [] → Leaves (.descriptorFetch f l) s (takePacket (.pcie d.tag d.rplAddr d.rplSize) (l.take d.pktLen)
        { s with host := { s.host with
          cmdHead := (s.host.cmdHead + 1) % ringSize s.host.cmdLog2
          fetched := s.host.fetched ++ [(d.tag, if magicOk (l.take d.pktLen) then beAt (l.take d.pktLen) 4 2 else 0)] } })) ∧
    (s.host.en = false ∨ s.host.doorbell = s.host.cmdHead ∨ cplFull s = true → Leaves (.descriptorFetch f l) s s) ∧
    (s.boot.phase ≠ .heldInReset → s.hlth.bist.find bHOST = none →
      (spiUp s = true → spiFull s = false → 8 ≤ l.length → l.length = pktTotal l → Leaves (.writePkt l) s (takePacket .spi l s)) ∧
      (spiUp s = false ∨ spiFull s = true ∨ l.length < 8 ∨ l.length ≠ pktTotal l → Leaves (.writePkt l) s (spiDiscard s)) ∧
      Leaves .spiStatus s (modHost (fun h => { h with spiErr := false }) (emit (.spiStatus (spiStatusByte s)) s))) ∧
    (rHostSpi s = true → s.hlth.bist.find bHOST = none →
      Leaves (.readPkt false) s s ∧
      (∀ q r, s.host.spiReplies = q :: r →
        Leaves (.readPkt true) s (emit (.spiPkt q.bytes) { s with host := { s.host with spiReplies := r } })) ∧
      (s.host.spiReplies = [] → ∀ q r, s.host.spiEvents = q :: r →
        Leaves (.readPkt true) s (emit (.spiPkt q.bytes) { s with host := { s.host with spiEvents := r } }))) ∧
    (s.boot.phase ≠ .heldInReset → p < 64 →
      (dst = parN s bKEEP 0 Par.efMgmtMac → dst ≠ 0 →
        (inbandPort s p = true → payload.take 4 = [0x5A, 0x56, 0, 0] → 16 ≤ (payload.drop 4).length →
          Leaves (.inbandCommandFrame p dst src vlan payload) s
            (takeRemote (.inband p src vlan) ((payload.drop 4).take (pktTotal (payload.drop 4))) s)) ∧
        (inbandPort s p = false → Leaves (.inbandCommandFrame p dst src vlan payload) s (discard s))) ∧
      (dst ≠ parN s bKEEP 0 Par.efMgmtMac → Leaves (.inbandCommandFrame p dst src vlan payload) s s)) ∧
    ((hdr s b).evtTimer = true →
      ((hdr s b).evtHeld = true → Leaves (.evtModExpiry b) s (signalVec b (modHdr b (fun h => { h with evtHeld := false }) s))) ∧
      ((hdr s b).evtHeld = false → Leaves (.evtModExpiry b) s (modHdr b (fun h => { h with evtTimer := false }) s)))

/-- Commands over the fault registers and the alive signal (R380, R384, R385, R387). -/
def Obligations.FaultCommands : Prop :=
  ∀ (h : CmdHdr) (b i r flt int : Nat) (s : State),
    (Taken 0x0E01 h s →
      (b < nBlocks → Answers (.faultRead h b) h 0x0E01 stOk
        ([w32 (hdr s b).fltStatus, w32 (fltFirst (hdr s b)), w32 (fltFirstTime (hdr s b)), w32 (fltOvf (hdr s b)),
          w32 (hdr s b).intStatus, w32 (hdr s b).intEnable, w32 (hdr s b).causeActive]
          ++ (List.range 32).map (reactWord s b)) s s) ∧
      Answers (.faultRead h 0xFF) h 0x0E01 stOk [firstWord s 0, firstWord s 1, firstWord s 2] s s) ∧
    (Taken 0x0E02 h s → b < nBlocks →
      Answers (.faultClear h b flt int false) h 0x0E02 stOk
        [w32 (hdr (writeInt b (fun x => clearFlt flt { x with intStatus := clrMask 32 x.intStatus int }) s) b).fltStatus,
         w32 (hdr (writeInt b (fun x => clearFlt flt { x with intStatus := clrMask 32 x.intStatus int }) s) b).causeActive] s
        (writeInt b (fun x => clearFlt flt { x with intStatus := clrMask 32 x.intStatus int }) s)) ∧
    (Taken 0x0E03 h s → b < nBlocks → ∀ row, faultRow b (faultMode s b) i = some row →
      (row.2.2 ≤ r → r ≤ 5 → ¬ (r = rBlockReset ∧ noBlockReset b = true) →
        Answers (.faultReactSet h b i r) h 0x0E03 stOk [] s (modHdr b (fun x => { x with react := x.react.set i r }) s)) ∧
      (r < row.2.2 ∨ 5 < r → Answers (.faultReactSet h b i r) h 0x0E03 stOutOfRange [] s s)) ∧
    (Taken 0x0E04 h s →
      (s.iso.running = true → Answers (.aliveResume h) h 0x0E04 stOk [] s s) ∧
      (s.iso.running = false → (List.range nBlocks).any (fun x => (hdr s x).stopFlag) = true ∨ s.host.nmi.isSome = true →
        Answers (.aliveResume h) h 0x0E04 stBusy [] s s) ∧
      (s.iso.running = false → (∀ x < nBlocks, (hdr s x).stopFlag = false) → s.host.nmi = none → s.pair.fatal = false →
        Answers (.aliveResume h) h 0x0E04 stOk [] s { s with iso := { s.iso with
          running := true, cause := 0, stopBlock := 0xFF, stopIndex := 0, period := s.iso.nextPeriod } })) ∧
    (Taken 0x0F04 h s →
      (s.boot.straps.testMode = true →
        Answers (.testUnlock h) h 0x0F04 stOk [] s { s with keep := { s.keep with testUnlocked := true } }) ∧
      (s.boot.straps.testMode = false → Answers (.testUnlock h) h 0x0F04 stLocked [] s s)) ∧
    (Taken 0x0E05 h s →
      (s.keep.testUnlocked = true → b < nBlocks → hasSource s b i = true →
        Answers (.faultInject h b i) h 0x0E05 stOk [] s (raiseFault b i true s)) ∧
      (s.keep.testUnlocked = false → Answers (.faultInject h b i) h 0x0E05 stLocked [] s s))

/-- Self-test, spares and the service record by command (R255, R393, R396, R406). -/
def Obligations.SelfTestAndSpareCommands : Prop :=
  ∀ (h : CmdHdr) (b u : Nat) (s : State),
    (Taken 0x0F01 h s → b < nBlocks → unitOk b u = true → s.boot.phase = .started → hlthServes s = true → s.hlth.bist.find b = none →
      isolated s b u = true →
      (∀ t, govRequest (.bistSlice b) (testBegun b u false s) = (.queued, t) →
        Answers (.bistRun h b u) h 0x0F01 stAccepted [] s (accept 0x0F01 b h t)) ∧
      (∀ t, govRequest (.bistSlice b) (testBegun b u false s) = (.full, t) →
        Answers (.bistRun h b u) h 0x0F01 stBusy [] s s)) ∧
    (Taken 0x0F01 h s → b < nBlocks → unitOk b u = true → s.boot.phase = .started → hlthServes s = true →
      (s.hlth.bist.find b).isSome = true ∨ isolated s b u = false → Answers (.bistRun h b u) h 0x0F01 stBusy [] s s) ∧
    (Taken 0x0F01 h s → b < nBlocks → unitOk b u = true → hlthServes s = false →
      Answers (.bistRun h b u) h 0x0F01 stNotReady [] s s) ∧
    (Taken 0x0F02 h s → rHlth s = true → u ≤ 271 → rBuf s = true → s.buf.drain = none →
      (∀ x, spareBank s = some x → bankState s u = 0 →
        Answers (.spareSwap h bBUF u) h 0x0F02 stAccepted [] s (accept 0x0F02 (unitKey bBUF u) h (beginDrain u x 1 s))) ∧
      (spareBank s = none → Answers (.spareSwap h bBUF u) h 0x0F02 stNoResource [] s s)) ∧
    (Taken 0x0F02 h s → b < nBlocks → unitOk b u = true → rHlth s = false →
      Answers (.spareSwap h b u) h 0x0F02 stNotReady [] s s) ∧
    (Taken 0x0F02 h s → rHlth s = true → b < nBlocks → unitOk b u = true → unitClass b u = some 0 →
      (lane s (4 * (b - 0x10) + u)).mode ≠ 0 → blkRun s b = true → (lane s (4 * (b - 0x10) + u)).adapt = .none →
      (lane s (4 * (b - 0x10) + u)).spare = .idle → underTest s b u = false → (lane s (4 * (b - 0x10) + u)).retired = none →
      ∀ t, govRequest (.spareTrain (4 * (b - 0x10) + u)) s = (.queued, t) →
        Answers (.spareSwap h b u) h 0x0F02 stAccepted [] s
          (accept 0x0F02 (unitKey b u) h (modLane (4 * (b - 0x10) + u) (fun x => { x with spare := .waitGrant }) t))) ∧
    (Taken 0x0F02 h s → rHlth s = true → u ≤ 1 → u = s.keep.pair →
      (s.keep.spareReady = true → s.keep.spareRetired = false →
        Answers (.spareSwap h bKEEP u) h 0x0F02 stOk [] s (pairSwap 1 s)) ∧
      (s.keep.spareReady = false → Answers (.spareSwap h bKEEP u) h 0x0F02 stNoResource [] s s)) ∧
    (Taken 0x0F03 h s → hlthServes s = false → ∀ start n, start < 24576 →
      Answers (.serviceRecordRead h 3 start n) h 0x0F03 stNotReady [] s s) ∧
    (Taken 0x0F03 h s → hlthServes s = true → ∀ start n,
      (start < 0x10000 → let k := min (min n (0x10000 - start)) (min 2048 (roomFor h 1 * 4))
        Answers (.serviceRecordRead h 1 start n) h 0x0F03 stOk
          (w32 k :: bytesWords (Memory.readAll s.flash (0x470000 + start) k)) s s) ∧
      (start < 24576 → let k := min (min n (24576 - start)) (min 64 (roomFor h 1 * 4 / 32))
        Answers (.serviceRecordRead h 3 start n) h 0x0F03 stOk
          (w32 k :: bytesWords (Memory.readAll s.flash (0x4A0000 + 32 * start) (32 * k))) s s) ∧
      Answers (.serviceRecordRead h 4 start n) h 0x0F03 stOutOfRange [] s s)

/-- Counters and rings by command (R272, R407, R411, R415). -/
def Obligations.CounterAndRingCommands : Prop :=
  ∀ (h : CmdHdr) (b n : Nat) (filt : Word64) (sel : Word) (l : List (Nat × Nat)) (s : State),
    (Taken 0x1001 h s → rTrace s = true → b < nBlocks → n < pcntCount b →
      (sel.toNat.testBit 31 = false ∨ pcntOk b sel.toNat filt.toNat = true →
        Answers (.counterConfig h b n filt sel) h 0x1001 stOk [] s
          (modHdr b (fun x => { x with
            pcnt := x.pcnt.set n ⟨0, sel.toNat &&& selBits, filt.toNat &&& filtBits⟩
            pcntOvf := clrBit x.pcntOvf n }) s)) ∧
      (sel.toNat.testBit 31 = true → pcntOk b sel.toNat filt.toNat = false →
        Answers (.counterConfig h b n filt sel) h 0x1001 stOutOfRange [] s s)) ∧
    (Taken 0x1001 h s → rTrace s = false → b < nBlocks → n < pcntCount b →
      sel.toNat.testBit 31 = false ∨ pcntOk b sel.toNat filt.toNat = true →
      Answers (.counterConfig h b n filt sel) h 0x1001 stNotReady [] s s) ∧
    (Taken 0x1002 h s → rTrace s = false → l ≠ [] → l.length ≤ 16 →
      Answers (.counterRead h l) h 0x1002 stNotReady [] s s) ∧
    (Taken 0x1002 h s → rTrace s = true →
      (l ≠ [] → l.length ≤ 16 → (∀ e ∈ l, e.1 < nBlocks ∧ e.2 < pcntCount e.1) →
        Answers (.counterRead h l) h 0x1002 stOk (l.flatMap (fun e =>
          w64 (b2n ((hdr s e.1).pcntOvf.testBit e.2) * 2 ^ 63 + (pcntOf s e.1 e.2).count % 2 ^ 48) ++ [w32 s.cycle])) s s) ∧
      (16 < l.length → Answers (.counterRead h l) h 0x1002 stOutOfRange [] s s)) ∧
    (Taken 0x1004 h s → 1 ≤ n → n ≤ 32 →
      (rTrace s = true → rStore s = true →
        let x := s.trace.ring.take (parN s bTRACE 0 Par.ctTraceRecords) (min n (roomFor h 16))
        Answers (.traceRead h n) h 0x1004 stOk (w32 (x.1.length / 16) :: x.1) s { s with trace := { s.trace with ring := x.2 } }) ∧
      (rTrace s = false ∨ rStore s = false → Answers (.traceRead h n) h 0x1004 stNotReady [] s s)) ∧
    (Taken 0x1005 h s → 1 ≤ n → n ≤ 64 →
      (rBuf s = true → rStore s = true →
        let x := s.buf.cap.take (parN s bBUF 0 Par.bfCapRecords) (min n (roomFor h 48))
        Answers (.captureRead h n) h 0x1005 stOk (w32 (x.1.length / 48) :: x.1) s { s with buf := { s.buf with cap := x.2 } }) ∧
      (rBuf s = false ∨ rStore s = false → Answers (.captureRead h n) h 0x1005 stNotReady [] s s))

/-- Reset release and the steps of a start (R363 to R372). -/
def Obligations.StartRows : Prop :=
  ∀ (straps : Straps) (aonValid flashOk : Bool) (pairs : Nat) (ids : List (Option (Nat × Nat))) (s : State),
    (s.boot.phase = .heldInReset → s.boot.jtagHold = false → pairs ≠ 0 →
      ∀ a b, a = recallAttempts aonValid s →
      b = autoRun bBOOT (autoRun bKEEP (modHdr bHOST (fun h => { h with state := .run })
        (modKeep (fun k => { k with spareReady := decide (3 ≤ pairs) && !k.spareRetired })
          (modHost (fun h => { h with training := !h.perstLow }) (modBoot (fun x =>
            { x with
              phase := .started, straps := straps, aonValid := aonValid, flashOk := flashOk,
              attempts := a.aon.attempts, cause := a.aon.cause }) a))))) →
      (straps.bootSrc % 4 = 2 → Leaves (.resetRelease straps aonValid flashOk pairs) s (enterStandby 6 b)) ∧
      (straps.bootSrc % 4 = 3 → Leaves (.resetRelease straps aonValid flashOk pairs) s (enterStandby 7 b)) ∧
      (straps.bootSrc % 4 < 2 →
        (pairs = 1 → Leaves (.resetRelease straps aonValid flashOk pairs) s (enterStandby 5 (recordCause 5 b))) ∧
        (pairs ≠ 1 → b.aon.attempts < 3 → Leaves (.resetRelease straps aonValid flashOk pairs) s (attempt b)) ∧
        (pairs ≠ 1 → 3 ≤ b.aon.attempts →
          Leaves (.resetRelease straps aonValid flashOk pairs) s (enterStandby b.aon.cause b)))) ∧
    (s.boot.phase ≠ .heldInReset ∨ s.boot.jtagHold = true ∨ pairs = 0 →
      Leaves (.resetRelease straps aonValid flashOk pairs) s s) ∧
    (s.boot.phase = .started →
      ((hdr s bCSYN).state = .off → Leaves .pllsLockedAtStart s ([bSHAFT, bREFS, bBUF, bCORE].foldl (fun s b => autoInit b s)
        ([bGUH, bTIC, bLKP, bSCHED, bTRACE].foldl (fun s b => autoRun b s) (autoRun bCSYN s)))) ∧
      ((hdr s bCSYN).state ≠ .off → Leaves .pllsLockedAtStart s s) ∧
      (s.keep.cmdService = false →
        (∀ k, s.boot.order.find? (fun k => slotValid s.flash k) = some k →
          Leaves .imageLoaded s (logStart (loadScript (modHlth (fun h => { h with recordOk := s.boot.flashOk })
            (modHdr bSTORE (fun h => { h with state := .run }) (modHdr bHLTH (fun h => { h with state := .run })
              (modKeep (fun x => { x with cmdService := true }) (modBoot (fun b =>
                { b with
                  image := k, fallback := decide (k ≠ preferredSlot s), fwVersion := beAt (imageHead s.flash k) 4 4,
                  tKeep := s.ticks / 625000 }) s)))))))) ∧
        (s.boot.order.find? (fun k => slotValid s.flash k) = none → Leaves .imageLoaded s s)) ∧
      (s.boot.bootOk = false →
        (s.keep.cmdService = true → reqMet s = true → Leaves .bootOk s (declareBootOk 0 s)) ∧
        (rKeepCmd s = true → Leaves .bootIncomplete s (raise bBOOT 5 (declareBootOk 1 s)))) ∧
      (s.boot.bootOk = true → Leaves .bootOk s s ∧ Leaves .bootIncomplete s s)) ∧
    (s.boot.phase ≠ .heldInReset → s.boot.calRead = false →
      Leaves (.calibrationLoad true true ids []) s (modHost (fun h => { h with spiServed := true })
        (loadIds ids (modBoot (fun b => { b with calRead := true, cal0 := true, cal1 := true }) s)))) ∧
    (s.boot.phase = .heldInReset ∨ s.boot.calRead = true → Leaves (.calibrationLoad true true ids []) s s)

/-- Resets, supplies and the PCIe link (R361, R363, R377, R382, R428, R431 to R433). -/
def Obligations.ResetRows : Prop :=
  ∀ (aonLost : Bool) (gen width : Nat) (s : State),
    (∀ c, (s.boot.bootOk = false → s.boot.phase = .started → endAttempt c s = recordCause c s) ∧
      (s.boot.bootOk = true ∨ s.boot.phase ≠ .started → endAttempt c s = s)) ∧
    ((chipReset s).pending = s.pending ∧ (chipReset s).aon = s.aon ∧ (chipReset s).flash = s.flash ∧
      (chipReset s).boot.phase = .heldInReset ∧ (chipReset s).outbox = (pinsAtReset s).outbox) ∧
    (s.boot.supplyFall = true → Leaves .resetNLow s (chipReset (endAttempt 4 s))) ∧
    (s.boot.supplyFall = false → Leaves .resetNLow s (chipReset s)) ∧
    (s.boot.phase ≠ .heldInReset →
      Leaves .supplyFalling s (setFatal { s with boot := { s.boot with supplyFall := true } }) ∧
      Leaves .keeperWatchdogExpiry s (chipReset (endAttempt 2 (setFatal
        (stopIso 2 0 0 { s with keep := { s.keep with wdExpired := true } }))))) ∧
    (s.boot.phase = .heldInReset → Leaves .supplyFalling s s ∧ Leaves .keeperWatchdogExpiry s s) ∧
    (s.boot.supplyFall = true → ∀ t, t = chipReset (endAttempt 4 s) →
      ∀ u, u = { t with hlth := { t.hlth with life := { t.hlth.life with
        chipResets := t.hlth.saved.chipResets, cycles := (t.hlth.saved.cycles + 1) % 2 ^ 32 } } } →
      Leaves (.supplyReset false) s u ∧ Leaves (.supplyReset true) s { u with aon := aonFallen u.aon }) ∧
    (s.boot.supplyFall = false → Leaves (.supplyReset aonLost) s s) ∧
    Leaves (.jtagInstruction true) s (chipReset { s with boot := { s.boot with jtagHold := true } }) ∧
    Leaves (.jtagInstruction false) s { s with boot := { s.boot with jtagHold := false } } ∧
    (s.boot.resetDue = true → Leaves .chipReset s (chipReset (endAttempt 3 s))) ∧
    (s.boot.resetDue = false → Leaves .chipReset s s) ∧
    Leaves .perstNLow s (pcieDown (modHost (fun h => { h with perstLow := true, training := false }) s)) ∧
    Leaves .perstNRise s { s with host := { s.host with perstLow := false, training := s.host.perstLow || s.host.training } } ∧
    (s.host.pcieUp = true → Leaves .pcieLinkDown s (raise bHOST 0 (report bHOST 0x02 [0, 0] { s with
      host := { s.host with pcieUp := false, gen := 0, width := 0, en := false, orphans := s.host.orphans ++ s.host.fetched, fetched := [], owed := [] }
      keep := { s.keep with cmdDiscarded := (s.keep.cmdDiscarded + s.host.owed.length) % 2 ^ 32 } }))) ∧
    (s.host.pcieUp = false →
      Leaves .pcieLinkDown s s ∧
      (s.host.perstLow = false → s.boot.phase ≠ .heldInReset → Leaves (.pcieLinkUp gen width) s
        (report bHOST 0x02 [w32 (gen % 8), w32 (width % 8)] (endCause bHOST 0 (endCause bCSYN 7 { s with
          host := { s.host with pcieUp := true, gen := gen % 8, width := width % 8, training := false }
          clk := { s.clk with pcieLock := true } }))))) ∧
    (s.host.pcieUp = true ∨ s.host.perstLow = true → Leaves (.pcieLinkUp gen width) s s) ∧
    (gen < nBlocks →
      ((hdr s gen).state = .init ∨ (hdr s gen).state = .ready ∨ (hdr s gen).state = .fault → Leaves (.blockReachesRun gen) s
        (completeDone 0x000A gen stOk (completeDone 0x0009 gen stOk
          (startFunction gen (modHdr gen (fun h => { h with state := .run }) s))))) ∧
      ((hdr s gen).state = .off ∨ (hdr s gen).state = .run → Leaves (.blockReachesRun gen) s s))

/-- The rows that move a trunk's link state, and its exchange window (R62, R63, R65, R66, R68, R73, R81, R116). -/
def Obligations.TrunkLinkRows : Prop :=
  ∀ (p fom : Nat) (s : State), isTrunk s p = true →
    (∀ t, t = modLane p (fun x => { x with sigDet := true }) s →
      (blkRun t (bP p) = true → (trunk t p).link = .down → parN t (bP p) 0 Par.dfLinkAdmin = 1 → (lane t p).sigDet = true →
        (lane t p).cdrLock = true → ∀ u, u = setLink p .locking (modTrunk p (fun x =>
          { x with adaptDone := laneAdapted t p, txTrained := false, rx := { x.rx with commas := 0, lastSlot := none } }) t) →
        portLocking u p = true →
        (laneAdapted u p = true → Leaves (.signalDetected p) s u) ∧
        (laneAdapted u p = false → Leaves (.signalDetected p) s (startAdapt p u))) ∧
      ((trunk t p).link ≠ .down → portLocking t p = false → Leaves (.signalDetected p) s t)) ∧
    ((trunk s p).link = .locking → Leaves (.lockTimeout p) s (raise (bP p) 1 s)) ∧
    ((trunk s p).link ≠ .locking → Leaves (.lockTimeout p) s s) ∧
    ((trunk s p).link = .aligned → ∀ g, (trunk s p).training = some g → ∀ x, x = (trunk s p).tx →
      ∀ t, t = setTrunk p { trunk s p with txTrained := true, training := none, tx := { x with preReq := 0, postReq := 0 } } s →
      (g.finished = true → Leaves (.trainingDone p fom) s
        (report (bP p) 0x44 [BitVec.ofInt 32 g.netPre, BitVec.ofInt 32 g.netPost, w32 fom] t) ∧
        Leaves (.trainingRequestTimeout p) s s) ∧
      (g.finished = false → Leaves (.trainingRequestTimeout p) s
        (report (bP p) 0x44 [BitVec.ofInt 32 g.netPre, BitVec.ofInt 32 g.netPost, w32 (lane s p).fom] t) ∧
        Leaves (.trainingDone p fom) s s)) ∧
    ((trunk s p).training = none → Leaves (.trainingDone p fom) s s ∧ Leaves (.trainingRequestTimeout p) s s) ∧
    ((trunk s p).link = .aligned → (trunk s p).adaptDone = true →
      (trunk s p).txTrained = true ∨ parN s (bP p) 0 Par.dfTxTrain = 0 →
      (trunk s p).rx.clean = 1024 → 2 ≤ (trunk s p).rx.alarm / 2 ^ 57 % 8 →
      Leaves (.trunkTrained p) s (farEndRule p (allocateCredits p (enterTrained p s)))) ∧
    ((trunk s p).link ≠ .aligned → Leaves (.trunkTrained p) s s) ∧
    ((trunk s p).link = .trained → (trunk s p).time.timeOk = false → timeCheck s p = true → ∀ t, t = presence p (setLink p .timed
        (report (bP p) 0x41 [1, 0] (setTrunk p { trunk s p with time := { (trunk s p).time with timeOk := true, stepRun := 0 } } s))) →
      ((trunk t p).link = .timed → Leaves (.timeCheckPassed p) s (reachUp p (checkCredit p t)))) ∧
    (timeCheck s p = false → (trunk (presence p s) p).link ≠ .timed → Leaves (.timeCheckPassed p) s (presence p s)) ∧
    (64 ≤ (trunk s p).time.lost → Leaves (.exchangeLoss p) s (presence p (clearTimeOk p 1 s))) ∧
    ((trunk s p).time.lost < 64 → Leaves (.exchangeLoss p) s (presence p s)) ∧
    ((trunk s p).link = .timed ∨ (trunk s p).link = .trained → ∀ t, t = setTrunk p { trunk s p with heldOff := true } s →
      ((trunk s p).link = .timed → (trunk s p).flushed = true → 4 ≤ (trunk s p).rx.alarm / 2 ^ 57 % 8 →
        Leaves (.trunkHoldoffExpired p) s (presence p (setLink p .up t))) ∧
      ((trunk s p).link = .trained ∨ (trunk s p).flushed = false ∨ (trunk s p).rx.alarm / 2 ^ 57 % 8 < 4 →
        Leaves (.trunkHoldoffExpired p) s (presence p t))) ∧
    (2 ≤ (trunk s p).link.code → (quad s (p / 4)).filterOff = false →
      (3 ≤ (trunk (lossMisses p s) p).rx.missRun →
        Leaves (.trunkLinkDownFilter p) s (presence p (linkDown p (lossMisses p s)))) ∧
      ((trunk (lossMisses p s) p).rx.missRun < 3 → Leaves (.trunkLinkDownFilter p) s (presence p (lossMisses p s)))) ∧
    ((trunk s p).link.code < 2 ∨ (quad s (p / 4)).filterOff = true → Leaves (.trunkLinkDownFilter p) s (presence p s)) ∧
    (parN s (bP p) 0 Par.dfLinkAdmin = 1 → Leaves (.linkAdminDown p) s (adminDown p (setPar (bP p) 0 Par.dfLinkAdmin 0 s))) ∧
    (parN s (bP p) 0 Par.dfLinkAdmin ≠ 1 → Leaves (.linkAdminDown p) s s) ∧
    (∀ m, m = (trunk s p).time →
      (m.discarded ≤ m.winEx.length → 2 ^ m.win.log2 ≤ 4 * (m.winEx.length + m.discarded) →
        ∀ e t, e = -(meanOf (m.winEx.map (·.2.2))) → t = setTrunk p { trunk s p with
          time := newWindow s p { m with emptyRun := 0, prevMean := some (meanOf (m.winEx.map (·.1))),
                                         meanDelay := meanOf (m.winEx.map (·.1)), asym := meanOf (m.winEx.map (·.2.1)),
                                         offset := meanOf (m.winEx.map (·.2.2)) } } s →
        Leaves (.exchangeWindowEnd p) s (phaseSample (0x20 + p) e (effGuhSample (0x20 + p) e t))) ∧
      (m.winEx.length < m.discarded ∨ 4 * (m.winEx.length + m.discarded) < 2 ^ m.win.log2 →
        Leaves (.exchangeWindowEnd p) s (raise bGUH 4 (setTrunk p { trunk s p with time := newWindow s p { m with
          emptyRun := m.emptyRun + 1, prevMean := if 2 ≤ m.emptyRun + 1 then none else m.prevMean } } s))))

/-- DIFIVI_BLOCK_RECEIVED and DIFIVI_BLOCK_TRANSMIT (R43 to R48, R54 to R56, R62, R71, R73, R79, R81). -/
def Obligations.TrunkBlockRows : Prop :=
  ∀ (p raw : Nat) (found : Bool) (region : List Bool) (s : State), ∀ r, r = (trunk s p).rx →
    (isTrunk s p = true → blkRun s (bP p) = true →
      ((trunk s p).link = .down → Leaves (.difiviBlockReceived p found region raw) s (blockHeard p r s)) ∧
      ((trunk s p).link = .locking → Leaves (.difiviBlockReceived p found region raw) s
        (blockHeard p r (searchComma p found (readHeader (natMsb (region.take 16))) s))) ∧
      (2 ≤ (trunk s p).link.code →
        (∀ slot seq, readHeader (natMsb (region.take 16)) = some (slot, seq) →
          (r.lastSlot.map (fun k => (k + 1) % 16) = some slot ∨ r.lastSlot = none →
            ∀ t, t = setTrunk p { trunk s p with rx := { r with missRun := 0, lastSlot := some slot } } s →
            ∀ bits bad, destuff 1928 region 0 none = (bits, bad) →
            (bad = true → Leaves (.difiviBlockReceived p true region raw) s (blockHeard p r (raise (bP p) 3 (modTrunk p (fun x =>
              { x with rx := { cntSignal (breakFrame x) with errStuff := (x.rx.errStuff + 1) % 2 ^ 32, clean := 0 } }) t)))) ∧
            (bad = false → ∀ body, body = scramble (scrSeed slot seq) (bits.drop 16) →
              ∀ u, u = rxSignal p slot seq (rxPin s p raw) (natMsb (body.take 64))
                (modTrunk p (fun x => { x with rx := { x.rx with clean := min (x.rx.clean + 1) 1024 } }) t) →
              ∀ n, n = rxWords (parN u (bP p) 0 Par.dfTrunkMtu) (rxPin s p raw) 28 (body.drop 64) (trunk u p).rx →
              ((trunk u p).link = .up → Leaves (.difiviBlockReceived p true region raw) s (blockHeard p r
                (setTrunk p { trunk u p with rx := n } u))) ∧
              ((trunk u p).link ≠ .up → 2 ≤ (trunk u p).link.code → Leaves (.difiviBlockReceived p true region raw) s
                (blockHeard p r (setTrunk p { trunk u p with rx := { n with ended := (trunk u p).rx.ended } } u))) ∧
              ((trunk u p).link.code < 2 → Leaves (.difiviBlockReceived p true region raw) s
                (blockHeard p r (setTrunk p (trunk u p) u))))) ∧
          ((∃ k, r.lastSlot = some k ∧ (k + 1) % 16 ≠ slot) →
            Leaves (.difiviBlockReceived p true region raw) s (blockHeard p r (missBlock p (rxPin s p raw) s)))) ∧
        (found = false ∨ readHeader (natMsb (region.take 16)) = none →
          Leaves (.difiviBlockReceived p found region raw) s (blockHeard p r (missBlock p (rxPin s p raw) s)))) ∧
      ((lane s p).squelched = false → ∀ s1 s2, s1 = beginSuper p (loadMgmt p ((s.keep.mgmtTx.get [] p).length) s) →
        s2 = (if (trunk s1 p).tx.slot = 0 then superTick p s1 else s1) →
        ∀ sig t, txSignal s2 p (txPin s2 p raw) (trunk s2 p) = (sig, t) → ∀ slot seq ws, slot = (trunk s2 p).tx.slot →
        seq = (trunk s2 p).tx.superNo →
        ws = (if t.tx.ending = true then [abortWord 3] else if t.link = .up then t.tx.words.take 28 else []) →
        ∀ u, u = emit (.block p (buildBlock slot seq sig (ws ++ List.replicate (28 - ws.length) idleWord))) (setTrunk p { t with
          tx := { t.tx with
            ending := false
            words := if t.link = .up ∧ t.tx.ending = false then t.tx.words.drop 28 else t.tx.words
            slot := (slot + 1) % 16
            superNo := if slot = 15 then (seq + 1) % 4096 else seq } } s2) →
        (slot = 3 ∨ slot = 9 ∨ slot = 15 → Leaves (.difiviBlockTransmit p raw) s (creditWatch p u)) ∧
        (slot ≠ 3 → slot ≠ 9 → slot ≠ 15 → Leaves (.difiviBlockTransmit p raw) s u))) ∧
    (isTrunk s p = false ∨ blkRun s (bP p) = false →
      Leaves (.difiviBlockReceived p found region raw) s (blockHeard p r s) ∧ Leaves (.difiviBlockTransmit p raw) s s) ∧
    ((lane s p).squelched = true → Leaves (.difiviBlockTransmit p raw) s s)

/-- Reading a block undoes making it (R43, R44, R46 to R49). -/
def Obligations.LineCodeRoundTrip : Prop :=
  (∀ slot seq, slot < 16 → seq < 256 → readHeader (mkHeader slot seq) = some (slot, seq)) ∧
  (∀ (seed : Nat) (l : List Bool), scramble seed (scramble seed l) = l) ∧
  (∀ (l rest : List Bool) (run : Nat) (last : Option Bool), run < 24 →
    destuff l.length ((stuff l run last).1 ++ rest) run last = (l, false)) ∧
  (∀ (slot seq sig : Nat) (ws : List (Bool × Word64)), slot < 16 → seq < 256 → sig < 2 ^ 64 → ws.length = 28 →
    ∀ region, region = (buildBlock slot seq sig ws).drop 32 →
      readHeader (natMsb (region.take 16)) = some (slot, seq) ∧
      (destuff 1928 region 0 none).2 = false ∧
      scramble (scrSeed slot seq) ((destuff 1928 region 0 none).1.drop 16) = bitsMsb 64 sig ++ ws.flatMap wordBits)

/-- Link states and flow control of an edge port (R85, R86, R90 to R93, R96). -/
def Obligations.EdgeLinkRows : Prop :=
  ∀ (p ab c en : Nat) (pfc : Bool) (quanta : List Nat) (s : State), isEdge s p = true →
    ((edge s p).link ≠ .down → (edge s p).adaptDone = true → anOk s p ab = true →
      ∀ t, t = wordLockHeld p s →
      ∀ u, u = clearLinkFaults p (if anRuns t p = true ∧ (edge t p).anDone = false then
          report (bP p) 0x21 [1, w32 ab] (modEdge p (fun e => { e with anDone := true }) t) else t) →
      ((edge u p).link = .locking → Leaves (.edgeLocked p ab) s (setEdgeLink p .holdoff
        (modEdge p (fun e => { e with holdFrom := u.ticks }) u))) ∧
      ((edge u p).link ≠ .locking → Leaves (.edgeLocked p ab) s u)) ∧
    ((edge s p).link = .down ∨ (edge s p).adaptDone = false ∨ anOk s p ab = false → Leaves (.edgeLocked p ab) s s) ∧
    ((edge s p).link = .holdoff → (edge s p).flushed = true → (portLanes s p).all (fun l => (lane s l).wordLock) = true →
      (edge s p).holdFrom + parN s (bP p) 0 Par.epHoldoff * 625000 ≤ s.ticks → ∀ t, t = setEdgeLink p .up s →
      (ptpRole t p ≠ 1 → Leaves (.edgeHoldoffExpired p) s (presence p t)) ∧
      (ptpRole t p = 1 → Leaves (.edgeHoldoffExpired p) s (presence p (setPtpState p 1 t)))) ∧
    ((edge s p).link ≠ .holdoff ∨ (edge s p).flushed = false ∨ (portLanes s p).all (fun l => (lane s l).wordLock) = false ∨
      s.ticks < (edge s p).holdFrom + parN s (bP p) 0 Par.epHoldoff * 625000 → Leaves (.edgeHoldoffExpired p) s s) ∧
    ((edge s p).link ≠ .down → ∀ t, t = modEdge p (fun e => { e with filter := e.link == .holdoff || e.link == .up }) s →
      (∀ u, u = wordLockGone p t →
        ((edge u p).link = .holdoff → Leaves (.wordLockLost ⟨p, .wordLock⟩) s (modEdge p (fun e => { e with holdFrom := u.ticks }) u)) ∧
        ((edge u p).link ≠ .holdoff → Leaves (.wordLockLost ⟨p, .wordLock⟩) s u)) ∧
      (3 ≤ portMode s p → Leaves (.wordLockLost ⟨p, .hiBer⟩) s
        (beginCause (bP p) 4 (modEdge p (fun e => { e with hiBer := true }) t))) ∧
      Leaves (.wordLockLost ⟨p, .localFault⟩) s (modEdge p (fun e => { e with locFault := true }) t) ∧
      Leaves (.wordLockLost ⟨p, .remoteFault⟩) s (beginCause (bP p) 2 (modEdge p (fun e => { e with rxFault := true }) t)) ∧
      (anRuns s p = true → Leaves (.wordLockLost ⟨p, .anRestart⟩) s
        (modEdge p (fun e => { e with anRestart := true, anDone := false }) t)) ∧
      (portMode s p < 3 → Leaves (.wordLockLost ⟨p, .hiBer⟩) s s) ∧
      (anRuns s p = false → Leaves (.wordLockLost ⟨p, .anRestart⟩) s s)) ∧
    ((edge s p).link = .down → ∀ k, Leaves (.wordLockLost ⟨p, k⟩) s s) ∧
    ((edge s p).filter = true → (quad s (p / 4)).filterOff = false → Leaves (.edgeLinkDownFilter p) s (edgeDown p s)) ∧
    ((edge s p).filter = false ∨ (quad s (p / 4)).filterOff = true → Leaves (.edgeLinkDownFilter p) s s) ∧
    (anRuns s p = true → (edge s p).link = .locking → Leaves (.anFail p) s (raise (bP p) 1 (report (bP p) 0x21 [0, 0] s))) ∧
    (anRuns s p = false → Leaves (.anFail p) s s) ∧
    ((edge s p).link = .up →
      Leaves (.pfcFrameReceived p pfc en quanta) s (modEdge p (fun e =>
        { e with
          pfcRx := (e.pfcRx + 1) % 2 ^ 32
          paused := (pauseActs s p pfc en quanta).foldl
            (fun m a => if a.2 = 0 then m.del a.1 else m.set a.1 (a.2 % 65536)) e.paused }) (shapePort p s)) ∧
      (pauseDue s p = true → (portSched s p).tx = none → Leaves (.pfcSend p) s (sendPause p (edge s p).due s)) ∧
      (pauseDue s p = false ∨ (portSched s p).tx ≠ none → Leaves (.pfcSend p) s s) ∧
      ((edge s p).asserted ≠ 0 → ∀ t, t = modEdge p (fun e => { e with due := e.asserted ||| e.due }) s →
        ((portSched t p).tx = none → Leaves (.pfcRefresh p) s (sendPause p (edge t p).due t)) ∧
        ((portSched t p).tx ≠ none → Leaves (.pfcRefresh p) s t)) ∧
      ((edge s p).asserted = 0 → Leaves (.pfcRefresh p) s s)) ∧
    ((edge s p).paused.find c ≠ none →
      Leaves (.pauseExpired p c) s (modEdge p (fun e => { e with paused := e.paused.del c }) (shapePort p s)) ∧
      Leaves (.pfcStorm p c) s (raise (bP p) 5 (report (bP p) 0x22 [w32 c] s))) ∧
    ((edge s p).paused.find c = none → Leaves (.pauseExpired p c) s s ∧ Leaves (.pfcStorm p c) s s)

/-- The loops of CSYN (R159, R162, R163, R166 to R168) and Store's interface (R21, R24). -/
def Obligations.ClockLoopRows : Prop :=
  ∀ (pll size k o : Nat) (s : State), pll < 2 →
    (timeLocked s pll = true → ∀ t, t = timeSwapFails (beginCause bCSYN (1 + pll)
        (modClk (fun c => if pll = 0 then { c with lockA := false, relockA := true }
          else { c with lockB := false, relockB := true }) s)) →
      (t.clk.timeServing ≠ pll → Leaves (.timePllUnlock pll) s t) ∧
      (t.clk.timeServing = pll → timeLocked t (1 - pll) = true → Leaves (.timePllUnlock pll) s
        (substituted none bCSYN 0 0 3 (report bCSYN 0x02 [w32 (1 - pll), 0]
          (modClk (fun c => { c with timeServing := 1 - pll }) (bistYield bCSYN 0 t)))))) ∧
    (s.clk.relockA = true ∨ s.clk.relockB = true → Leaves .timePllRelockFail s
      (raise bCSYN 3 (modClk (fun c => { c with relockA := false, relockB := false }) s))) ∧
    (csynRuns s = true → timeLocked s 1 = false → timeLocked s s.clk.timeServing = true → Leaves (.timePllRelocked 1) s
      (coreFollows (endCause bCSYN 4 (endCause bCSYN 2 (modClk (fun c => { c with lockB := true, relockB := false }) s))))) ∧
    (csynRuns s = true → Leaves .timePllBoth s
      (coreFollows (beginCause bCSYN 4 (timeSwapFails (modClk (fun c => { c with lockA := false, lockB := false }) s))))) ∧
    (s.clk.swapReq = true → govGranted s .timePllSwap = true → s.clk.lockA = true → s.clk.lockB = true →
      ∀ t, t = completeWith 0x0F02 (unitKey bCSYN 0) bCSYN 0x02 [w32 (1 - s.clk.timeServing), 1] stOk
          (govEnd .timePllSwap (modClk (fun c => { c with timeServing := 1 - s.clk.timeServing, swapReq := false }) s)) →
        Leaves .timePllSwapped s (rotSwapped bCSYN 0 (substituted none bCSYN 0 0 (swapCause t bCSYN 0) t))) ∧
    (s.clk.coreLock = true → ∀ t, t = beginCause bCSYN 5 (modClk (fun c => { c with coreLock := false }) s) →
      (timeLocked s s.clk.timeServing = true → Leaves .corePllUnlock s (coreFrom 1 t)) ∧
      (timeLocked s s.clk.timeServing = false → Leaves .corePllUnlock s (coreFrom 2 t))) ∧
    (csynRuns s = true → ∀ t, t = endCause bCSYN 5 (modClk (fun c => { c with coreLock := true }) s) →
      parN t bCSYN 0xF0 Par.ckCoreReturn = 0 → Leaves .coreReturn s (coreFrom 0 t)) ∧
    (s.clk.storeLock = true → Leaves .storePllUnlock s
      { beginCause bCSYN 6 (modClk (fun c => { c with storeLock := false }) s) with storeTrained := false }) ∧
    (s.clk.pcieLock = true → Leaves .pciePllUnlock s
      (pcieDown (beginCause bCSYN 7 (modClk (fun c => { c with pcieLock := false }) s)))) ∧
    ((hdr s bSTORE).state ≠ .off → s.clk.csynStopped = false → 1 ≤ size → size ≤ 4 →
      Leaves (.storeTrained true size) s
        { modClk (fun c => { c with storeLock := true }) (endCause bCSYN 6 (endCause bSTORE 2 s)) with storeTrained := true, storeSize := size } ∧
      Leaves (.storeTrained false size) s (raise bSTORE 2 { s with storeTrained := false })) ∧
    (s.storeTrained = true →
      Leaves (.storeRetrain true) s (report bSTORE 0x02 [] { s with storeRetrains := min (s.storeRetrains + 1) 255 }) ∧
      Leaves (.storeRetrain false) s
        (raise bSTORE 2 { s with storeRetrains := min (s.storeRetrains + 1) 255, storeTrained := false })) ∧
    (k < 2 → s.clk.auxLock0 = true → s.clk.auxLock1 = true → Leaves (.auxUnlock k) s
      (beginCause bCSYN 8 (modClk (fun c => if k = 0 then { c with auxLock0 := false } else { c with auxLock1 := false }) s))) ∧
    (o < 16 → csynRuns s = true → Leaves (.dllFail o) s (raise bCSYN 11 s))

/-- Rows of a lane (R32 to R35, R38, R39). -/
def Obligations.SpareSliceSequence : Prop :=
  ∀ (l cause q : Nat) (run : AdaptRun) (e : Eye) (rx : Bool) (temp : Int) (m : LatMeas) (s : State),
    ((lane s l).spare = .training → ∀ peak taps fom, runAdapt (lane s l).sparePeak (lane s l).spareCtle run = (peak, taps, fom) →
      ∀ t, t = modLane l (fun x => { x with spareCtle := peak, spareDfe := taps }) (govEnd (.spareTrain l) s) →
      (parN t (bQ (l / 4)) (l % 4) Par.lnSpareFomMin ≤ fom →
        Leaves (.spareTrainingDone l run) s (modLane l (fun x => { x with spare := .comparing }) t)) ∧
      (fom < parN t (bQ (l / 4)) (l % 4) Par.lnSpareFomMin → Leaves (.spareTrainingDone l run) s (sliceAborts l 5 t))) ∧
    ((lane s l).spare = .comparing →
      Leaves (.spareComparePass l true) s (modLane l (fun x => { x with spare := .armed }) s) ∧
      Leaves (.spareComparePass l false) s (sliceAborts l 6 s)) ∧
    ((lane s l).spare = .armed → ∀ t, t = completeWith 0x0F02 (unitKey (bQ (l / 4)) (l % 4)) (bQ (l / 4)) 0x13
        [w32 (l % 4), w32 (1 - (lane s l).slice)] stOk
        (publish l true m (modLane l (fun x =>
          { x with
            slice := 1 - (lane s l).slice, spare := .idle
            ctle := x.spareCtle, dfe := x.spareDfe, spareCtle := x.ctle, spareDfe := x.dfe }) s)) →
      Leaves (.sliceSwapped l m) s (rotSwapped (bQ (l / 4)) (l % 4)
        (substituted none (bQ (l / 4)) (l % 4) (l % 4) (swapCause t (bQ (l / 4)) (l % 4)) t))) ∧
    ((lane s l).spare ≠ .idle → Leaves (.sliceAbort l cause) s
      (rotFails (bQ (l / 4)) (l % 4) (completeWith 0x0F02 (unitKey (bQ (l / 4)) (l % 4)) (bQ (l / 4)) 0x14
        [w32 (l % 4), w32 cause] stNotReady (modLane l (fun x => { x with spare := .idle }) (govCancel (.spareTrain l) s))))) ∧
    ((lane s l).mode ≠ 0 → (lane s l).cdrLock = true → ∀ fom, fom = eyeFom e →
      (parN s (bQ (l / 4)) (l % 4) Par.lnFomWarn ≤ fom →
        Leaves (.fomRefresh l e) s (modLane l (fun x => { x with fom := fom, fomLow := 0 }) s)) ∧
      (fom < parN s (bQ (l / 4)) (l % 4) Par.lnFomWarn → (lane s l).fomLow = 9 →
        Leaves (.fomRefresh l e) s (laneEvent l 0x11 [w32 fom] (modLane l (fun x => { x with fom := fom, fomLow := 10 }) s))) ∧
      (fom < parN s (bQ (l / 4)) (l % 4) Par.lnFomWarn → (lane s l).fomLow < 9 →
        Leaves (.fomRefresh l e) s (modLane l (fun x => { x with fom := fom, fomLow := (lane s l).fomLow + 1 }) s)) ∧
      Leaves (.latencyChanged l rx m) s (publish l rx m s) ∧
      Leaves (.cdrLos l) s (laneLost l (laneFault l 0 s))) ∧
    ((lane s l).mode ≠ 0 → (lane s l).cdrLock = false → ∀ t, t = modLane l (fun x =>
        { x with
          fom := 0
          fomLow := min (if 0 < parN s (bQ (l / 4)) (l % 4) Par.lnFomWarn then (lane s l).fomLow + 1 else 0) 11 }) s →
      (lane s l).fomLow ≠ 9 → Leaves (.fomRefresh l e) s t) ∧
    (-128 ≤ temp → temp ≤ 127 → Leaves (.latencyTempUpdate 16 temp) s { s with tic := { s.tic with temp := temp } }) ∧
    (-128 ≤ temp → temp ≤ 127 → q ≠ 16 → Leaves (.latencyTempUpdate q temp) s
      ((List.range 4).foldl (fun s n =>
        if (lane s (4 * q + n)).mode ≠ 0 ∧ (lane s (4 * q + n)).latValid then
          publish (4 * q + n) true (lane s (4 * q + n)).rxMeas (publish (4 * q + n) false (lane s (4 * q + n)).txMeas s)
        else s) (modQuad q (fun x => { x with temp := temp }) s))) ∧
    ((lane s l).mode ≠ 0 →
      ((lane s l).txSpare < 4 → Leaves (.txSegmentSwapped l) s (laneEvent l 0x15 [w32 ((lane s l).txSpare + 1)]
        (modLane l (fun x => { x with txSpare := x.txSpare + 1 }) (laneFault l 4 s)))) ∧
      (4 ≤ (lane s l).txSpare → Leaves (.txSegmentSwapped l) s (laneFault l 4 s)))

/-- Quad PLLs (R28 to R31); which PLL serves after a lone re-lock is deduced (log entry 26). -/
def Obligations.QuadPllRows : Prop :=
  ∀ (q pll n : Nat) (meas : List (LatMeas × LatMeas)) (s : State), pll < 2 →
    (pllLocked s q pll = true → ∀ t, t = beginCause (bQ q) pll
        (modQuad q (fun x => if pll = 0 then { x with lockA := false } else { x with lockB := false }) s) →
      ((quad t q).paired = true → (quad t q).serving = pll → ∀ u, u = bistYield (bQ q) (8 + (1 - pll)) t →
        (quad u q).paired = true → (quad u q).serving = pll → pllLocked u q (1 - pll) = true →
        ∀ v, v = substituted none (bQ q) (8 + pll) (8 + (1 - pll)) 3 (report (bQ q) 0x02 []
            (modQuad q (fun x => { x with
              serving := 1 - pll, failovers := min (x.failovers + 1) 255, failBusy := true, filterOff := true }) u)) →
          Leaves (.quadPllUnlock q pll) s ((activeLanes v q).foldl (fun s l => failoverLane l s) v)) ∧
      ((quad t q).paired = true → (quad t q).serving = 1 - pll → hasServing t q = true →
        Leaves (.quadPllUnlock q pll) s t)) ∧
    ((quad s q).failBusy = true → ∀ t, t = modQuad q (fun x => { x with failBusy := false }) s →
      Leaves (.failoverDone q meas) s (report (bQ q) 0x03 [] ((activeLanes t q).foldl (fun u l =>
        if (lane u l).cdrLock then
          publishBoth l (meas.getD (l % 4) ((lane u l).txMeas, (lane u l).rxMeas)).1
            (meas.getD (l % 4) ((lane u l).txMeas, (lane u l).rxMeas)).2 u
        else u) t))) ∧
    Leaves (.failoverFilterEnd q) s (modQuad q (fun x => { x with filterOff := false }) s) ∧
    (blkRun s (bQ q) = true → (quad s q).paired = true → (quad s q).lockA ≠ (quad s q).lockB →
      Leaves (.pllRelockFail q) s (raise (bQ q) 3 s)) ∧
    (blkRun s (bQ q) = true → (quad s q).lockA = false → (quad s q).lockB = true → (quad s q).planA ≠ 0 →
      ∀ t, t = endCause (bQ q) 0 (modQuad q (fun x => { x with lockA := true }) s) → allServing t q = true → ∀ u, u = endCause (bQ q) 2 t →
      Leaves (.quadPllRelocked q 0) s (driveLines q ((activeLanes u q).foldl (fun v l =>
        if pllLocked v q (lanePll v l) then modLane l (fun x => { x with squelched := false }) v else v) u))) ∧
    (n < 4 → (lane s (4 * q + n)).mode ≠ 0 → pllLocked s q (lanePll s (4 * q + n)) = false →
      Leaves (.noServingPll q n) s (quadLoss q (driveLines q (laneLost (4 * q + n)
        (modLane (4 * q + n) (fun x => { x with squelched := true }) (beginCause (bQ q) 2 s)))))) ∧
    (blkRun s (bQ q) = true → (quad s q).lockA = true → (quad s q).planA ≠ 0 → allServing s q = true → hasServing s q = true →
      Leaves (.quadReady q) s (driveLines q ((activeLanes s q).foldl (fun s l => modLane l (fun x => { x with squelched := false }) s)
        (modQuad q (fun x => { x with ready := true }) s))))

/-- Rows of REFS and REF_FORCE (R136, R140, R147, R148, R150, R155 to R157). -/
def Obligations.ReferenceRows : Prop :=
  ∀ (h : CmdHdr) (c i k stamp ns frac : Nat) (freq : Int) (s : State), rRefs s = true →
    (∀ v, v = passTo (dueOf s (65536 * ns + frac)) s →
      rRefs v = true → (cand v c).present = true → (cand v c).state ≠ .off →
      (∀ f, measure v c = some f → ∀ t, t = modCand c (fun x =>
          { x with
            freq := f, refits := x.refits + 1, tol := par v bREFS c Par.rfPhaseTol
            clock := x.clock + candPar v c Par.rfMonWindow }) v →
        Leaves (.monitorRefit c ns frac) s
          (evaluate (steerByFreq c (disputeStep c 2 (disputeStep c 1 (disputeStep c 0 (bandPhase c t))))))) ∧
      (measure v c = none → Leaves (.monitorRefit c ns frac) s v)) ∧
    (k < 12 → ∀ t, t = dueOf s stamp →
      ((cand s k).edge = none → Leaves (.refEdge k stamp) s (modCand k (fun x => { x with edge := some t, near := 0 }) s)) ∧
      (∀ e, (cand s k).edge = some e → candPar s k Par.rfRefType = 0 → 10 * (t - e) < 9 * 65536000000000 →
        Leaves (.refEdge k stamp) s (modRefs (fun r => { r with ppsExtra := (r.ppsExtra + 1) % 2 ^ 32 }) s)) ∧
      (∀ e, (cand s k).edge = some e → 9 * 65536000000000 ≤ 10 * (t - e) → withinLoss s k (t - e) = true →
        (cand s k).present = false → ∀ n, n = (cand s k).near + 1 →
        Leaves (.refEdge k stamp) s (evaluate (candArrives k (modCand k (fun x => { x with edge := some t, near := n }) s))))) ∧
    (k < 12 → (cand s k).present = true → Leaves (.refLost k) s (evaluate (candLost k s))) ∧
    (0x20 ≤ c → candExists c = true →
      (portPresent s c = true → (cand s c).present = false →
        Leaves (.candidatePresenceChange c true) s (evaluate (candArrives c s))) ∧
      (portPresent s c = false → (cand s c).present = true →
        Leaves (.candidatePresenceChange c false) s (evaluate (candLost c s)))) ∧
    (candGood s c = true → Leaves (.monitorFail c) s (evaluate (disqualify c 5 0xFF 0 (raise bREFS 6 s)))) ∧
    (eligibles s 0 = [] → Leaves .mainLost s (evaluate s)) ∧
    (i < 2 → eligibles s (i + 1) = [] → Leaves (.auxDpllLost i) s (evaluate s)) ∧
    (i < 3 → (selOf s i).sel ≠ 0xFF → (i ≠ 0 ∨ s.guh.refTime = false) →
      Leaves (.acquisitionEnd i) s (modSel i (fun x => { x with acquired := true }) s)) ∧
    (moorRecords s = true → (selOf s 0).hold = false → s.refs.valid = true → s.refs.hourSec < 3599 →
      ∀ t, t = modRefs (fun r =>
        { r with
          secs := (some freq :: r.secs).take (refPar s Par.rfMoorAvg + refPar s Par.rfMoorGuard)
          hourSum := r.hourSum + freq, hourN := r.hourN + 1, hourSec := r.hourSec + 1, recorded := r.recorded + 1 }) s →
      ∀ u, u = modSel 1 (fun x => { x with hist := (dpllNow t 1 :: x.hist).take 11 }) t →
      Leaves (.mooringSecond freq) s (modSel 2 (fun x => { x with hist := (dpllNow u 2 :: x.hist).take 11 }) u)) ∧
    (Taken 0x0902 h s → i < 3 →
      (c ≠ 0xFF → selOn s i = true → eligible s i c = true →
        Answers (.refForce h i c) h 0x0902 stOk [] s (evaluate (modSel i (fun x => { x with force := some c }) s))) ∧
      (c ≠ 0xFF → eligible s i c = false → Answers (.refForce h i c) h 0x0902 stNotReady [] s s) ∧
      ((selOf s i).force.isSome = true → Answers (.refForce h i 0xFF) h 0x0902 stOk [] s
        (evaluate (modSel i (fun x => { x with force := some 0xFF }) s))))

/-- Outputs (R171, R173 to R179) and oscillators (R160). -/
def Obligations.OutputRows : Prop :=
  ∀ (h : CmdHdr) (o n g : Nat) (d : Int) (s : State),
    (clockRuns s o = true → restartDue s o = false →
      (1 < (clkOut s o).pending → Leaves (.outStep o) s (modOut o (fun c =>
        { c with pending := (clkOut s o).pending - 1, line := if (clkOut s o).line + 1 = 100 then 0 else (clkOut s o).line + 1 }) s)) ∧
      ((clkOut s o).pending = -1 → Leaves (.outStep o) s (report bCSYN 0x05 [w32 o] (modOut o (fun c =>
        { c with pending := 0, line := if (clkOut s o).line = 0 then 99 else (clkOut s o).line - 1 }) s)))) ∧
    ((clkOut s o).mode = 1 → restartDue s o = true → ∀ x : ClkSet, x = ⟨1, (clkOut s o).source, (clkOut s o).div,
        (clkOut s o).period, (clkOut s o).width, (clkOut s o).align⟩ → ∀ per, per = x.periodFs s →
      ∀ v, v = clockRise (clkBase s o) (clockFall s o x + fsU per - 1) per →
      Leaves (.outRestarted o) s (report bCSYN 0x04 ([w32 o] ++ w64i (clkOut s o).pending)
        (emit (.pin (.clk o) false) (modOut o (fun c => { c with pending := 0, resume := v }) s)))) ∧
    (1 ≤ alignOf s o → alignOf s o ≤ 12 →
      (|d| ≤ alignWindow s o → o < 16 → (clkOut (setAlignLost o false s) o).mode = 1 →
        Leaves (.outAlignEdge o d) s (addPending o (toPs d) (setAlignLost o false s))) ∧
      (|d| ≤ alignWindow s o → 0x20 ≤ o → Leaves (.outAlignEdge o d) s (moveEdge o d (setAlignLost o false s))) ∧
      (alignWindow s o < |d| → Leaves (.outAlignEdge o d) s (setAlignLost o true s))) ∧
    (∀ a t, fireCmp (28 + n) s = (some a, t) →
      ((∀ due slot r, (pulse s n).queue ≠ (due, some slot) :: r) → (pulse t n).high = false → Leaves (.pulseEdge n) s (armPulse n (drivePulse n (modPulse n (fun _ =>
        { pulse t n with
          high := true, rise := a.fires, edge := some (pulse t n).armed
          queue := if (pulse t n).set.mode = 2 then (pulse t n).queue.drop 1 else (pulse t n).queue }) t)))) ∧
      ((pulse s n).high = true → (pulse t n).high = true → (pulse t n).held = none → Leaves (.pulseEdge n) s (armPulse n (drivePulse n (modPulse n
        (fun _ => { pulse t n with high := false, fall := some a.fires }) t))))) ∧
    (genOut s g = some o → ∀ a t, fireCmp (52 + g) s = (some a, t) →
      ((clkOut t o).high = false → Leaves (.frameOutputEdge g) s (armAt (52 + g) (a.fires + nsU (clkOut t o).width)
        (emit (.pin (.clk o) true) (modOut o (fun c => { c with high := true, edge := some c.armed }) t)))) ∧
      ((clkOut t o).high = true → Leaves (.frameOutputEdge g) s
        (frameFell o a.fires (emit (.pin (.clk o) false) (modOut o (fun c => { c with high := false }) t))))) ∧
    (o < 16 → govGranted s (.lineSwap o) = true → (clkOut s o).onSpare = false →
      ∀ t, t = completeWith 0x0F02 (unitKey bCSYN (0x10 + o)) bCSYN 0x06 [w32 o, w32 (o / 8)] stOk
          (modClk (fun c => { c with dllBusy := setBit c.dllBusy (o / 8) })
            (modOut o (fun x => { x with onSpare := true }) (govEnd (.lineSwap o) s))) →
        Leaves (.dllSwapped o) s (rotSwapped bCSYN (0x10 + o)
          (substituted none bCSYN (0x10 + o) (0x20 + o / 8) (swapCause t bCSYN (0x10 + o)) t))) ∧
    (oscActive s 0 = true → ∀ t, t = modClk (fun c => { c with oscOkA := false })
        { s with tic := { s.tic with mons := s.tic.mons.del 12 } } →
      (s.clk.osc = 0 → ∀ u, u = raise bCSYN 0 t → oscActive u 1 = true → oscGone 0 s = oscSwitch 1 u) ∧
      (s.clk.osc = 1 → oscGone 0 s = t)) ∧
    (oscActive s (1 - s.clk.osc) = true →
      Leaves .oscLost s (oscGone (Config.freeNat s.free % 2) { s with free := s.free + 1 })) ∧
    (oscActive s (1 - s.clk.osc) = false → Leaves .oscLost s (oscGone s.clk.osc s)) ∧
    (s.clk.osc = 1 → oscActive s 1 = true → oscActive s 0 = false →
      ∀ t, t = modClk (fun c => { c with oscDiff := Config.freeInt s.free })
          { modClk (fun c => { c with oscOkA := true }) s with free := s.free + 1 } →
        parN s bCSYN 0xF0 Par.ckOscPref = 0 → Leaves (.oscReturn 0) s (oscSwitch 0 t)) ∧
    (Taken 0x0A02 h s → o < 16 → |d| ≤ 10 ^ 12 →
      (rTimePll s = true → (clkOut s o).mode = 1 → (clkOut s o).align ≠ 15 →
        Answers (.outPhaseStep h o d) h 0x0A02 stOk (w64i ((clkOut s o).pending + d)) s
          (reviewAlign (modOut o (fun c => { c with pending := c.pending + d, lost := false }) s))) ∧
      (rTimePll s = false → Answers (.outPhaseStep h o d) h 0x0A02 stNotReady [] s s)) ∧
    (Taken 0x0A02 h s → 10 ^ 12 < |d| → Answers (.outPhaseStep h o d) h 0x0A02 stOutOfRange [] s s)

/-- Guhild: samples (R118, R119, R121, R122), its timers and the commands that touch time (R123 to R125, R353). -/
def Obligations.TimeRows : Prop :=
  ∀ (h : CmdHdr) (e : Int) (sec ns frac target : Nat) (s : State),
    (rGuhRun s = true → s.guh.refTime = true → ∀ v, v = (if s.guh.refId = 0xFE then 0 else e) →
      ∀ sd : Int, sd = par s bGUH 0 Par.gtStepDetect →
      ∀ t, t = { s with guh := { s.guh with phaseErr := v } } →
      (s.guh.state = .free ∨ s.guh.state = .holdover → stepAllowed s v = true →
        Leaves (.guhSample s.guh.refId e) s (enterG .acquiring
          (takeStep v 1 { t with guh := { t.guh with switching := false } }))) ∧
      (s.guh.state = .free ∨ s.guh.state = .holdover → stepAllowed s v = false →
        Leaves (.guhSample s.guh.refId e) s (refuseJump v { t with guh := { t.guh with switching := false } })) ∧
      (s.guh.state = .acquiring ∨ s.guh.state = .locked → s.guh.switching = false →
        (|v| ≤ sd → s.guh.held = none → Leaves (.guhSample s.guh.refId e) s (trackLock v (sampleIn v t))) ∧
        (|v| ≤ sd → ∀ x, s.guh.held = some x → Leaves (.guhSample s.guh.refId e) s (trackLock v (sampleIn v
          (sampleIn (clampTo sd x) { t with guh := { t.guh with held := none } })))) ∧
        (sd < |v| → s.guh.held = none → Leaves (.guhSample s.guh.refId e) s
          (trackLock v { t with guh := { t.guh with held := some v } })) ∧
        (sd < |v| → s.guh.held ≠ none → stepAllowed s v = true → Leaves (.guhSample s.guh.refId e) s
          (trackLock v (propReset 0 (takeStep v 3 { t with guh := { t.guh with held := none } })))) ∧
        (sd < |v| → s.guh.held ≠ none → stepAllowed s v = false →
          Leaves (.guhSample s.guh.refId e) s (trackLock v (refuseJump v t))))) ∧
    (∀ ref, ref ≠ s.guh.refId → Leaves (.guhSample ref e) s s) ∧
    (s.guh.state = .acquiring → s.guh.lockRun = true → Leaves .lockTimeElapsed s (enterG .locked s)) ∧
    (s.guh.state = .locked → s.guh.unlockRun = true → Leaves .unlockTimeElapsed s (enterG .acquiring s)) ∧
    (s.guh.switching = true →
      (s.guh.state = .acquiring ∨ s.guh.state = .locked →
        Leaves .switchSampleTimeout s (guhLoss (modSel 0 (fun x => { x with hold := false }) s))) ∧
      (s.guh.state ≠ .acquiring → s.guh.state ≠ .locked → Leaves .switchSampleTimeout s (guhLoss s))) ∧
    (s.guh.state = .holdover → Leaves .holdoverHour s { s with guh := { s.guh with sinceLock := true, holdHour := true } }) ∧
    (s.guh.state ≠ .holdover → s.guh.state ≠ .locked → Leaves .holdoverHour s { s with guh := { s.guh with sinceLock := true } }) ∧
    (s.guh.state = .locked → Leaves .holdoverHour s s) ∧
    (∀ l, l = parN s bGUH 0 Par.gtLeap → l ≠ 0 → ∀ t, t = disarm 63 s → Leaves .leapDone s (report bGUH 0x06 [w32 l]
      (setPar bGUH 0 Par.gtLeap 0
        { t with guh := { t.guh with leapAdj := t.guh.leapAdj + (if l = 1 then 1 else -1) } }))) ∧
    Leaves (.counterCheck true) s (endCause bGUH 5 s) ∧
    Leaves (.counterCheck false) s (beginCause bGUH 5 s) ∧
    (Taken 0x0801 h s →
      (rGuhRun s = true → ns ≤ 999999999 → sec < 2 ^ 48 → frac < 2 ^ 16 → mayTouchTime s = true →
        ∀ d : Int, d = ((sec * 1000000000 + ns) * 65536 + frac : Nat) - (units s : Int) →
        ∀ t, t = cancelTargets s →
          Answers (.timeSet h sec ns frac) h 0x0801 stOk [] s (enterG .free (report bGUH 0x02 (w64i d ++ [6])
            { moveCounter d true { t with guh := { t.guh with protect := false, refusedDiff := 0, timeSet := true } } with
              c5 := 5 * ((sec * 1000000000 + ns) * 65536 + frac) }))) ∧
      (rGuhRun s = false → Answers (.timeSet h sec ns frac) h 0x0801 stNotReady [] s s)) ∧
    (Taken 0x0802 h s → rGuhRun s = true → mayTouchTime s = true → stepAllowed s e = true →
      Answers (.timeAdjust h 0 e target) h 0x0802 stOk [] s (takeStep e 7 s) ∧
      (s.guh.adjust = none → 0 < nsAhead s target →
        Answers (.timeAdjust h 1 e target) h 0x0802 stAccepted [] s
          (accept 0x0802 0 h (arm 61 target { s with guh := { s.guh with adjust := some ⟨h, e, target⟩ } })))) ∧
    (Taken 0x0802 h s → rGuhRun s = true → mayTouchTime s = false →
      Answers (.timeAdjust h 0 e target) h 0x0802 stBusy [] s s) ∧
    (Taken 0x0803 h s → rGuhRun s = true →
      (s.guh.state = .refused → Answers (.timeAcceptJump h) h 0x0803 stOk (w64i s.guh.refusedDiff) s
        (enterG .acquiring (takeStep s.guh.refusedDiff 5 { s with guh := { s.guh with refusedDiff := 0 } }))) ∧
      (s.guh.state ≠ .refused → Answers (.timeAcceptJump h) h 0x0803 stBusy [] s s)) ∧
    (Taken 0x0805 h s →
      (rGuhRun s = true → Answers (.timeRead h) h 0x0805 stOk (guhWords s ++ w64 (rolling s) ++ w64 s.guh.state.code) s s) ∧
      (rGuhRun s = false → Answers (.timeRead h) h 0x0805 stNotReady [] s s))

/-- Register rows (R129, R348, R349, R352, R354, R356, R358, R384, R407, R410). -/
def Obligations.RegisterRows : Prop :=
  ∀ (b n off : Nat) (r : Requester) (v : Word) (w : Word64) (s : State), s.boot.phase ≠ .heldInReset →
    (b < nBlocks →
      (clrMask 32 (hdr s b).fltStatus (clrMask 32 v.toNat (hdr s b).causeActive) ≠ 0 →
        Leaves (.fltStatusClear b v) s (modHdr b (fun x =>
          { x with fltStatus := clrMask 32 x.fltStatus (clrMask 32 v.toNat x.causeActive) }) s)) ∧
      (clrMask 32 (hdr s b).fltStatus (clrMask 32 v.toNat (hdr s b).causeActive) = 0 →
        Leaves (.fltStatusClear b v) s (modHdr b (fun x =>
          { x with fltStatus := 0, first := none, level := 0, stopFlag := false, nmiTaken := false }) s)) ∧
      (∀ t, t = modHdr b (fun x => { x with intStatus := clrMask 32 x.intStatus v.toNat }) s →
        ((hdr t b).pending = false → Leaves (.intStatusClear b v) s t) ∧
        ((hdr t b).pending = true → Leaves (.intStatusClear b v) s (signalVec b t))) ∧
      (∀ t, t = modHdr b (fun x => { x with intEnable := v.toNat }) s →
        ((hdr t b).pending = false → Leaves (.intEnableWrite b v) s t) ∧
        ((hdr t b).pending = true → Leaves (.intEnableWrite b v) s (signalVec b t))) ∧
      Leaves (.fltOvfClear b) s (modHdr b (fun x => { x with ovf := false, ovfCount := 0 }) s) ∧
      Leaves (.pcntOvfClear b v) s (modHdr b (fun x => { x with pcntOvf := clrMask 8 x.pcntOvf v.toNat }) s) ∧
      (n < pcntCount b →
        Leaves (.pcntSelWrite b n v) s (modHdr b (fun x => { x with
          pcnt := x.pcnt.set n { x.pcnt.get Pcnt.reset n with count := 0, sel := v.toNat &&& selBits }
          pcntOvf := clrBit x.pcntOvf n }) s) ∧
        Leaves (.pcntFiltWrite b n w) s (modHdr b (fun x => { x with
          pcnt := x.pcnt.set n { x.pcnt.get Pcnt.reset n with filt := w.toNat &&& filtBits } }) s))) ∧
    ((hdr s bGUH).state ≠ .off → Leaves (.guhCmpSteppedClear w) s
      { s with guh := { s.guh with cmpStepped := clrMask 64 s.guh.cmpStepped w.toNat } }) ∧
    (∀ i, s.host.nmi = some (b, i) →
      ((hdr s b).causeActive.testBit i = false → Leaves .nmiStatusClear s
        (emit (.release .nmiN) { s with host := { s.host with nmi := none, nmiCount := 0 } })) ∧
      ((hdr s b).causeActive.testBit i = true → Leaves .nmiStatusClear s s)) ∧
    (100 ≤ v.toNat % 2 ^ 14 → v.toNat % 2 ^ 14 ≤ 10000 → Leaves (.isoCtrlWrite v) s
      { s with iso := { s.iso with nextPeriod := v.toNat % 2 ^ 14 } }) ∧
    (v.toNat % 2 ^ 14 < 100 ∨ 10000 < v.toNat % 2 ^ 14 → Leaves (.isoCtrlWrite v) s s) ∧
    (v.toNat.testBit 0 = true → ∀ t, t = passTicks 1 s → Leaves (.timeSnapCtrl v) s
      { t with snap :=
        ⟨(t.snap.seq + 1) % 256, t.guh.state.code, !rGuhRun t, s.guh.steppedNow, guhSec t, guhNs t, guhFrac t, t.cycle⟩ }) ∧
    Leaves (.lowWordRead r off) s (emit (.regData (bytesLE 4 (regRead r off 32 s).1)) (regRead r off 32 s).2) ∧
    Leaves .ticFifoData0 s (emit (.regData (bytesLE 4 (ticData0 s).1)) (ticData0 s).2) ∧
    (stateView s bSHAFT ≠ .off → Leaves (.shaftSnapCtrl v) s (effShaftSnapCtrl v.toNat s)) ∧
    (off % 4 = 0 → Leaves (.registerWrite off 32 w) s (write32 off (w.toNat % 2 ^ 32) s)) ∧
    (off % 4 ≠ 0 → Leaves (.registerWrite off 32 w) s (raise bHOST 2 s)) ∧
    Leaves (.registerWrite off 16 w) s (raise bHOST 2 s)

/-- PTP messages, stamps and ESMC (R98, R99, R102 to R104, R133). -/
def Obligations.PtpRows : Prop :=
  ∀ (p seqId stamp ssm : Nat) (m : PtpMsg) (s : State), isEdge s p = true →
    ((edge s p).link = .up →
      (rGuhRun s = true →
        (ptpRole s p = 1 →
          (m.transport = parN s (bP p) 0 Par.epPtpTransport → m.domain = parN s (bP p) 0 Par.epPtpDomain →
            Leaves (.ptpMessageReceived p m) s (engineTakes p m s)) ∧
          (m.domain ≠ parN s (bP p) 0 Par.epPtpDomain → Leaves (.ptpMessageReceived p m) s s) ∧
          ((edge s p).ptp.state = 6 → ∀ n t, nextSeq p 0 (planSync p s) = (n, t) →
            ∀ u, u = emit (.ptp p 0 n (units t) (ptpStampOk t p) 0) t →
            (parN u (bP p) 0 Par.epPtpStep = 0 ∨ parN u (bP p) 0 Par.epPtpTransport = 2 →
              Leaves (.ptpSyncSend p 0) s (modPtp p (fun x => { x with waiting := x.waiting ++ [(0, n)] }) u)) ∧
            (parN u (bP p) 0 Par.epPtpStep ≠ 0 → parN u (bP p) 0 Par.epPtpTransport ≠ 2 → Leaves (.ptpSyncSend p 0) s u)) ∧
          ((edge s p).ptp.state = 6 → ∀ n t, nextSeq p 11 s = (n, t) → Leaves (.ptpSyncSend p 11) s
            (emit (.announce p n (sentClass t p) (par t bGUH 0 Par.gtUtcOffset + t.guh.leapAdj) (announceFlags t)) t))) ∧
        (∀ kind, (ptpRole s p = 1 ∧ ((edge s p).ptp.state = 8 ∨ (edge s p).ptp.state = 9) ∧ kind = 1 ∧ peerDelay s p = false) ∨
            ((ptpRole s p = 1 ∨ ptpRole s p = 3) ∧ kind = 2 ∧ peerDelay s p = true) →
          ∀ n t, nextSeq p kind s = (n, t) → Leaves (.ptpSyncSend p kind) s
            (emit (.ptp p kind n (units t) (ptpStampOk t p) (-(ptpAsym t p)))
              (modPtp p (fun x => { x with waiting := x.waiting ++ [(kind, n)] }) t))) ∧
        (ptpRole s p = 3 → m.msgType = 2 ∨ m.msgType = 3 ∨ m.msgType = 10 →
          Leaves (.ptpMessageReceived p m) s (peerTakes p m (dueOf s (rxPin s p m.stamp)) s)) ∧
        (ptpRole s p ≠ 1 → ¬(ptpRole s p = 3 ∧ (m.msgType = 2 ∨ m.msgType = 3 ∨ m.msgType = 10)) → m.outPort < 64 →
          ∀ out, out = txPin s m.outPort m.outStamp →
          ∀ d t, tcAdds m.outPort p m.msgType m.domain m.seqId
            (parN s (bP m.outPort) 0 Par.epPtpStep == 0 || m.transport == 2) (signed48 out (rxPin s p m.stamp)) s = (d, t) →
          (ptpRole s m.outPort = 2 ∨ ptpRole s m.outPort = 3 → Leaves (.ptpMessageReceived p m) s
            (emit (.ptp m.outPort m.msgType m.seqId out (portLatOk s p && portLatOk s m.outPort) (m.correction + d)) t)) ∧
          (ptpRole s m.outPort ≠ 2 → ptpRole s m.outPort ≠ 3 → Leaves (.ptpMessageReceived p m) s s))) ∧
      (rGuhRun s = false → Leaves (.ptpMessageReceived p m) s s ∧ Leaves (.ptpSyncSend p 0) s s) ∧
      (parN s (bP p) 0 Par.epEsmcEn = 1 → Leaves (.esmcPduSend p) s (sendEsmc p false s) ∧
        ((edge s p).qlSent ≠ ssmSent s p → Leaves (.esmcEventPdu p) s (sendEsmc p true s)) ∧
        ((edge s p).qlSent = ssmSent s p → Leaves (.esmcEventPdu p) s s)) ∧
      (parN s (bP p) 0 Par.epEsmcEn ≠ 1 → Leaves (.esmcPduSend p) s s) ∧
      (∀ k t, k = (if ssmKnown (refPar s Par.rfEecOption) ssm then ssm else 0xF) → t = endCause (bP p) 7 s →
        ((edge t p).qlCand = some k → Leaves (.esmcPduReceived p ssm) s (setQlRx p k t)) ∧
        ((edge t p).qlCand ≠ some k → Leaves (.esmcPduReceived p ssm) s (modEdge p (fun e => { e with qlCand := some k }) t)))) ∧
    Leaves (.esmcTimeout p) s (beginCause (bP p) 7 (setQlRx p 0xFF (modEdge p (fun e => { e with qlCand := none }) s))) ∧
    (∀ w, (edge s p).ptp.waiting.find? (fun w => w.2 == seqId) = some w →
      ∀ t, t = modPtp p (fun x => { x with waiting := x.waiting.erase w }) s →
      (stampsWaiting s (pipeOf p) ≤ 64 → ∀ at_, at_ = txPin t p stamp →
        (w.1 = 0 → Leaves (.ptpEgressStamp p seqId stamp) s (emit (.ptp p 8 seqId at_ (ptpStampOk t p) 0) t)) ∧
        (w.1 = 1 → Leaves (.ptpEgressStamp p seqId stamp) s
          (modPtp p (fun x => { x with dreq := some (seqId, dueOf t at_) }) t)) ∧
        (w.1 = 2 → Leaves (.ptpEgressStamp p seqId stamp) s
          (modPtp p (fun x => { x with pdreq := some (seqId, dueOf t at_) }) t)) ∧
        (w.1 = 3 → Leaves (.ptpEgressStamp p seqId stamp) s (emit (.ptp p 10 seqId at_ (ptpStampOk t p) 0) t))) ∧
      (64 < stampsWaiting s (pipeOf p) → Leaves (.ptpEgressStamp p seqId stamp) s (raise (bP p) 6 (report (bP p) 0x25 [w32 seqId]
        (modEdge p (fun e => { e with ptpDrop := (e.ptpDrop + 1) % 2 ^ 32 }) t))))) ∧
    ((edge s p).ptp.waiting.find? (fun w => w.2 == seqId) = none → Leaves (.ptpEgressStamp p seqId stamp) s s) ∧
    ((edge s p).link ≠ .up → Leaves (.ptpMessageReceived p m) s s ∧ Leaves (.ptpSyncSend p 0) s s ∧ Leaves (.esmcPduSend p) s s ∧
      Leaves (.esmcEventPdu p) s s ∧ Leaves (.esmcPduReceived p ssm) s s)

/-- The way of a frame from its head to its end (R228 to R236, R242, R246, R249, R292). -/
def Obligations.FrameIntakeRows : Prop :=
  ∀ (p ch : Nat) (f : FrameHead) (bytes : List Byte) (how : FrameEnd) (s : State),
    (portUp s p = true → rCore s = true →
      (∀ e k u, e = endOpen p 3 s → putFrame p (mkFrame e p f) e = (k, u) →
        (consumed u p f.bytes (parse f.bytes) = true → Leaves (.frameHeadIntake p f) s (letGo k u)) ∧
        (consumed u p f.bytes (parse f.bytes) = false →
          ∀ c t a cls g v, c = headChannel u p f → t = tagHead p c u →
          a = modFrame k (fun g =>
            { g with
              channel := c
              tagged := t.1
              traced := t.1 && parN u bTRACE 0 Par.ctTraceEn == 1 }) t.2 →
          cls = frameClass a p (parse f.bytes) f.start → g = count bCORE 0x010 1 ⟨p, cls, c, 0⟩ a →
          v = modFrame k (fun g => { g with lkpCyc := some ((g.intake + 18) % 2 ^ 32) }) g →
          (linkLocal (parse f.bytes).dst = true →
            Leaves (.frameHeadIntake p f) s (dropHead k 13 (modFwd p (fun c => { c with linkLocal := (c.linkLocal + 1) % 2 ^ 32 }) g))) ∧
          (linkLocal (parse f.bytes).dst = false → ∀ vid, vid = frameVid v p (parse f.bytes) →
            (vlanOf v p vid = none →
              Leaves (.frameHeadIntake p f) s (dropHead k 13 (modFwd p (fun c => { c with vlanDrop := (c.vlanDrop + 1) % 2 ^ 32 }) v))) ∧
            (∀ e, vlanOf v p vid = some e → ∀ w m, m = clrBit (fdbMask v e (parse f.bytes).dst) p →
              w = learn p e (parse f.bytes).src cls v →
              (∀ n, c = some n → Leaves (.frameHeadIntake p f) s (resolve k (headLen f) m n w)) ∧
              (c = none → Leaves (.frameHeadIntake p f) s (policeStage k (headLen f) m false w)))))) ∧
      (isTrunk s p = true → ∀ e, e = endOpen p 3 s →
        (f.start = none → Leaves (.reservedCrossing p f) s (intakeHead p f e)) ∧
        (∀ i late, f.start = some i → late = modFwd p (fun c => { c with late := (c.late + b2n i.express) % 2 ^ 32 }) e →
          (crossingOk e p i = none → Leaves (.reservedCrossing p f) s (intakeHead p f late)) ∧
          (∀ b, crossingOk e p i = some b →
            ((portSched e b.outPort).tx ≠ none → Leaves (.reservedCrossing p f) s (intakeHead p f (raise bCORE 2 late))) ∧
            ((portSched e b.outPort).tx = none → Leaves (.reservedCrossing p f) s (cross p f b e)))))) ∧
    (portUp s p = false ∨ rCore s = false → Leaves (.frameHeadIntake p f) s s ∧ Leaves (.reservedCrossing p f) s s) ∧
    (∀ ws t, ws = s.core.missQ.filter (fun w => w.ch == ch) →
      t = modCore (fun c => { c with missQ := c.missQ.filter (fun w => w.ch != ch) }) s →
      (ws = [] → Leaves (.descriptorFetched ch) s s) ∧
      (ws ≠ [] → rStore t = false → Leaves (.descriptorFetched ch) s (ws.foldl (fun s w => missDrop w.frame 5 s) t)) ∧
      (ws ≠ [] → rStore t = true → ∀ u, u = (if (chanOf t ch).isSome then cacheIn ch t else t) →
        Leaves (.descriptorFetched ch) s (ws.foldl (fun s w =>
          if (chanOf s ch).isSome then policeStage w.frame (waitedLen s w.frame) w.mask true s
          else unknownChannel w.frame (waitedLen s w.frame) w.mask true s) u))) ∧
    (∀ e, e = (if isTrunk s p then modTrunk p (fun t => { t with rx := { t.rx with ended := t.rx.ended.drop 1 } }) s else s) →
      (e.core.open_.find p = none → Leaves (.frameEndReceived p bytes how) s e) ∧
      (∀ k x, e.core.open_.find p = some k → ∀ o, o = modCore (fun c => { c with open_ := c.open_.del p }) e → frameOf o k = some x →
        ∀ v kept j, v = countFec p how o → kept = keptBytes v p x.limit bytes → j = judgeEnd x.limit kept how →
        ∀ w, w = takeRest k (chargeRest k (modFrame k (fun f => { f with bytes := kept, ended := true, bad := j.1, stomped := j.2 }) v)) →
        ∀ g, frameOf w k = some g → ∀ t, t = countRx p g g.bad w →
          (g.bad ≠ none → Leaves (.frameEndReceived p bytes how) s (settle k (discardBad k t))) ∧
          (g.bad = none → (x.waits = false ∨ g.desc = none) → Leaves (.frameEndReceived p bytes how) s (settle k t)) ∧
          (g.bad = none → x.waits = true → ∀ c, g.desc = some c →
            (c.launchEn = true → ∀ out, out = (c.onlyPort).getD 0 → Leaves (.frameEndReceived p bytes how) s
              (letGo k (traceCopy g { droppedMarks out 0 with dropped := false, slot := true }
                (feedSlot c.launchSlot (edited t g out) (startSeq (copyStart g)) t)))) ∧
            (c.launchEn = false → Leaves (.frameEndReceived p bytes how) s (settle k t)))))

/-- Admission waits, transmitters and sweeps (R76, R233, R246, R247, R249, R250, R258, R259, R275, R284, R287, R296). -/
def Obligations.AdmissionAndEgressRows : Prop :=
  ∀ (k p q ch fid mac raw : Nat) (s : State) (stamp : Nat), stamp = txPin s p raw →
    (∀ w, s.buf.adm.find? (fun w => w.pipe == k) = some w → Leaves (.admissionWaitTimeout k) s
      (headroomDrop w.frame (modBuf (fun b => { b with adm := b.adm.erase w }) s))) ∧
    (s.buf.adm.find? (fun w => w.pipe == k) = none → Leaves (.admissionWaitTimeout k) s s) ∧
    (∀ w, s.buf.adm.find? (fun w => w.pipe == k && canAdmit s w) = some w → Leaves (.admissionCellFree k) s
      (modBuf (fun b => { b with adm := s.buf.adm.erase w ++ b.adm })
        (admitFrame w.frame w.outs true (modBuf (fun b => { b with adm := [] }) s)))) ∧
    (s.buf.adm.find? (fun w => w.pipe == k && canAdmit s w) = none → Leaves (.admissionCellFree k) s s) ∧
    (portUp s p = true → rSched s = true → (portSched s p).tx = none → pauseDue s p = false → ∀ r t, selectPort p none (purgeLong p s) = (r, t) →
      (∀ x, r = some x → Leaves (.egressSelect p) s (startTx p x false (t.cycle % 2 ^ 32) t)) ∧
      (r = none → Leaves (.egressSelect p) s t)) ∧
    (portUp s p = true → rSched s = true → (portSched s p).tx = none → pauseDue s p = true →
      Leaves (.egressSelect p) s (sendPause p (edge s p).due s)) ∧
    (portUp s p = false ∨ rSched s = false ∨ (portSched s p).tx ≠ none → Leaves (.egressSelect p) s s) ∧
    ((portSched s p).tx = none → Leaves (.frameTransmitEnd p raw) s (pauseFollows p s)) ∧
    (∀ n f cut deq lim, (portSched s p).tx = some (.queued n q cut deq lim) → frameOf s n = some f →
      (f.ended = false → Leaves (.frameTransmitEnd p raw) s s) ∧
      (f.ended = true → ∀ a l bad b, a = shapePort p s → sendCopy p lim stamp f cut a = (l, bad, b) →
        ∀ c, c = (if cut && (parN (spendCredit p q l b) (bP p) 0 Par.sdDrrMask).testBit q && !(parN (spendCredit p q l b) (bP p) 0 Par.sdGatedMask).testBit q then
            modOutQ p q (fun o => { o with deficit := o.deficit + (f.limit : Int) - (l : Int) }) (spendCredit p q l b)
          else spendCredit p q l b) →
        ∀ d, d = modPort p (fun x => { x with tx := none }) (launchOverrun p q stamp l (countTx p l (frameKey f p) c)) →
        ∀ e, e = (match f.channel with
          | some ch => if isEdge d p && !bad then holdFrame ch (edited d f p) stamp d else d
          | none => d) →
        Leaves (.frameTransmitEnd p raw) s (pauseFollows p (settle n (traceCopy f ⟨p, 0, cut, false, false, bad, some (stamp % 2 ^ 48), some deq,
          ((f.copies.find? (fun c => c.1 == p)).map (·.2)).getD 0⟩ (removeCopy n p e)))))) ∧
    (∀ n f lim, (portSched s p).tx = some (.crossing n lim) → frameOf s n = some f →
      (f.ended = false → Leaves (.frameTransmitEnd p raw) s s) ∧
      (f.ended = true → ∀ l bad b, sendCopy p (min (f.express.getD 0) lim) stamp f true (shapePort p s) = (l, bad, b) →
        ∀ d, d = modPort p (fun x => { x with tx := none }) (countTx p l (frameKey f p) (spendCredit p f.cls l b)) →
        ∀ e, e = (match f.channel with
          | some ch => if isEdge d p && !bad then holdFrame ch (edited d f p) stamp d else d
          | none => d) →
        Leaves (.frameTransmitEnd p raw) s (pauseFollows p (settle n (modFrame n (fun f => { f with copies := [] })
          (traceCopy f ⟨p, 0, true, false, false, bad, some (stamp % 2 ^ 48), none, 0⟩ e)))))) ∧
    (∀ n bytes c, (portSched s p).tx = some (.slot n bytes c) → ∀ t v u, t = modPort p (fun x => { x with tx := none }) (shapePort p s) →
      v = spendCredit p (slotOf t n).args.cls bytes.length t →
      u = (if isTrunk v p then v else emit (.frame p bytes false) v) →
      Leaves (.frameTransmitEnd p raw) s
        (pauseFollows p (countTx p bytes.length ⟨p, (slotOf u n).args.cls, c, 0⟩ u))) ∧
    (q < 8 → portUp s p = true → rSched s = true → (parN s (bP p) 0 Par.sdGatedMask).testBit q = false →
      parN s (bP p) q Par.sdEscDwell ≠ 0 → (outQ s p q).escDue = false → dwells s p q = true →
      ∀ v, v = passTicks (escWait s p q) s →
      ∀ t, t = count bSCHED 0x042 1 ⟨p, q, none, 0⟩ (modPort p (fun x => { x with escs := (x.escs + 1) % 2 ^ 32 })
        (modOutQ p q (fun o => { o with escDue := true, escAt := some v.ticks }) v)) →
      Leaves (.escalation p q) s (raise bSCHED 5 (report bSCHED 0x08 ([w32 p, w32 q] ++ w64i (par t (bP p) q Par.sdEscDwell)) t))) ∧
    (dwells s p q = false ∨ 8 ≤ q ∨ portUp s p = false → Leaves (.escalation p q) s s) ∧
    (∀ c, chanOf s ch = some c → c.rcvyEn = true → c.idle = false → c.takeAny = false →
      Leaves (.recoveryReset ch) s (modChan ch Chan.recoveryReset s)) ∧
    (∀ c, chanOf s ch = some c → c.rcvyEn = false ∨ c.idle = true ∨ c.takeAny = true → Leaves (.recoveryReset ch) s s) ∧
    (chanOf s ch = none → Leaves (.recoveryReset ch) s s) ∧
    (∀ e n, fdbFind s fid mac = some e → e.static_ = false → n = secTicks (parN s bLKP 0 Par.lkAgeTime) → n ≠ 0 →
      Leaves (.fdbAge fid mac) s
        (modCore (fun k => { k with fdb := k.fdb.filter (fun x => x.static_ || x.fid != fid || x.mac != mac) })
          (passTicks (e.age + n - s.ticks) s))) ∧
    (∀ e, fdbFind s fid mac = some e → e.static_ = true ∨ secTicks (parN s bLKP 0 Par.lkAgeTime) = 0 → Leaves (.fdbAge fid mac) s s) ∧
    (fdbFind s fid mac = none → Leaves (.fdbAge fid mac) s s) ∧
    (∀ t, t = modCore (fun k => { k with chans := k.chans.map (fun e => if e.2.valid then (e.1, e.2.setMeter (e.2.meter.sweep (rollNs s))) else e) }) s →
      Leaves .policerSweep s { t with sched := { t.sched with policers := t.sched.policers.map (fun e => (e.1, e.2.setMeter (e.2.meter.sweep (rollNs s)))) } })

/-- BUF's own rows (R255, R256, R264 to R266, R268 to R272). -/
def Obligations.BufferRows : Prop :=
  ∀ (p q c bank corrected k : Nat) (s : State),
    (q < 8 → rBuf s = true → parN s bBUF 0 Par.bfWdEn ≠ 0 → demoted s q = false → wdRunning s p q = true →
      Leaves (.wdDemote p q) s (raise bBUF 0 (report bBUF 0x02 [w32 q, w32 p, w32 q]
        ((List.range 64).foldl (fun s p => setPause p q false s) (modBuf (fun b => { b with demoted := setBit b.demoted q }) s))))) ∧
    (8 ≤ q ∨ rBuf s = false ∨ parN s bBUF 0 Par.bfWdEn = 0 ∨ demoted s q = true ∨ wdRunning s p q = false →
      Leaves (.wdDemote p q) s s) ∧
    (demoted s c = true → (∀ p < 64, losslessEdge s p c = true → pauseReleased s p c = true) →
      Leaves (.classRestored c) s (report bBUF 0x03 [w32 c] (modBuf (fun b => { b with demoted := clrBit b.demoted c }) s))) ∧
    (demoted s c = false ∨ (∃ p < 64, losslessEdge s p c = true ∧ pauseReleased s p c = false) → Leaves (.classRestored c) s s) ∧
    (flushDue s p = true → s.buf.flushing.find p = none → ∀ a, a = endOpen p 2 s →
      ∀ b, b = modPort p (fun x => { x with tx := none })
        (match (portSched a p).tx with
          | some (.crossing k _) => settle k (modFrame k (fun f => { f with copies := [] }) a)
          | _ => a) →
      ∀ d, d = orphanPort p ((List.range 8).foldl (fun s q => (outQ s p q).frames.foldl (flushCopy p) s) b) →
      Leaves (.portFlush p) s (modBuf (fun x => { x with flushing := x.flushing.set p (queued a p) }) (slotsDown p
        (modEdge p (fun e => { e with due := 0, asserted := 0 })
          (modBuf (fun x => { x with asserted := x.asserted.filter (fun e => e.1 / 8 ≠ p) }) d))))) ∧
    (flushDue s p = false ∨ s.buf.flushing.find p ≠ none → Leaves (.portFlush p) s s) ∧
    (∀ n, s.buf.flushing.find p = some n → (queued s p).1 = 0 → s.buf.adm.any (fun w => w.outs.contains p) = false →
      ∀ t, t = modBuf (fun b => { b with flushing := b.flushing.del p }) s →
      (isTrunk t p = true → Leaves (.flushDone p) s (report bBUF 0x04 [w32 p, w32 n.1, w32 n.2] (reachUp p (modTrunk p (fun t => { t with flushed := true }) t)))) ∧
      (isTrunk t p = false → Leaves (.flushDone p) s (report bBUF 0x04 [w32 p, w32 n.1, w32 n.2] (modEdge p (fun e => { e with flushed := true }) t)))) ∧
    (s.buf.flushing.find p = none ∨ (queued s p).1 ≠ 0 → Leaves (.flushDone p) s s) ∧
    (∀ i, s.buf.drain = some i →
      Leaves .bankDrained s (rotSwapped bBUF i (completeWith 0x0F02 (unitKey bBUF i) bBUF 0x05 [w32 i, 2] stOk
        (modBuf (fun b => { b with drain := none, banks := b.banks.set i 2 }) s))) ∧
      Leaves .bankDrainAbort s (rotFails bBUF i (completeWith 0x0F02 (unitKey bBUF i) bBUF 0x05 [w32 i, 0] stNotReady (raise bBUF 9
        (setBank s.buf.drainFor 3 (modBuf (fun b => { b with drain := none, banks := b.banks.set i 0 }) s)))))) ∧
    (s.buf.drain = none → Leaves .bankDrained s s ∧ Leaves .bankDrainAbort s s) ∧
    (rBuf s = true → govGranted s .bankScrub = true →
      (corrected = 0 → Leaves (.bankScrub bank 0) s (govEnd .bankScrub (report bBUF 0x08 [w32 bank, w32 0] s))) ∧
      (corrected ≠ 0 → Leaves (.bankScrub bank corrected) s
        (govEnd .bankScrub (report bBUF 0x08 [w32 bank, w32 corrected] (countEcc bBUF bank corrected (raise bBUF 3 s)))))) ∧
    (rBuf s = true → govGranted s .bankScrub = false → ∀ t a u,
      t = (if govWaiting s .bankScrub then skipScrub (govCancel .bankScrub s) else s) → govRequest .bankScrub t = (a, u) →
      (a = .queued → Leaves (.bankScrub bank corrected) s (modBuf (fun b => { b with scrubWait := true }) u)) ∧
      (a ≠ .queued → Leaves (.bankScrub bank corrected) s (skipScrub u))) ∧
    (rBuf s = false → Leaves (.bankScrub bank corrected) s s) ∧
    (s.buf.cap.queue.get [] k = [] → Leaves (.headerCapture k) s s) ∧
    (∀ r rest, s.buf.cap.queue.get [] k = r :: rest →
      ∀ t, t = modBuf (fun b => { b with cap := { b.cap with queue := b.cap.queue.set k rest } }) s →
      ∀ n pol, n = parN t bBUF 0 Par.bfCapRecords → pol = parN t bBUF 0 Par.bfCapPolicy →
      (rStore t = false ∨ ringBlocked t (parN t bBUF 0 Par.bfCapBase) (192 * n) = true →
        Leaves (.headerCapture k) s (modBuf (fun b => { b with cap := { b.cap with lost := (b.cap.lost + 1) % 2 ^ 32 } }) t)) ∧
      (rStore t = true → ringBlocked t (parN t bBUF 0 Par.bfCapBase) (192 * n) = false →
        ∀ u v, u = (if t.buf.cap.full n = true ∧ pol = 0 then t else emit (.storeRecord 0 t.buf.cap.wr r) t) →
          v = modBuf (fun b => { b with cap := b.cap.put n pol r }) u →
          (t.buf.cap.full n = false → Leaves (.headerCapture k) s v) ∧
          (t.buf.cap.full n = true → Leaves (.headerCapture k) s (raise bBUF 10 v))))

/-- Rows of HLTH, with the ISOPHASE pin, lockstep and the trace ring (R381, R388, R390 to R404, R415). -/
def Obligations.HealthRows : Prop :=
  ∀ (id b u site ppm l slice mean low k : Nat) (res : SliceResult) (pass : Bool) (temp : Int) (s : State),
    (∀ r rest, s.hlth.gov.queue = r :: rest →
      (govFits s r = true → ∀ t, t = passTicks (max (paceTick s s.hlth.gov.core r.core) (paceTick s s.hlth.gov.time r.time) - s.ticks) s →
        Leaves .governorGrant s (afterGrant (retrySlices (govStart r.kind (modGov (fun g =>
          { g with
            queue := rest
            grants := g.grants ++ [{ r with coreIn := r.core != 0, timeIn := r.time != 0 }]
            core := if r.core = 0 then g.core else some ⟨t.ticks, r.core⟩
            time := if r.time = 0 then g.time else some ⟨t.ticks, r.time⟩ }) t))))) ∧
      (govFits s r = false → Leaves .governorGrant s (afterGrant s))) ∧
    (s.hlth.gov.queue = [] → Leaves .governorGrant s (afterGrant s)) ∧
    (∀ r, s.hlth.gov.grants.find? (fun r => r.id == id && r.ending) = some r → ∀ on r', on = (r.coreIn && (!r.timeIn || decide (r.core ≤ r.time))) →
      r' = (if on then { r with coreIn := false } else { r with timeIn := false }) →
      Leaves (.governorRelease id) s (modGov (fun g =>
        { g with
          grants := (g.grants.map (fun x => if x.id = id then r' else x)).filter (fun x => !(x.ending && !x.coreIn && !x.timeIn))
          core := if on then some ⟨s.ticks, r.core⟩ else g.core
          time := if on then g.time else some ⟨s.ticks, r.time⟩ }) s)) ∧
    (s.hlth.gov.grants.find? (fun r => r.id == id && r.ending) = none → Leaves (.governorRelease id) s s) ∧
    (∀ r, oldestWaiting s.hlth.gov.queue = some r → Leaves .grantStarved s (raise bHLTH 2 (modGov (fun g =>
      { g with
        queue := g.queue.map (fun x => if x.id = r.id then { x with starved := true } else x)
        starves := (g.starves + 1) % 2 ^ 16 }) s))) ∧
    (oldestWaiting s.hlth.gov.queue = none → Leaves .grantStarved s s) ∧
    (∀ t, s.hlth.bist.find b = some t →
      (t.inSlice = true → ∀ e, e = govEnd (.bistSlice b) (sliceLock b t.unit true s) →
        ∀ h, h = { t with inSlice := false, hits := res.hits.foldl (fun m e => m.set e.1 (m.get 0 e.1 + e.2)) t.hits } →
        (sliceVerdict e b h pass res.detail = none → ∀ n, n = { h with done := t.done + 1 } →
          ∀ v, v = modHlth (fun x => { x with bist := x.bist.set b n, testSlice := n.done }) e →
          (t.done + 1 < t.total → Leaves (.bistSlice b pass res) s (govRequest (.bistSlice b) v).2) ∧
          (t.total ≤ t.done + 1 → Leaves (.bistSlice b pass res) s v)) ∧
        (∀ w, sliceVerdict e b h pass res.detail = some w → ∀ n, n = { h with failed := some w } →
          Leaves (.bistSlice b pass res) s (modHlth (fun x => { x with bist := x.bist.set b n, testSlice := n.done }) e))) ∧
      (t.inSlice = false → Leaves (.bistSlice b pass res) s s) ∧
      (∀ d, t.failed = some d → Leaves (.bistDone b) s (unitFails b t.unit d (bistEnds b bistFail d (raise bHLTH 0
        (modHlth (fun x => { x with passed := x.passed.set (unitKey b t.unit) false }) s))))) ∧
      (t.failed = none → t.total ≤ t.done → Leaves (.bistDone b) s (unitPasses b t.unit t.hits (bistEnds b bistPass 0
        (modHlth (fun x => { x with passed := x.passed.set (unitKey b t.unit) true }) s)))) ∧
      (t.failed = none → t.done < t.total → Leaves (.bistDone b) s s)) ∧
    (s.hlth.bist.find b = none → Leaves (.bistSlice b pass res) s s ∧ Leaves (.bistDone b) s s) ∧
    (rHlth s = true → s.boot.phase = .started → s.boot.bootOk = true → s.hlth.rot = none →
      (nextRot s = none → Leaves .rotationStep s s) ∧
      (∀ t, nextRot s = some ((b, u), t) →
        (∀ r, rotSkip t b u = some r → Leaves .rotationStep s (report bHLTH 0x05 [w32 b, w32 u, w32 r] t)) ∧
        (rotSkip t b u = none → ∀ v, v = report bHLTH 0x05 [w32 b, w32 u, 0] (modHlth (fun x =>
            { x with rot := some (b, u), testBlock := b, testUnit := u, testSlice := 0, testSlices := 0 }) t) →
          (unitClass b u = some 6 ∨ unitClass b u = some 7 → Leaves .rotationStep s (rotSwapped b u v)) ∧
          (∀ c, unitClass b u = some c → c ≠ 6 → c ≠ 7 → ∀ st w, startSwap b u 2 v = (st, w) →
            (st = stOk → Leaves .rotationStep s w) ∧
            (st ≠ stOk → Leaves .rotationStep s (report bHLTH 0x05 [w32 b, w32 u, w32 4] t)))))) ∧
    (rHlth s = false ∨ s.boot.bootOk = false ∨ s.hlth.rot ≠ none → Leaves .rotationStep s s) ∧
    (rHlth s = true → (site < 32 →
        ∀ t, t = (if s.hlth.life.ageWorst < ppm then
          modHlth (fun x => { x with life := { x.life with ageWorst := min ppm (2 ^ 24 - 1), ageSite := site } }) s else s) →
        (parN t bHLTH 0 Par.hlAgeWarn < ppm → t.hlth.ageWarned.contains site = false → Leaves (.wearMeasurement site ppm) s
          (logEntry 7 bHLTH site (bytesBE 4 ppm) (raise bHLTH 3 (modHlth (fun x => { x with ageWarned := x.ageWarned ++ [site] }) t)))) ∧
        (ppm ≤ parN t bHLTH 0 Par.hlAgeWarn ∨ t.hlth.ageWarned.contains site = true → Leaves (.wearMeasurement site ppm) s t)) ∧
      (∀ bin, bin = (min 15 (max 0 ((temp + 40) / 10))).toNat → Leaves (.tjSample temp) s (modHlth (fun x =>
        { x with life :=
            { x.life with
              tjHist := x.life.tjHist.set bin (x.life.tjHist.get 0 bin + 1)
              tjSum := x.life.tjSum + temp
              tjCount := x.life.tjCount + 1 } }) s)) ∧
      (l < 64 → slice < 2 → ∀ u t d, u = modHlth (fun x =>
          { x with
            fomMeans := x.fomMeans.set (2 * l + slice) (((mean, low) :: x.fomMeans.get [] (2 * l + slice)).take 30) }) s →
        d = fomProjected u l → t = modHlth (fun x => { x with fomDays := x.fomDays.set l d }) u →
        (slice ≠ (lane u l).slice → Leaves (.fomDailyFit l slice mean low) s u) ∧
        (slice = (lane u l).slice → parN t bHLTH 0 Par.hlTrendHorizon ≤ d → Leaves (.fomDailyFit l slice mean low) s
          (modHlth (fun x => { x with fomTold := x.fomTold.erase l }) t)) ∧
        (slice = (lane u l).slice → d < parN t bHLTH 0 Par.hlTrendHorizon →
          (t.hlth.fomTold.contains l = true → Leaves (.fomDailyFit l slice mean low) s t) ∧
          (t.hlth.fomTold.contains l = false → Leaves (.fomDailyFit l slice mean low) s (logEntry 7 bHLTH l
            (bytesBE 2 l ++ bytesBE 2 d) (raise bHLTH 4 (modHlth (fun x => { x with fomTold := x.fomTold ++ [l] }) t)))))) ∧
      (s.boot.flashOk = true → ∀ n r t, n = s.hlth.life.trendNext → r = bytesBE 4 (pohNow s) ++ bytesBE 4 s.hlth.life.ageWorst
            ++ bytesBE 4 (wrapN 32 (tjAvg s)) ++ bytesBE 4 (lowestDays s) ++ List.replicate 48 0 → t = modHlth (fun x =>
          { x with
            recordOk := true
            life := { x.life with trendNext := (n + 1) % 1024 } })
          { s with flash := Memory.writeAll s.flash (recordBase + 0x10000 + 64 * n) r } →
        Leaves .trendRecordWrite s (report bHLTH 0x06 [w32 t.hlth.life.ageWorst, w32 (wrapN 32 (tjAvg t)), w32 (lowestDays t)] t)) ∧
      (s.boot.flashOk = false → Leaves .trendRecordWrite s (recordFails s))) ∧
    (rHlth s = false → Leaves (.wearMeasurement site ppm) s s ∧ Leaves (.tjSample temp) s s ∧
      Leaves (.fomDailyFit l slice mean low) s s ∧ Leaves .trendRecordWrite s s) ∧
    (s.boot.flashOk = true → ∀ n, n = s.hlth.sumSeq + 1 → Leaves (.summaryWrite true) s (modHlth (fun x =>
        { x with
          sumSeq := n % 2 ^ 32
          sumDue := false
          recordOk := true
          flashBad := false
          saved := { s.hlth.life with poh := pohNow s } })
        { s with flash := Memory.writeAll s.flash (recordBase + n % 2 * 0x8000) (summaryBytes s n) })) ∧
    (pass = false ∨ s.boot.flashOk = false → Leaves (.summaryWrite pass) s (recordFails s)) ∧
    (∀ e rest, s.hlth.logWait = e :: rest →
      (s.boot.flashOk = true → ∀ n m, n = s.hlth.life.logNext →
        m = (if n % 128 = 0 then eraseSector (recordBase + 0x40000 + 32 * ((n + 128) % 24576)) s.flash else s.flash) →
        Leaves (.logAppend true) s (modHlth (fun x =>
          { x with
            logWait := rest
            recordOk := true
            flashBad := false
            life := { x.life with logNext := (n + 1) % 24576 } })
          { s with flash := Memory.writeAll m (recordBase + 0x40000 + 32 * n) e })) ∧
      (pass = false ∨ s.boot.flashOk = false → Leaves (.logAppend pass) s (recordFails s))) ∧
    (s.hlth.logWait = [] → Leaves (.logAppend pass) s s) ∧
    (s.iso.running = true → Leaves .isophaseToggle s (emit (.pin .isophase (!s.iso.level))
      { s with iso := { s.iso with level := !s.iso.level, period := s.iso.nextPeriod } })) ∧
    (s.iso.running = false → Leaves .isophaseToggle s s) ∧
    (∀ t, t = raise bKEEP 0 s →
      (t.keep.spareReady = false ∨ t.keep.spareRetired = true → Leaves .lockstepMismatch s (raise bKEEP 1 t)) ∧
      (t.keep.spareReady = true → t.keep.spareRetired = false → t.keep.bulk = [] → ∀ v, v = pairSwap 5 t →
        (v.hlth.bist.find bKEEP ≠ none → Leaves .lockstepMismatch s v) ∧
        (v.hlth.bist.find bKEEP = none → ∀ a w, govRequest (.bistSlice bKEEP) (testBegun bKEEP t.keep.pair false v) = (a, w) →
          (a = .queued → Leaves .lockstepMismatch s w) ∧ (a ≠ .queued → Leaves .lockstepMismatch s v)))) ∧
    (s.trace.ring.queue.get [] k = [] → Leaves (.traceRecord k) s s) ∧
    (∀ r rest, s.trace.ring.queue.get [] k = r :: rest →
      ∀ t n, t = modTrace (fun t => { t with ring := { t.ring with queue := t.ring.queue.set k rest } }) s → n = parN t bTRACE 0 Par.ctTraceRecords →
      (rStore t = false ∨ ringBlocked t (parN t bTRACE 0 Par.ctTraceBase) (64 * n) = true →
        Leaves (.traceRecord k) s (raise bTRACE 1 (modTrace (fun t =>
          { t with ring := { t.ring with lost := (t.ring.lost + 1) % 2 ^ 32, lostBefore := true } }) t))) ∧
      (rStore t = true → ringBlocked t (parN t bTRACE 0 Par.ctTraceBase) (64 * n) = false →
        t.trace.ring.full n = true → parN t bTRACE 0 Par.ctTracePolicy = 0 → n ≤ 2 * t.trace.ring.level n →
        Leaves (.traceRecord k) s (raise bTRACE 0 (modTrace (fun x => { x with ring := x.ring.put n 0 r }) t))) ∧
      (rStore t = true → ringBlocked t (parN t bTRACE 0 Par.ctTraceBase) (64 * n) = false →
        t.trace.ring.full n = false → ∀ v, v = modTrace (fun x => { x with ring := x.ring.put n (parN t bTRACE 0 Par.ctTracePolicy) (if t.trace.ring.lostBefore then withLost r else r) })
          (emit (.storeRecord 1 t.trace.ring.wr (if t.trace.ring.lostBefore then withLost r else r))
            (modTrace (fun t => { t with ring := { t.ring with lostBefore := false } }) t)) →
        (2 * t.trace.ring.level n < n ∧ n ≤ 2 * v.trace.ring.level n → Leaves (.traceRecord k) s (report bTRACE 0x02 [] v)) ∧
        (¬ (2 * t.trace.ring.level n < n ∧ n ≤ 2 * v.trace.ring.level n) → Leaves (.traceRecord k) s v)))

/-- Shafts, the planner and gears as time passes (R204 to R211, R217 to R225). -/
def Obligations.ShaftRows : Prop :=
  ∀ (n i : Nat) (on : Bool) (s : State),
    (rShaft s = true →
      ((shaft s n).source ≠ 0 → (shaft s n).source ≠ 4 → ∀ g short,
        (((shaft s n).queue.filter (fun x => decide (x.1.t0 ≤ (units s : Int)))).getLast?).orElse
          (fun _ => (shaft s n).queue.head?) = some (g, short) →
        Leaves (.segmentInForce n) s (joinSeg n g short (max g.t0 (shaft s n).since) (passTo g.t0 s))) ∧
      ((shaft s n).queue = [] ∨ (shaft s n).source = 0 ∨ (shaft s n).source = 4 → Leaves (.segmentInForce n) s s) ∧
      (∀ g, (shaft s n).force = some g → (shaft s n).source ≠ 0 → (shaft s n).source ≠ 4 →
        ((shaft s n).state = .running → (shaft s n).queue.any (fun x => decide (x.1.t0 ≤ g.fin)) = false → ∀ t, t = passTo g.fin s →
          Leaves (.segLate n) s (reviewSpeed (reportShafts t (modShaft n (fun h => { h with state := if g.final then .held else .late }) t)))) ∧
        ((shaft s n).state = .late → ∀ t, t = passTo g.coastAt s →
          Leaves (.coasting n) s (reviewSpeed (reportShafts t (modShaft n (fun h => { h with state := .coasting }) t))) ∧
          Leaves (.segLate n) s s)) ∧
      ((shaft s n).force = none → Leaves (.segLate n) s s ∧ Leaves (.coasting n) s s) ∧
      ((shaft s n).source = 2 →
        ∀ now t0, now = (units s : Int) → t0 = now + usU (parN s bSHAFT n Par.shLead) →
        ∀ pts, pts = capPoints s n (now - s.guh.stepSum) →
        ∀ q : Rat × Rat × Rat × Rat, q = (if pts.length < 8 then
            ((((t0 - s.guh.stepSum : Int)) : Rat), (pts.head?.map (·.2)).getD (((angleAt s n t0).getD 0 : Int) : Rat), 0, 0)
          else fitQuad pts) →
        ∀ p dp : Rat → Rat, p = (fun t => q.2.1 + q.2.2.1 * (t - q.1) + q.2.2.2 * (t - q.1) ^ 2 / 2) →
          dp = (fun t => (q.2.2.1 + q.2.2.2 * (t - q.1)) * perSec) →
        ∀ x0 : Rat, x0 = ((t0 - s.guh.stepSum : Int) : Rat) →
        ∀ th : Int, th = (match angleAt s n t0 with | some a => a | none => roundRat (p x0)) →
        ∀ t, t = (match angleAt s n now with
          | some a => if (par s bSHAFT n Par.shCapTrackLimit : Rat) < |p ((now - s.guh.stepSum : Int) : Rat) - (a : Rat)| then raise bSHAFT 9 s else s
          | none => s) →
        ∀ g : Seg, g = ⟨t0, th, wrapI 48 (roundRat (dp x0 + (p x0 - (th : Rat)) * 1000000 / (parN s bSHAFT n Par.shCapTc : Rat))),
            wrapI 48 (roundRat (q.2.2.2 * perSec * perSec / 16)), 0, spanCode (2 * parN t bSHAFT n Par.shFitPeriod), ownClaim t⟩ →
        (isMirror t n = true → Leaves (.captureFit n) s t) ∧
        (isMirror t n = false → ∀ a u, acceptSeg n g false t = (a, u) →
          (a = .taken → Leaves (.captureFit n) s (distribute n g none u)) ∧
          (a = .duplicate → Leaves (.captureFit n) s (countDup n u)) ∧
          (a = .invalid ∨ a = .full → Leaves (.captureFit n) s (countRejected n u)))) ∧
      ((shaft s n).source ≠ 2 → Leaves (.captureFit n) s s) ∧
      (n < 8192 → Leaves (.planConversion n) s (convertDir n false (convertDir n true s))) ∧
      Leaves (.planConversion commitSlot) s (convertCommit s) ∧
      Leaves (.planConversion (8193 + n)) s (convertGear n s) ∧
      (∀ v committed, (shaft s n).changed = some (v, committed) →
        ∀ free, free = (planned s).filter (fun p => p.on s n && decide (v ≤ p.cross) && !p.flags.testBit 2) →
        ∀ found u, ((s.shaft.slots.filter (fun e => follows s e.2.arg.shaft n)).map (·.1)).foldl
            (fun (x : List Planned × State) i =>
              (x.1 ++ (searchAll i true 64 x.2).1 ++ (searchAll i false 64 (searchAll i true 64 x.2).2).1,
                (searchAll i false 64 (searchAll i true 64 x.2).2).2)) ([], s) = (found, u) →
        ∀ gone fresh, gone = free.filter (fun p => !found.any (fun q => p.same q && p.cross == q.cross)) →
          fresh = found.filter (fun p => !(planned u).any (fun q => p.same q && p.cross == q.cross)) →
        ∀ t, t = (fresh.foldl (fun l p => insertPlan p l) []).foldl (takeFound gone) (withdrawAll gone u) →
        Leaves (.replanDone n) s (afterRoom (report bSHAFT 0x08
          [w32 n, w32 (fresh.filter (fun p => gone.any p.same)).length, w32 committed]
          (govCancel .plannerBurst (modSh (fun b => { b with burst := false })
            (modShaft n (fun h => { h with changed := none }) t)))))) ∧
      (∀ p, s.shaft.tq.find? (fun p => p.slot == gearSlot n) = some p → Leaves (.gearChanged n) s (firePlanner p.cmp s))) ∧
    (rShaft s = false → Leaves (.segmentInForce n) s s ∧ Leaves (.segLate n) s s ∧ Leaves (.coasting n) s s ∧ Leaves (.captureFit n) s s ∧
      Leaves (.planConversion n) s s ∧ Leaves (.replanDone n) s s ∧ Leaves (.gearChanged n) s s) ∧
    ((shaft s n).changed = none → Leaves (.replanDone n) s s) ∧
    (s.shaft.tq.find? (fun p => p.slot == gearSlot n) = none → Leaves (.gearChanged n) s s) ∧
    ((shaft s n).claim ≠ 0 → Leaves (.claimTimeout n) s (report bSHAFT 0x07 [w32 n, 0] (modShaft n (fun h => { h with claim := 0 }) s))) ∧
    ((shaft s n).claim = 0 → Leaves (.claimTimeout n) s s) ∧
    (∀ p, s.shaft.tq[i]? = some p →
      (p.own = true → Leaves (.sectorFired i) s (firePlanner p.cmp s)) ∧
      (p.own = false → p.slot < 8192 → p.kind = 0 →
        ((pulse s p.arg.target).high = false → Leaves (.sectorFired i) s (effPulseEdgeOf p.arg.target s)) ∧
        ((pulse s p.arg.target).high = true → Leaves (.sectorFired i) s s)) ∧
      (p.own = false → p.slot < 8192 → p.kind = 2 →
        ((slotOf s p.arg.target).args.mode ≠ 3 → ∀ t, t = passTo p.fire s → Leaves (.sectorFired i) s
          (afterRoom (missPlan p (16 + 128) (modSh (fun b => { b with tq := b.tq.erase p }) t)))) ∧
        ((slotOf s p.arg.target).args.mode = 3 → Leaves (.sectorFired i) s s)) ∧
      (p.own = false → 8192 ≤ p.slot → Leaves (.sectorFired i) s s)) ∧
    (s.shaft.tq[i]? = none → Leaves (.sectorFired i) s s) ∧
    (∀ p, s.shaft.wait.find? (fun p => p.slot == n) = some p →
      Leaves (.eventMissed n) s (missPlan p 16 (modSh (fun b => { b with wait := b.wait.erase p }) (passTo (p.fire - usU 1) s)))) ∧
    (s.shaft.wait.find? (fun p => p.slot == n) = none → Leaves (.eventMissed n) s s) ∧
    (on = true ∨ 4096 ≤ s.shaft.tq.length → Leaves (.planOverload on) s (beginCause bSHAFT 5 (modSh (fun b => { b with overload := on }) s))) ∧
    (on = false → s.shaft.tq.length < 4096 → Leaves (.planOverload on) s (endCause bSHAFT 5 (modSh (fun b => { b with overload := on }) s))) ∧
    (∀ o, s.shaft.owed[i]? = some o → ∀ t, t = modSh (fun b => { b with owed := b.owed.eraseIdx i }) (passTo (max (o.fired.getD o.plan.cross) o.plan.cross) s) →
      (wantsRecord o.plan.arg o.plan.flags = true → ∀ e, e = ((angleAt t o.plan.shaft o.plan.cross).map (fun a => wrapI 64 (a - o.plan.angle))).getD 0 →
        Leaves (.captureRecordWrite i) s (putRecord (capRecord o.plan o.fired e t.shaft.recSeq) t)) ∧
      (wantsRecord o.plan.arg o.plan.flags = false → Leaves (.captureRecordWrite i) s t)) ∧
    (s.shaft.owed[i]? = none → Leaves (.captureRecordWrite i) s s)

/-- The rows of TIC that time brings (R183 to R200). -/
def Obligations.TicRows : Prop :=
  ∀ (c e i src edges : Nat) (a b : PinLevel) (l c1 c2 : Latch) (falling : Bool) (s : State),
    (rTic s = true →
      (c < 25 → ¬ (parN s bTIC c Par.tcChEdge = 0 ∧ falling = true) → ¬ (parN s bTIC c Par.tcChEdge = 1 ∧ falling = false) →
        ∀ k t ph, k = servingUnit s c → t = enters s k l → ph = (ticCh s c).phase + 1 →
        (ph < max 1 (parN s bTIC c Par.tcChPrescale) → Leaves (.ticEdge c falling l) s
          (modCh c (fun x => { x with count := (x.count + 1) % 2 ^ 32, phase := ph }) s)) ∧
        (max 1 (parN s bTIC c Par.tcChPrescale) ≤ ph → ∀ u, u = modCh c (fun x => { x with count := (x.count + 1) % 2 ^ 32, phase := 0 }) s →
          (inDeadTime s k t = true → Leaves (.ticEdge c falling l) s u) ∧
          (inDeadTime s k t = false → ∀ v at_, v = comparePair c k l (modInterp k (fun x => { x with last := some t }) u) →
            at_ = dueOf v (stampOf s c k l) →
            (measOf v c = none → Leaves (.ticEdge c falling l) s v) ∧
            (∀ m, measOf v c = some m →
              (m.cal ≠ [] → Leaves (.ticEdge c falling l) s v) ∧
              (m.cal = [] →
                (m.args.mode = 0 → Leaves (.ticEdge c falling l) s
                  (measCount m (pushRec c 0 falling (interp v (servingUnit v c)).stale (wrapN 48 at_) (ticCh v c).count 0 false c v))) ∧
                (m.args.mode = 1 → c = 24 → Leaves (.ticEdge c falling l) s (startEdge m at_ v)) ∧
                (m.args.mode = 1 → c ≠ 24 → Leaves (.ticEdge c falling l) s (stopEdge c m at_ falling v)) ∧
                (2 ≤ m.args.mode → Leaves (.ticEdge c falling l) s (gateEdge c at_ v))))))) ∧
      (25 ≤ c ∨ (parN s bTIC c Par.tcChEdge = 0 ∧ falling = true) ∨ (parN s bTIC c Par.tcChEdge = 1 ∧ falling = false) →
        Leaves (.ticEdge c falling l) s s) ∧
      (i < 31 → ∀ now t u first, now = bareTime s →
        t = (if inDeadTime s i now then s else modInterp i (fun x => { x with last := some now }) s) →
        u = pairRan i (comparePair (pinServed t i) i c2 (comparePair (pinServed t i) i c1 t)) → first = ((interp t i).first || (swapOn t i).any (fun w => w.cal == 16)) →
        ∀ p1 d, p1 = tapPos u i c1.code → d = tapPos u i c2.code - p1 →
        (d < 400 * 65536 ∨ 700 * 65536 < d → Leaves (.calPair i c1 c2) s (raise bTIC 1 u)) ∧
        (400 * 65536 ≤ d → d ≤ 700 * 65536 → ∀ sc o, sc = tickPs * 65536 / d → o = tickPs - sc * p1 / 65536 →
          ∀ v, v = modInterp i (fun x =>
            { x with
              scale := if first then sc else x.scale + (sc - x.scale) / 16
              offset := if first then o else x.offset + (o - x.offset) / 16
              first := false
              stale := false
              calAt := now }) u →
          (v.tic.interps.any (fun e => e.2.stale) = true → Leaves (.calPair i c1 c2) s v) ∧
          (v.tic.interps.any (fun e => e.2.stale) = false → Leaves (.calPair i c1 c2) s (endCause bTIC 2 v)))) ∧
      (c < 25 → measOf s c ≠ none ∨ encHolds s c = true → ∀ k t, k = servingUnit s c →
        t = passTo ((interp s k).calAt + s.guh.stepSum + (655360000 * parN s bTIC c Par.tcCalInterval : Nat)) s →
        Leaves (.calStale c) s (beginCause bTIC 2 (modInterp k (fun x => { x with stale := true }) t))) ∧
      (measOf s c = none → encHolds s c = false → Leaves (.calStale c) s s) ∧
      (e < 8 → (encOf s e).on = true →
        ∀ x a' b', x = encOf s e → a' = acceptedLevel s e x.a a → b' = acceptedLevel s e x.b b →
        (x.a = a' → x.b = b' → Leaves (.encoderEdge e a b l) s s) ∧
        (x.a ≠ a' → x.b ≠ b' → Leaves (.encoderEdge e a b l) s (raise bTIC 3 (modEnc e (fun x =>
          { x with
            a := a'
            b := b'
            quadErr := (x.quadErr + 1) % 2 ^ 32
            quadDue := true }) s))) ∧
        ((x.a ≠ a' ↔ x.b = b') → ∀ down, down = (countsUp x.a x.b a' b' == (parN s bTIC (0x40 + e) Par.tcEncDir == 1)) →
          Leaves (.encoderEdge e a b l) s (encTaken e (3 * e + b2n (x.b != b')) (!(if x.b != b' then b' else a')) false l
            (modEnc e (fun x =>
              { x with
                a := a'
                b := b'
                down := down
                pos := encStep x.pos down
                zLast := if x.down = down then x.zLast else none }) s)))) ∧
      (e < 8 → (encOf s e).on = true → ∀ t, t = encTaken e (3 * e + 2) falling true l s →
        (falling = true → Leaves (.encZ e falling l) s t) ∧
        (falling = false → parN s bTIC (0x40 + e) Par.tcEncZMode = 0 →
          Leaves (.encZ e falling l) s (modEnc e (fun x => { x with zLast := none }) t)) ∧
        (falling = false → parN s bTIC (0x40 + e) Par.tcEncZMode ≠ 0 →
          ∀ u set pos v, u = zCheck e t → set = (parN s bTIC (0x40 + e) Par.tcEncZMode == 2 && !(encOf u e).zSet) →
          pos = (if set then par u bTIC (0x40 + e) Par.tcEncZPosition else (encOf u e).pos) →
          v = modEnc e (fun x =>
            { x with
              pos := pos
              zSet := x.zSet || set
              zLast := some pos }) u →
          (set = true → Leaves (.encZ e falling l) s (report bTIC 0x06 [w32 e, w32 (wrapN 32 pos)] v)) ∧
          (set = false → Leaves (.encZ e falling l) s v))) ∧
      (monitorOk s src = true → edges ≠ 0 → ∀ m near, m = mon s src →
        near = m.marks.head?.any (fun q => decide (10 * (dueOf s l.tick - s.guh.stepSum - q.2) < 9 * (perSecU : Int))) →
        (ppsSource s src = true → near = true → Leaves (.monitorMark src edges l) s s) ∧
        (ppsSource s src = false ∨ near = false → ∀ t, t = modMon src (fun x => { x with count := m.count + edges }) s →
          (ppsSource s src = false → m.owed = false → wholeMs t src (m.count + edges) = wholeMs t src m.count →
            Leaves (.monitorMark src edges l) s t) ∧
          (ppsSource s src = true ∨ m.owed = true ∨ wholeMs t src (m.count + edges) ≠ wholeMs t src m.count →
            (freeMonitor t l = none → Leaves (.monitorMark src edges l) s (modMon src (fun x => { x with owed := true }) t)) ∧
            (∀ k, freeMonitor t l = some k → Leaves (.monitorMark src edges l) s (markStamped src k l t))))) ∧
      (monitorOk s src = false ∨ edges = 0 → Leaves (.monitorMark src edges l) s s)) ∧
    (rTic s = false → Leaves (.ticEdge c falling l) s s ∧ Leaves (.calPair i c1 c2) s s ∧ Leaves (.calStale c) s s ∧
      Leaves (.encoderEdge e a b l) s s ∧ Leaves (.encZ e falling l) s s ∧ Leaves (.monitorMark src edges l) s s) ∧
    (∀ m o, s.tic.meas.find? (fun m => m.start.isSome) = some m → m.start = some o →
      Leaves .intervalTimeout s (closeStart m o (o.stamp + m.args.timeout) true s)) ∧
    (s.tic.meas.find? (fun m => m.start.isSome) = none → Leaves .intervalTimeout s s) ∧
    (∀ m, measOf s c = some m → (m.args.mode = 2 → m.live.testBit c = true → Leaves (.freqDone c) s (gateDone c m s)) ∧
      (m.args.mode ≠ 2 → Leaves (.freqDone c) s s)) ∧
    (measOf s c = none → Leaves (.freqDone c) s s) ∧
    (∀ w, s.tic.swap = some w →
      (govGranted s (.interpSwap w.unit) = true → w.passed = true →
        ∀ u x out back, u = w.unit → x = w.spare → out = servingUnit s u → back = (servingUnit s u == x) →
        ∀ v, v = completeWith 0x0F02 (unitKey bTIC u) bTIC 0x04 [w32 u, w32 (if back then u else x)] stOk
          (modTic (fun t =>
            { t with
              x0 := if x = 29 then (if back then 0xFF else u) else t.x0
              x1 := if x = 29 then t.x1 else (if back then 0xFF else u)
              swap := none
              meas := t.meas.map (fun m => { m with cal := m.cal.filter (fun e => e.1 ≠ out) }) }) (govEnd (.interpSwap u) s)) →
        Leaves .interpSwapped s (rotSwapped bTIC u (if back then substituted none bTIC x u (swapCause v bTIC u) v
          else substituted none bTIC u x (swapCause v bTIC u) v))) ∧
      (govGranted s (.interpSwap w.unit) = false ∨ w.passed = false → Leaves .interpSwapped s s) ∧
      (w.passed = false → 2 ^ 20 ≤ w.seen → Leaves .interpMismatch s (interpFails (raise bTIC 5 s))) ∧
      (w.passed = true ∨ w.seen < 2 ^ 20 → Leaves .interpMismatch s s)) ∧
    (∀ w k y, s.tic.swap = some w → l.other = some y → k = servingUnit s w.unit → w.cal = 0 →
      govGranted s (.interpSwap w.unit) = true →
      ∀ d, d = signed48 (stampOf s c (comesIn s w) { l with code := y }) (stampOf s c k l) →
      (25 * 65536 < |d| * 1000 → comparePair c k l s = modTic (fun t => { t with swap := some { w with seen := w.seen + 1, diffs := [] } }) s) ∧
      (|d| * 1000 ≤ 25 * 65536 → ∀ ds, ds = (d :: w.diffs).take 4096 →
        ∀ q, q = (w.passed || (ds.length == 4096 && decide (|ds.foldl (· + ·) 0| * 1000 ≤ 4096 * 65536))) →
        comparePair c k l s = modTic (fun t => { t with swap := some { w with seen := w.seen + 1, diffs := ds, passed := q } }) s)) ∧
    (s.tic.swap = none → Leaves .interpSwapped s s ∧ Leaves .interpMismatch s s)

/-- The rows of SCHED and the privileged comparators (R127, R128, R277, R280, R289 to R294). -/
def Obligations.SchedulerRows : Prop :=
  ∀ (k p n stamp : Nat) (s : State),
    (∀ a, s.guh.cmps.find k = some a →
      ∀ soon, soon = (s.guh.lastFire.find k).any (fun f => decide (5 * (a.fires - f) < 5 * 3 * 65536 + 65536)) →
      ∀ at_, at_ = (if soon then s.guh.lastFire.get 0 k + rearmGap else a.fires) → ∀ t, t = passTo at_ s →
      ∀ u, u = { t with
        guh :=
          { t.guh with
            cmps := t.guh.cmps.del k
            lastFire := t.guh.lastFire.set k at_ } } →
      ∀ v, v = (if soon then raise bGUH 3 u else u) →
      (k < 16 → Leaves (.comparatorFire k) s (passGroup k a.due v)) ∧
      (16 ≤ k → k < 20 → Leaves (.comparatorFire k) s v) ∧
      (20 ≤ k → k < 28 → Leaves (.comparatorFire k) s (afterRoom (armPlanner
        ((v.shaft.tq.filter (fun p => p.own && p.cmp == k && decide (p.fire ≤ at_))).foldl (fun s p =>
          if p.slot < 8192 then firePlan p at_ s else gearDue (p.slot - gearSlot 0) s) v)))) ∧
      (k = 61 → Leaves (.comparatorFire k) s (fireAdjust v)) ∧
      (k = 62 → Leaves (.comparatorFire k) s (armSyncs
        { v with guh := { v.guh with syncs := v.guh.syncs.filter (fun e => decide (a.due < e.2)) } })) ∧
      (k = 63 → Leaves (.comparatorFire k) s (effLeapDone v))) ∧
    (s.guh.cmps.find k = none → k < 28 ∨ (61 ≤ k ∧ k < 64) → Leaves (.comparatorFire k) s s) ∧
    (28 ≤ k → k < 52 → Leaves (.comparatorFire k) s (effPulseEdgeOf (k - 28) s)) ∧
    (52 ≤ k → k < 60 → Leaves (.comparatorFire k) s (effFrameOutputEdge (k - 52) s)) ∧
    Leaves (.comparatorFire 60) s (fireCommit s) ∧
    (∀ a, s.guh.cmps.find (p / 4) = some a → ∀ v, fireCmp (p / 4) s = (some a, v) → Leaves (.gateBoundary p) s (passGroup (p / 4) a.due v)) ∧
    (s.guh.cmps.find (p / 4) = none → Leaves (.gateBoundary p) s s) ∧
    (∀ g, (portSched s p).gcl = some g → g.ref ≠ 0 → (portSched s p).state = 2 → (portSched s p).next = none → rShaft s = true →
      (planned s).any (fun q => q.slot == gateSlot p) = false →
      ∀ now c, now = (units s : Int) → c = s.shaft.lanes.get (cursorAt s g.shaft (now + 1)) (gateLane p) →
      (findCross s g.shaft true (onlyTarget true (laneTarget g (portSched s p))) c (now + planHorizon s) = none →
        Leaves (.angleBoundaryConverted p) s (setGateLane p (afterNone s g.shaft (now + planHorizon s) c) s)) ∧
      (∀ v carried t, findCross s g.shaft true (onlyTarget true (laneTarget g (portSched s p))) c (now + planHorizon s) =
          some (v, carried, t) →
        Leaves (.angleBoundaryConverted p) s (takeConverted (mkPlan s (laneArgs g.shaft) (gateSlot p) true v t 0 0)
          (setGateLane p (afterCross v carried) s)))) ∧
    ((portSched s p).gcl = none ∨ (portSched s p).state ≠ 2 ∨ (portSched s p).next ≠ none ∨ rShaft s = false ∨
        (planned s).any (fun q => q.slot == gateSlot p) = true →
      Leaves (.angleBoundaryConverted p) s s) ∧
    ((slotOf s n).args.mode ≠ 0 → (slotOf s n).args.mode ≠ 4 → rSched s = true →
      (∀ v, launchTime s n = some v → ∀ t, t = passTo v s →
        (portUp t (slotOf s n).args.port = true →
          launchKind t n v = 0 ∨ (launchBlocked t (slotOf s n).args.port (slotOf s n).args.cls (slotOf s n).frame.length = false ∧
            v ≤ dueOf t stamp ∧ dueOf t stamp - v ≤ ((slotOf s n).args.lateLimit : Int)) →
          ∀ q u, launchPlanned n t = (q, u) →
          (q = none → Leaves (.launch n stamp) s (launchSlot n v stamp u)) ∧
          (∀ p, q = some p → Leaves (.launch n stamp) s (afterRoom (onceDone p (oweRecord p (some v) (sectorEffect p v (launchSlot n v stamp u))))))) ∧
        (portUp t (slotOf s n).args.port = false → Leaves (.launch n stamp) s t) ∧
        (launchKind t n v ≠ 0 → portUp t (slotOf s n).args.port = false → ∀ q u, launchPlanned n t = (q, u) →
          (q = none → Leaves (.launchMissed n) s (slotAdvance n (launchMissed n v 1 u))) ∧
          (∀ p, q = some p → Leaves (.launchMissed n) s (afterRoom (onceDone p (oweRecord p (some v) (slotAdvance n (launchMissed n v 1 u))))))) ∧
        (launchKind t n v ≠ 0 → portUp t (slotOf s n).args.port = true →
          launchBlocked t (slotOf s n).args.port (slotOf s n).args.cls (slotOf s n).frame.length = true →
          ∀ q u, launchPlanned n (passTo (v + ((slotOf s n).args.lateLimit : Int)) t) = (q, u) →
          (q = none → Leaves (.launchMissed n) s (slotAdvance n (launchMissed n v 2 u))) ∧
          (∀ p, q = some p → Leaves (.launchMissed n) s (afterRoom (onceDone p (oweRecord p (some v) (slotAdvance n (launchMissed n v 2 u))))))) ∧
        (launchKind t n v = 0 → Leaves (.launchMissed n) s t)) ∧
      (launchTime s n = none → Leaves (.launch n stamp) s s ∧ Leaves (.launchMissed n) s s)) ∧
    ((slotOf s n).args.mode = 0 ∨ rSched s = false → Leaves (.launch n stamp) s s ∧ Leaves (.launchMissed n) s s) ∧
    ((slotOf s n).args.mode = 4 → Leaves (.launch n stamp) s s) ∧
    ((slotOf s n).args.mode = 4 → rSched s = true → (slotOf s n).committed = true →
      ∀ c v t, repeatChan s n = some c → (slotOf s n).next = some v → t = passTo v s →
        launchBlocked t (slotOf s n).args.port (slotOf s n).args.cls (slotOf s n).frame.length = true →
        Leaves (.launchMissed n) s (repeatDone n v c.2.hrPeriod
          (launchMissed n v 2 (passTo (v + ((slotOf s n).args.lateLimit : Int)) t)))) ∧
    (∀ c, repeatChan s n = some c → (slotOf s n).args.mode = 4 →
      (∀ d, (slotOf s n).deadline = some d → (slotOf s n).committed = false → c.2.hrCount < c.2.hrLimit → rSched s = true →
        Leaves (.hrCommit n) s (armLaunch (pipeOf (slotOf s n).args.port)
          (modSlot n (fun x => { x with committed := true, next := some d }) (passTo (d - usU 2) s)))) ∧
      (∀ v, (slotOf s n).next = some v → (slotOf s n).committed = true → ∀ t, t = passTo v s →
        (portUp t (slotOf s n).args.port = false → Leaves (.hrRepeat n stamp) s (repeatDone n v c.2.hrPeriod (launchMissed n v 1 t))) ∧
        (portUp t (slotOf s n).args.port = true → sendClaimOk t c.2 = false →
          Leaves (.hrRepeat n stamp) s (repeatDone n v c.2.hrPeriod (launchMissed n v 3 t))) ∧
        (portUp t (slotOf s n).args.port = true → sendClaimOk t c.2 = true →
          launchBlocked t (slotOf s n).args.port (slotOf s n).args.cls (slotOf s n).frame.length = false →
          v ≤ dueOf t stamp → dueOf t stamp - v ≤ ((slotOf s n).args.lateLimit : Int) →
          ∀ u, u = report bSCHED 0x06 [w32 c.1, w32 (c.2.hrCount + 1), w32 (stamp / 65536)] (countRepeat c.1 (launchFrame n v stamp t)) →
          (c.2.hrLimit ≤ c.2.hrCount + 1 → Leaves (.hrRepeat n stamp) s (repeatDone n v c.2.hrPeriod (exhaust n c.1 u))) ∧
          (c.2.hrCount + 1 < c.2.hrLimit → Leaves (.hrRepeat n stamp) s (repeatDone n v c.2.hrPeriod u))))) ∧
    ((slotOf s n).args.mode ≠ 4 ∨ repeatChan s n = none → Leaves (.hrCommit n) s s ∧ Leaves (.hrRepeat n stamp) s s)

/-- What a step is: the queue is first in, first out; an empty queue lets one time tick pass (DESIGN CHOICE, log
entry 1). -/
def Obligations.StepTakesTheFront : Prop :=
  (∀ (c : Instr) (s : State), step { s with pending := c :: s.pending } = exec c s) ∧
  (∀ s : State, s.pending = [] → step s = .next (finish (tick s)))

/-- Every row answers a next state, and so does every step. -/
def Obligations.EveryCommandGoesOn : Prop :=
  (∀ (i : Instr) (s : State), GoesOn (exec i s)) ∧ (∀ s : State, GoesOn (step s))

/-- Every ready bit that changed has been reported, and prerequisites hold, after any step from any state (R23, R24). -/
def Obligations.ReadyBitsStayTold : Prop :=
  ∀ s t : State, step s = .next t → ReadyTold t ∧ PrereqsHold t.told

/-- The state right after reset. -/
def Obligations.ResetState : Prop :=
  State.reset.pending = [] ∧ State.reset.boot.phase = .heldInReset ∧ ReadyTold State.reset ∧ PrereqsHold State.reset.told ∧
    ready0 State.reset = 0 ∧ ready1 State.reset = 0 ∧ Memory.wf State.reset.flash = true ∧ State.reset.guh.cmps = [] ∧
    (∀ b, (hdr State.reset b).first = none ∧ (hdr State.reset b).fltStatus = 0 ∧ (hdr State.reset b).intStatus = 0) ∧
    (∀ h, exec (.ident h) State.reset = .next State.reset)

/-- Standby Light mode at step 10 (R343): `i` is any row served as opcode `op`. -/
def Obligations.StandbyServesMarked : Prop :=
  (∀ (i : Instr) (op cls : Nat) (h : CmdHdr) (body : State → Resp) (s : State) (marked standby : Bool),
    (∀ u, exec i u = .next (finish (serve op h body u))) → s.boot.phase = .standbyLight → isRemote h.origin = false →
    transportOf h.origin ≠ 4 → opRow op = some (op, cls, marked, standby) → lockedFor op h marked s = false →
    classRank h.cls ≤ classRank cls →
    (standby = false → exec i s = .next (finish (sendReply h op stNotReady [] s))) ∧
    (standby = true → roleMatches h s = true → exec i s = .next (finish (afterReply op (body s) (answer op h (body s)))))) ∧
  (∀ r ∈ opRows, r.2.2.2 = true ↔ r.1 ∈ [0x0001, 0x0101, 0x0102, 0x0103, 0x0105, 0x0F01, 0x0F03])

/-- NO_REPLY (R322), for any row whose answer is known. -/
def Obligations.NoReplySendsNone : Prop :=
  ∀ (i : Instr) (h : CmdHdr) (op st : Nat) (w : List Word) (s t : State), Answers i h op st w s t → h.noReply = true →
    ((st = stOk ∨ st = stAccepted) → (transportOf h.origin = 1 ∨ isRemote h.origin = true) → exec i s = .next (finish t)) ∧
    (st ≠ stOk → st ≠ stAccepted → exec i s = .next (finish (sendReply { h with noReply := false } op st w t))) ∧
    (transportOf h.origin = 0 → exec i s = .next (finish (sendReply { h with noReply := false } op st w t))) ∧
    (∀ c u, commandDone h op c u = commandDone { h with noReply := false } op c u) ∧
    (∀ b lo l own u, reportRef h b lo l own u = reportRef { h with noReply := false } b lo l own u)

/-- The claim (R303).  `u` is the partner, or the same unit at another time. -/
def Obligations.ClaimFormsAndRanks : Prop :=
  ∀ (s u : State) (x y : PairRole), s.pair.state = some x → u.pair.state = some y → rPair s = true → rPair u = true →
    (((ownClaim s).testBit 15 = true ↔ x = .unpaired ∨ x = .active) ∧ ownClaim s / 2 ^ 8 % 2 ^ 7 = parN s bPAIR 0 Par.prPrio % 2 ^ 7 ∧
      ownClaim s % 2 ^ 8 = s.pair.epoch % 2 ^ 8 ∧ ownClaim s < 2 ^ 16) ∧
    ((x = .unpaired ∨ x = .active) → ¬ (y = .unpaired ∨ y = .active) → ownClaim u < ownClaim s) ∧
    ((x = .unpaired ∨ x = .active) = (y = .unpaired ∨ y = .active) →
      parN u bPAIR 0 Par.prPrio % 2 ^ 7 < parN s bPAIR 0 Par.prPrio % 2 ^ 7 → ownClaim u < ownClaim s) ∧
    (s.pair.epoch % 2 ^ 8 ≠ u.pair.epoch % 2 ^ 8 → ownClaim s ≠ ownClaim u) ∧
    (x = .active → grantConds s = true → heardClaim s < ownClaim s)

/-- Step 11 of Table EF-4 (R314). -/
def Obligations.RoleChecked : Prop :=
  (∀ (h : CmdHdr) (s : State),
    (h.trole = 0 → roleMatches h s = true) ∧
    (h.trole = 1 → (roleMatches h s = true ↔
      (s.pair.state = some .unpaired ∨ s.pair.state = some .active) ∧ h.epoch = s.pair.epoch)) ∧
    (h.trole = 2 → (roleMatches h s = true ↔ s.pair.state = some .standby ∧ h.epoch = s.pair.epoch))) ∧
  (∀ (i : Instr) (op : Nat) (h : CmdHdr) (body : State → Resp) (s : State),
    (∀ u, exec i u = .next (finish (serve op h body u))) → keeperUp s = true →
    (s.boot.phase == .standbyLight && isRemote h.origin) = false → stepRefusal op h s = none → roleMatches h s = false →
    exec i s = .next (finish (sendReply h op stRoleMoved
      [w32 (s.pair.epoch % 2 ^ 16 * 2 ^ 16 + ownClaim s % 2 ^ 16), w32 ((s.pair.state.map PairRole.code).getD 0)] s)))

/-- A fault with reaction RECORD or INTERRUPT (R374, R376), raised by the device or injected. -/
def Obligations.FaultLatched : Prop :=
  (∀ (b n : Nat) (inj : Bool) (s : State), hasSource s b n = true → reaction s b n ≤ rInterrupt →
    (hdr (raiseFault b n inj s) b).fltStatus = setBit (hdr s b).fltStatus n ∧
    ((hdr s b).first = none →
      (hdr (raiseFault b n inj s) b).first = some ⟨n, reaction s b n, if rGuhRun s then rollNs s else 0⟩ ∧
      (hdr (raiseFault b n inj s) b).ovf = (hdr s b).ovf ∧ (hdr (raiseFault b n inj s) b).ovfCount = (hdr s b).ovfCount) ∧
    ((hdr s b).first ≠ none → (hdr (raiseFault b n inj s) b).first = (hdr s b).first ∧
      (hdr (raiseFault b n inj s) b).ovf = true ∧
      (hdr (raiseFault b n inj s) b).ovfCount = min ((hdr s b).ovfCount + 1) 255) ∧
    (hdr (raiseFault b n inj s) b).intStatus =
      (if reaction s b n = rInterrupt ∧ ((hdr s b).first = none ∨ (hdr s b).level < rInterrupt)
        then setBit (hdr s b).intStatus n else (hdr s b).intStatus) ∧
    (hdr (raiseFault b n inj s) b).causeActive = (hdr s b).causeActive ∧
    (hdr (raiseFault b n inj s) b).intEnable = (hdr s b).intEnable ∧
    (hdr (raiseFault b n inj s) b).state = (hdr s b).state ∧
    (∀ k, k ≠ b → (hdr (raiseFault b n inj s) k).fltStatus = (hdr s k).fltStatus ∧
      (hdr (raiseFault b n inj s) k).first = (hdr s k).first ∧ (hdr (raiseFault b n inj s) k).intStatus = (hdr s k).intStatus) ∧
    (raiseFault b n inj s).iso = s.iso) ∧
  (∀ (h : CmdHdr) (b n : Nat) (s : State), Taken 0x0E05 h s → s.keep.testUnlocked = true → b < nBlocks →
    hasSource s b n = true → Answers (.faultInject h b n) h 0x0E05 stOk [] s (raiseFault b n true s))

/-- The operations on the flash (R367, R404); what an unwritten byte reads as is DESIGN CHOICE, log entry 3. -/
def Obligations.FlashBytes : Prop :=
  (∀ (m : List Host.Cell) (k : Nat) (l : List Byte) (a : Nat),
    Memory.read (Memory.writeAll m k l) a = if k ≤ a ∧ a < k + l.length then l.getD (a - k) 0 else Memory.read m a) ∧
  (∀ (m : List Host.Cell) (k a : Nat),
    Memory.read (eraseSector k m) a = if a / 4096 = k / 4096 then erased else Memory.read m a) ∧
  (∀ (m : List Host.Cell) (k : Nat) (l : List Byte), Memory.wf m = true →
    Memory.wf (Memory.writeAll m k l) = true ∧ Memory.wf (eraseSector k m) = true) ∧
  (∀ m n : List Host.Cell, Memory.wf m = true → Memory.wf n = true → (∀ a, Memory.read m a = Memory.read n a) → m = n)

/-- `t` is `s` in everything that is no queue, ring or signal to the outside. -/
def Obligations.ReplyFrames : Prop :=
  (∀ (s t : State), ((∃ h op st w, t = sendReply h op st w s) ∨ ∃ b lo w, t = report b lo w s) →
    t.params = s.params ∧ t.staged = s.staged ∧ t.keep.commit = s.keep.commit ∧ t.boot = s.boot ∧ t.aon = s.aon ∧
    t.flash = s.flash ∧ t.iso = s.iso ∧ t.ticks = s.ticks ∧ t.c5 = s.c5 ∧ t.lanes = s.lanes ∧ t.quads = s.quads ∧
    t.trunks = s.trunks ∧ t.edges = s.edges ∧ t.clk = s.clk ∧ t.guh = s.guh ∧ t.pair = s.pair ∧ t.refs = s.refs ∧
    t.tic = s.tic ∧ t.shaft = s.shaft ∧ t.core = s.core ∧ t.buf = s.buf ∧ t.sched = s.sched ∧ t.trace = s.trace ∧
    t.hlth = s.hlth ∧ t.pending = s.pending ∧ ready0 t = ready0 s ∧ ready1 t = ready1 s ∧
    (∀ b, (hdr t b).state = (hdr s b).state ∧ (hdr t b).fltStatus = (hdr s b).fltStatus ∧ (hdr t b).first = (hdr s b).first ∧
      (hdr t b).ovf = (hdr s b).ovf ∧ (hdr t b).intStatus = (hdr s b).intStatus ∧ (hdr t b).causeActive = (hdr s b).causeActive ∧
      (hdr t b).pcnt = (hdr s b).pcnt)) ∧
  (∀ s : State, settled s = true → finish s = s)

/-- The header `y` is `x` after a W1C of FLT_STATUS by `flt` and of INT_STATUS by `int`, and of OVF where `ovf` (R384). -/
def Obligations.FaultRegistersClear : Prop :=
  ∀ (b : Nat) (s : State), b < nBlocks → s.boot.phase ≠ .heldInReset →
    (∀ m : Word, ∃ t, Leaves (.fltStatusClear b m) s t ∧
      (∀ n, n < 32 → ((hdr t b).fltStatus.testBit n = true ↔
        (hdr s b).fltStatus.testBit n = true ∧ ¬ (m.toNat.testBit n = true ∧ (hdr s b).causeActive.testBit n = false))) ∧
      ((hdr t b).fltStatus = 0 → (hdr t b).first = none ∧ (hdr t b).level = 0 ∧ (hdr t b).stopFlag = false) ∧
      ((hdr t b).fltStatus ≠ 0 → (hdr t b).first = (hdr s b).first ∧ (hdr t b).level = (hdr s b).level ∧
        (hdr t b).stopFlag = (hdr s b).stopFlag) ∧
      (hdr t b).ovf = (hdr s b).ovf ∧ (hdr t b).ovfCount = (hdr s b).ovfCount ∧
      (hdr t b).intStatus = (hdr s b).intStatus ∧ (hdr t b).causeActive = (hdr s b).causeActive) ∧
    (∀ m : Word, ∃ t, Leaves (.intStatusClear b m) s t ∧
      (∀ n, n < 32 → ((hdr t b).intStatus.testBit n = true ↔
        (hdr s b).intStatus.testBit n = true ∧ m.toNat.testBit n = false)) ∧
      (hdr t b).fltStatus = (hdr s b).fltStatus ∧ (hdr t b).first = (hdr s b).first ∧ (hdr t b).ovf = (hdr s b).ovf ∧
      (hdr t b).ovfCount = (hdr s b).ovfCount ∧ (hdr t b).causeActive = (hdr s b).causeActive ∧
      (hdr t b).level = (hdr s b).level ∧ (hdr t b).stopFlag = (hdr s b).stopFlag) ∧
    (∃ t, Leaves (.fltOvfClear b) s t ∧ (hdr t b).ovf = false ∧ (hdr t b).ovfCount = 0 ∧
      (hdr t b).fltStatus = (hdr s b).fltStatus ∧ (hdr t b).first = (hdr s b).first ∧
      (hdr t b).intStatus = (hdr s b).intStatus ∧ (hdr t b).causeActive = (hdr s b).causeActive) ∧
    (∀ (h : CmdHdr) (flt int : Nat) (ovf : Bool), Taken 0x0E02 h s →
      ∃ t, Answers (.faultClear h b flt int ovf) h 0x0E02 stOk [w32 (hdr t b).fltStatus, w32 (hdr t b).causeActive] s t ∧
      (∀ n, n < 32 → ((hdr t b).fltStatus.testBit n = true ↔
        (hdr s b).fltStatus.testBit n = true ∧ ¬ (flt.testBit n = true ∧ (hdr s b).causeActive.testBit n = false))) ∧
      (∀ n, n < 32 → ((hdr t b).intStatus.testBit n = true ↔
        (hdr s b).intStatus.testBit n = true ∧ int.testBit n = false)) ∧
      ((hdr t b).fltStatus = 0 → (hdr t b).first = none ∧ (hdr t b).level = 0 ∧ (hdr t b).stopFlag = false) ∧
      ((hdr t b).fltStatus ≠ 0 → (hdr t b).first = (hdr s b).first ∧ (hdr t b).level = (hdr s b).level ∧
        (hdr t b).stopFlag = (hdr s b).stopFlag) ∧
      (hdr t b).ovf = (if ovf then false else (hdr s b).ovf) ∧
      (hdr t b).ovfCount = (if ovf then 0 else (hdr s b).ovfCount) ∧ (hdr t b).causeActive = (hdr s b).causeActive)
end

