-- ==== Sys2Proof/Laws/Memory.lean ====
section
/-! SUPPORT. The flash as an addressed memory: reading after a write, and the canonical form that every operation on it
keeps (R367). -/

namespace Sys2Proof.Machine

/-- Every key of a list of cells lies above `lo`, the keys rise and no entry holds the erased value. -/
def Memory.above (lo : Nat) : List Host.Cell → Bool
  | [] => true
  | (a, v) :: r => decide (lo < a) && (v != erased) && Memory.above a r

theorem Memory.wf_cons (a : Nat) (v : Byte) (r : List Host.Cell) :
    Memory.wf ((a, v) :: r) = ((v != erased) && Memory.above a r) := by
  induction r generalizing a v with
  | nil => simp [Memory.wf, Memory.above]
  | cons e r ih =>
    obtain ⟨b, w⟩ := e
    simp only [Memory.wf, Memory.above, ih]
    cases decide (a < b) <;> cases (v != erased) <;> simp

theorem Memory.above_lift (lo hi : Nat) (m : List Host.Cell) (h : lo ≤ hi) (g : Memory.above hi m = true) :
    Memory.above lo m = true := by
  cases m with
  | nil => rfl
  | cons e r =>
    obtain ⟨a, v⟩ := e
    simp only [Memory.above, Bool.and_eq_true, decide_eq_true_eq] at g ⊢
    exact ⟨⟨by omega, g.1.2⟩, g.2⟩

theorem Memory.wf_of_above (lo : Nat) (m : List Host.Cell) (h : Memory.above lo m = true) : Memory.wf m = true := by
  cases m with
  | nil => rfl
  | cons e r =>
    obtain ⟨a, v⟩ := e
    simp only [Memory.above, Bool.and_eq_true] at h
    simp [Memory.wf_cons, h.1.2, h.2]

theorem Memory.above_put (lo : Nat) (m : List Host.Cell) (k : Nat) (v : Byte) (hk : lo < k) (hv : v ≠ erased)
    (h : Memory.above lo m = true) : Memory.above lo (Memory.put m k v) = true := by
  induction m generalizing lo with
  | nil => simp [Memory.put, Memory.above, hk, hv]
  | cons e r ih =>
    obtain ⟨a, u⟩ := e
    simp only [Memory.above, Bool.and_eq_true, decide_eq_true_eq] at h
    obtain ⟨⟨h1, h2⟩, h3⟩ := h
    by_cases g : k < a
    · have : (u == erased) = false := by simpa using h2
      simp_all [Memory.put, Memory.above]
    · by_cases e1 : a = k
      · subst e1
        simp [Memory.put, Memory.above, hk, hv, h3]
      · have hlt : a < k := by omega
        simp only [Memory.put, if_neg g, if_neg e1, Memory.above, Bool.and_eq_true, decide_eq_true_eq]
        exact ⟨⟨h1, h2⟩, ih a hlt h3⟩

theorem Memory.above_erase (lo : Nat) (m : List Host.Cell) (k : Nat) (h : Memory.above lo m = true) :
    Memory.above lo (Memory.erase m k) = true := by
  induction m generalizing lo with
  | nil => rfl
  | cons e r ih =>
    obtain ⟨a, u⟩ := e
    simp only [Memory.above, Bool.and_eq_true, decide_eq_true_eq] at h
    obtain ⟨⟨h1, h2⟩, h3⟩ := h
    have := ih a h3
    by_cases e1 : a = k
    · subst e1
      simpa [Memory.erase] using Memory.above_lift lo a _ (by omega) (by simpa [Memory.erase] using this)
    · simp_all [Memory.erase, Memory.above]

/-- A write keeps the canonical form. -/
theorem Memory.wf_write (m : List Host.Cell) (k : Nat) (v : Byte) (h : Memory.wf m = true) :
    Memory.wf (Memory.write m k v) = true := by
  cases m with
  | nil =>
    by_cases hv : v = erased <;> simp [Memory.write, hv, Memory.erase, Memory.put, Memory.wf]
  | cons e r =>
    obtain ⟨a, u⟩ := e
    rw [Memory.wf_cons, Bool.and_eq_true] at h
    by_cases hv : v = erased
    · by_cases e1 : a = k
      · subst e1
        have := Memory.above_erase a r a h.2
        simpa [Memory.write, hv, Memory.erase] using Memory.wf_of_above a _ (by simpa [Memory.erase] using this)
      · have := Memory.above_erase a r k h.2
        have e2 : Memory.erase ((a, u) :: r) k = (a, u) :: Memory.erase r k := by simp [Memory.erase, e1]
        simp only [Memory.write, hv, if_true, e2, Memory.wf_cons, h.1, this, Bool.and_self]
    · by_cases g : k < a
      · simp_all [Memory.write, Memory.put, Memory.wf_cons, Memory.above]
      · by_cases e1 : a = k
        · subst e1
          simp [Memory.write, hv, Memory.put, Memory.wf_cons, h.2]
        · have hlt : a < k := by omega
          simp [Memory.write, hv, Memory.put, Memory.wf_cons, g, e1, h.1, Memory.above_put a r k v hlt hv h.2]

/-- Writing bytes keeps the canonical form. -/
theorem Memory.wf_writeAll (m : List Host.Cell) (k : Nat) (l : List Byte) (h : Memory.wf m = true) :
    Memory.wf (Memory.writeAll m k l) = true := by
  induction l generalizing m k with
  | nil => exact h
  | cons b r ih => exact ih _ _ (Memory.wf_write m k b h)

/-- Removing entries keeps the canonical form. -/
theorem Memory.above_filter (lo : Nat) (m : List Host.Cell) (p : Host.Cell → Bool) (h : Memory.above lo m = true) :
    Memory.above lo (m.filter p) = true := by
  induction m generalizing lo with
  | nil => rfl
  | cons e r ih =>
    obtain ⟨a, u⟩ := e
    simp only [Memory.above, Bool.and_eq_true, decide_eq_true_eq] at h
    obtain ⟨⟨h1, h2⟩, h3⟩ := h
    have := ih a h3
    by_cases g : p (a, u) = true
    · simp_all [Memory.above]
    · simpa [g] using Memory.above_lift lo a _ (by omega) this

/-- Erasing a sector keeps the canonical form. -/
theorem Memory.wf_filter (m : List Host.Cell) (p : Host.Cell → Bool) (h : Memory.wf m = true) :
    Memory.wf (m.filter p) = true := by
  cases m with
  | nil => rfl
  | cons e r =>
    obtain ⟨a, u⟩ := e
    rw [Memory.wf_cons, Bool.and_eq_true] at h
    have := Memory.above_filter a r p h.2
    by_cases g : p (a, u) = true
    · simp [g, Memory.wf_cons, h.1, this]
    · simpa [g] using Memory.wf_of_above a _ this

theorem Memory.read_put_same (m : List Host.Cell) (k : Nat) (v : Byte) : Memory.read (Memory.put m k v) k = v := by
  induction m with
  | nil => simp [Memory.put, Memory.read]
  | cons e r ih =>
    obtain ⟨a, u⟩ := e
    by_cases g : k < a
    · simp [Memory.put, Memory.read, g]
    · by_cases e1 : a = k <;> simp [Memory.put, Memory.read, g, e1, ih]

theorem Memory.read_put_other (m : List Host.Cell) (k i : Nat) (v : Byte) (h : i ≠ k) :
    Memory.read (Memory.put m k v) i = Memory.read m i := by
  induction m with
  | nil => simp [Memory.put, Memory.read, Ne.symm h]
  | cons e r ih =>
    obtain ⟨a, u⟩ := e
    by_cases g : k < a
    · simp [Memory.put, Memory.read, g, Ne.symm h]
    · by_cases e1 : a = k
      · subst e1
        simp [Memory.put, Memory.read, Ne.symm h]
      · simp only [Memory.put, if_neg g, if_neg e1, Memory.read, ih]

theorem Memory.read_erase_same (m : List Host.Cell) (k : Nat) : Memory.read (Memory.erase m k) k = erased := by
  induction m with
  | nil => rfl
  | cons e r ih =>
    obtain ⟨a, u⟩ := e
    by_cases e1 : a = k
    · simpa [Memory.erase, e1] using ih
    · have e2 : Memory.erase ((a, u) :: r) k = (a, u) :: Memory.erase r k := by simp [Memory.erase, e1]
      simp only [e2, Memory.read, if_neg e1, ih]

theorem Memory.read_erase_other (m : List Host.Cell) (k i : Nat) (h : i ≠ k) :
    Memory.read (Memory.erase m k) i = Memory.read m i := by
  induction m with
  | nil => rfl
  | cons e r ih =>
    obtain ⟨a, u⟩ := e
    by_cases e1 : a = k
    · subst e1
      have e2 : Memory.erase ((a, u) :: r) a = Memory.erase r a := by simp [Memory.erase]
      simp only [e2, ih, Memory.read, if_neg (Ne.symm h)]
    · have e2 : Memory.erase ((a, u) :: r) k = (a, u) :: Memory.erase r k := by simp [Memory.erase, e1]
      simp only [e2, Memory.read, ih]

/-- Reading one byte after a write of one byte. -/
theorem Memory.read_write (m : List Host.Cell) (k i : Nat) (v : Byte) :
    Memory.read (Memory.write m k v) i = if i = k then v else Memory.read m i := by
  by_cases hv : v = erased <;> by_cases h : i = k
  · subst h; simp [Memory.write, hv, Memory.read_erase_same]
  · simp [Memory.write, hv, h, Memory.read_erase_other m k i h]
  · subst h; simp [Memory.write, hv, Memory.read_put_same]
  · simp [Memory.write, hv, h, Memory.read_put_other m k i v h]

/-- Reading one byte after a write of several: the bytes written, and every other one as before. -/
theorem Memory.read_writeAll (l : List Byte) : ∀ (m : List Host.Cell) (k i : Nat),
    Memory.read (Memory.writeAll m k l) i =
      if k ≤ i ∧ i < k + l.length then l.getD (i - k) 0 else Memory.read m i := by
  induction l with
  | nil =>
    intro m k i
    have g : ¬ (k ≤ i ∧ i < k + ([] : List Byte).length) := by simp; try omega
    simp only [Memory.writeAll, if_neg g]
  | cons b r ih =>
    intro m k i
    rw [Memory.writeAll, ih, Memory.read_write]
    by_cases h : i = k
    · subst h
      simp
    · by_cases g : k + 1 ≤ i ∧ i < k + 1 + r.length
      · have : i - k = (i - (k + 1)) + 1 := by omega
        have g2 : k ≤ i ∧ i < k + (b :: r).length := by simp; omega
        simp only [g, g2, and_self, if_true, this]
        rfl
      · have g2 : ¬ (k ≤ i ∧ i < k + (b :: r).length) := by simp; omega
        simp only [if_neg g, if_neg h, if_neg g2]

end Sys2Proof.Machine
end

