-- ==== Sys2Proof/Laws/State.lean ====
section
/-! SUPPORT. Every field of State under every named update: the field an update writes, and every other as it was. -/

namespace Sys2Proof.Machine

variable (s : State)

/-! emit -/

@[simp] theorem emit_outbox (o : Out) : (emit o s).outbox = o :: s.outbox := rfl
@[simp] theorem emit_pending (o : Out) : (emit o s).pending = s.pending := rfl
@[simp] theorem emit_free (o : Out) : (emit o s).free = s.free := rfl
@[simp] theorem emit_ticks (o : Out) : (emit o s).ticks = s.ticks := rfl
@[simp] theorem emit_c5 (o : Out) : (emit o s).c5 = s.c5 := rfl
@[simp] theorem emit_cycle (o : Out) : (emit o s).cycle = s.cycle := rfl
@[simp] theorem emit_boot (o : Out) : (emit o s).boot = s.boot := rfl
@[simp] theorem emit_aon (o : Out) : (emit o s).aon = s.aon := rfl
@[simp] theorem emit_flash (o : Out) : (emit o s).flash = s.flash := rfl
@[simp] theorem emit_keep (o : Out) : (emit o s).keep = s.keep := rfl
@[simp] theorem emit_host (o : Out) : (emit o s).host = s.host := rfl
@[simp] theorem emit_iso (o : Out) : (emit o s).iso = s.iso := rfl
@[simp] theorem emit_snap (o : Out) : (emit o s).snap = s.snap := rfl
@[simp] theorem emit_hdrs (o : Out) : (emit o s).hdrs = s.hdrs := rfl
@[simp] theorem emit_told (o : Out) : (emit o s).told = s.told := rfl
@[simp] theorem emit_told1 (o : Out) : (emit o s).told1 = s.told1 := rfl
@[simp] theorem emit_halts (o : Out) : (emit o s).halts = s.halts := rfl
@[simp] theorem emit_params (o : Out) : (emit o s).params = s.params := rfl
@[simp] theorem emit_staged (o : Out) : (emit o s).staged = s.staged := rfl
@[simp] theorem emit_quads (o : Out) : (emit o s).quads = s.quads := rfl
@[simp] theorem emit_lanes (o : Out) : (emit o s).lanes = s.lanes := rfl
@[simp] theorem emit_trunks (o : Out) : (emit o s).trunks = s.trunks := rfl
@[simp] theorem emit_edges (o : Out) : (emit o s).edges = s.edges := rfl
@[simp] theorem emit_clk (o : Out) : (emit o s).clk = s.clk := rfl
@[simp] theorem emit_guh (o : Out) : (emit o s).guh = s.guh := rfl
@[simp] theorem emit_pair (o : Out) : (emit o s).pair = s.pair := rfl
@[simp] theorem emit_refs (o : Out) : (emit o s).refs = s.refs := rfl
@[simp] theorem emit_tic (o : Out) : (emit o s).tic = s.tic := rfl
@[simp] theorem emit_shaft (o : Out) : (emit o s).shaft = s.shaft := rfl
@[simp] theorem emit_core (o : Out) : (emit o s).core = s.core := rfl
@[simp] theorem emit_buf (o : Out) : (emit o s).buf = s.buf := rfl
@[simp] theorem emit_sched (o : Out) : (emit o s).sched = s.sched := rfl
@[simp] theorem emit_trace (o : Out) : (emit o s).trace = s.trace := rfl
@[simp] theorem emit_hlth (o : Out) : (emit o s).hlth = s.hlth := rfl
@[simp] theorem emit_storeTrained (o : Out) : (emit o s).storeTrained = s.storeTrained := rfl
@[simp] theorem emit_storeSize (o : Out) : (emit o s).storeSize = s.storeSize := rfl
@[simp] theorem emit_storeRetrains (o : Out) : (emit o s).storeRetrains = s.storeRetrains := rfl
@[simp] theorem emit_eccCorr (o : Out) : (emit o s).eccCorr = s.eccCorr := rfl

/-! setHdr -/

@[simp] theorem setHdr_hdrs (b : Nat) (h : Hdr) : (setHdr b h s).hdrs = s.hdrs.set b h := rfl
@[simp] theorem setHdr_pending (b : Nat) (h : Hdr) : (setHdr b h s).pending = s.pending := rfl
@[simp] theorem setHdr_outbox (b : Nat) (h : Hdr) : (setHdr b h s).outbox = s.outbox := rfl
@[simp] theorem setHdr_free (b : Nat) (h : Hdr) : (setHdr b h s).free = s.free := rfl
@[simp] theorem setHdr_ticks (b : Nat) (h : Hdr) : (setHdr b h s).ticks = s.ticks := rfl
@[simp] theorem setHdr_c5 (b : Nat) (h : Hdr) : (setHdr b h s).c5 = s.c5 := rfl
@[simp] theorem setHdr_cycle (b : Nat) (h : Hdr) : (setHdr b h s).cycle = s.cycle := rfl
@[simp] theorem setHdr_boot (b : Nat) (h : Hdr) : (setHdr b h s).boot = s.boot := rfl
@[simp] theorem setHdr_aon (b : Nat) (h : Hdr) : (setHdr b h s).aon = s.aon := rfl
@[simp] theorem setHdr_flash (b : Nat) (h : Hdr) : (setHdr b h s).flash = s.flash := rfl
@[simp] theorem setHdr_keep (b : Nat) (h : Hdr) : (setHdr b h s).keep = s.keep := rfl
@[simp] theorem setHdr_host (b : Nat) (h : Hdr) : (setHdr b h s).host = s.host := rfl
@[simp] theorem setHdr_iso (b : Nat) (h : Hdr) : (setHdr b h s).iso = s.iso := rfl
@[simp] theorem setHdr_snap (b : Nat) (h : Hdr) : (setHdr b h s).snap = s.snap := rfl
@[simp] theorem setHdr_told (b : Nat) (h : Hdr) : (setHdr b h s).told = s.told := rfl
@[simp] theorem setHdr_told1 (b : Nat) (h : Hdr) : (setHdr b h s).told1 = s.told1 := rfl
@[simp] theorem setHdr_halts (b : Nat) (h : Hdr) : (setHdr b h s).halts = s.halts := rfl
@[simp] theorem setHdr_params (b : Nat) (h : Hdr) : (setHdr b h s).params = s.params := rfl
@[simp] theorem setHdr_staged (b : Nat) (h : Hdr) : (setHdr b h s).staged = s.staged := rfl
@[simp] theorem setHdr_quads (b : Nat) (h : Hdr) : (setHdr b h s).quads = s.quads := rfl
@[simp] theorem setHdr_lanes (b : Nat) (h : Hdr) : (setHdr b h s).lanes = s.lanes := rfl
@[simp] theorem setHdr_trunks (b : Nat) (h : Hdr) : (setHdr b h s).trunks = s.trunks := rfl
@[simp] theorem setHdr_edges (b : Nat) (h : Hdr) : (setHdr b h s).edges = s.edges := rfl
@[simp] theorem setHdr_clk (b : Nat) (h : Hdr) : (setHdr b h s).clk = s.clk := rfl
@[simp] theorem setHdr_guh (b : Nat) (h : Hdr) : (setHdr b h s).guh = s.guh := rfl
@[simp] theorem setHdr_pair (b : Nat) (h : Hdr) : (setHdr b h s).pair = s.pair := rfl
@[simp] theorem setHdr_refs (b : Nat) (h : Hdr) : (setHdr b h s).refs = s.refs := rfl
@[simp] theorem setHdr_tic (b : Nat) (h : Hdr) : (setHdr b h s).tic = s.tic := rfl
@[simp] theorem setHdr_shaft (b : Nat) (h : Hdr) : (setHdr b h s).shaft = s.shaft := rfl
@[simp] theorem setHdr_core (b : Nat) (h : Hdr) : (setHdr b h s).core = s.core := rfl
@[simp] theorem setHdr_buf (b : Nat) (h : Hdr) : (setHdr b h s).buf = s.buf := rfl
@[simp] theorem setHdr_sched (b : Nat) (h : Hdr) : (setHdr b h s).sched = s.sched := rfl
@[simp] theorem setHdr_trace (b : Nat) (h : Hdr) : (setHdr b h s).trace = s.trace := rfl
@[simp] theorem setHdr_hlth (b : Nat) (h : Hdr) : (setHdr b h s).hlth = s.hlth := rfl
@[simp] theorem setHdr_storeTrained (b : Nat) (h : Hdr) : (setHdr b h s).storeTrained = s.storeTrained := rfl
@[simp] theorem setHdr_storeSize (b : Nat) (h : Hdr) : (setHdr b h s).storeSize = s.storeSize := rfl
@[simp] theorem setHdr_storeRetrains (b : Nat) (h : Hdr) : (setHdr b h s).storeRetrains = s.storeRetrains := rfl
@[simp] theorem setHdr_eccCorr (b : Nat) (h : Hdr) : (setHdr b h s).eccCorr = s.eccCorr := rfl

/-! modHdr -/

@[simp] theorem modHdr_hdrs (b : Nat) (f : Hdr → Hdr) : (modHdr b f s).hdrs = s.hdrs.set b (f (hdr s b)) := rfl
@[simp] theorem modHdr_pending (b : Nat) (f : Hdr → Hdr) : (modHdr b f s).pending = s.pending := rfl
@[simp] theorem modHdr_outbox (b : Nat) (f : Hdr → Hdr) : (modHdr b f s).outbox = s.outbox := rfl
@[simp] theorem modHdr_free (b : Nat) (f : Hdr → Hdr) : (modHdr b f s).free = s.free := rfl
@[simp] theorem modHdr_ticks (b : Nat) (f : Hdr → Hdr) : (modHdr b f s).ticks = s.ticks := rfl
@[simp] theorem modHdr_c5 (b : Nat) (f : Hdr → Hdr) : (modHdr b f s).c5 = s.c5 := rfl
@[simp] theorem modHdr_cycle (b : Nat) (f : Hdr → Hdr) : (modHdr b f s).cycle = s.cycle := rfl
@[simp] theorem modHdr_boot (b : Nat) (f : Hdr → Hdr) : (modHdr b f s).boot = s.boot := rfl
@[simp] theorem modHdr_aon (b : Nat) (f : Hdr → Hdr) : (modHdr b f s).aon = s.aon := rfl
@[simp] theorem modHdr_flash (b : Nat) (f : Hdr → Hdr) : (modHdr b f s).flash = s.flash := rfl
@[simp] theorem modHdr_keep (b : Nat) (f : Hdr → Hdr) : (modHdr b f s).keep = s.keep := rfl
@[simp] theorem modHdr_host (b : Nat) (f : Hdr → Hdr) : (modHdr b f s).host = s.host := rfl
@[simp] theorem modHdr_iso (b : Nat) (f : Hdr → Hdr) : (modHdr b f s).iso = s.iso := rfl
@[simp] theorem modHdr_snap (b : Nat) (f : Hdr → Hdr) : (modHdr b f s).snap = s.snap := rfl
@[simp] theorem modHdr_told (b : Nat) (f : Hdr → Hdr) : (modHdr b f s).told = s.told := rfl
@[simp] theorem modHdr_told1 (b : Nat) (f : Hdr → Hdr) : (modHdr b f s).told1 = s.told1 := rfl
@[simp] theorem modHdr_halts (b : Nat) (f : Hdr → Hdr) : (modHdr b f s).halts = s.halts := rfl
@[simp] theorem modHdr_params (b : Nat) (f : Hdr → Hdr) : (modHdr b f s).params = s.params := rfl
@[simp] theorem modHdr_staged (b : Nat) (f : Hdr → Hdr) : (modHdr b f s).staged = s.staged := rfl
@[simp] theorem modHdr_quads (b : Nat) (f : Hdr → Hdr) : (modHdr b f s).quads = s.quads := rfl
@[simp] theorem modHdr_lanes (b : Nat) (f : Hdr → Hdr) : (modHdr b f s).lanes = s.lanes := rfl
@[simp] theorem modHdr_trunks (b : Nat) (f : Hdr → Hdr) : (modHdr b f s).trunks = s.trunks := rfl
@[simp] theorem modHdr_edges (b : Nat) (f : Hdr → Hdr) : (modHdr b f s).edges = s.edges := rfl
@[simp] theorem modHdr_clk (b : Nat) (f : Hdr → Hdr) : (modHdr b f s).clk = s.clk := rfl
@[simp] theorem modHdr_guh (b : Nat) (f : Hdr → Hdr) : (modHdr b f s).guh = s.guh := rfl
@[simp] theorem modHdr_pair (b : Nat) (f : Hdr → Hdr) : (modHdr b f s).pair = s.pair := rfl
@[simp] theorem modHdr_refs (b : Nat) (f : Hdr → Hdr) : (modHdr b f s).refs = s.refs := rfl
@[simp] theorem modHdr_tic (b : Nat) (f : Hdr → Hdr) : (modHdr b f s).tic = s.tic := rfl
@[simp] theorem modHdr_shaft (b : Nat) (f : Hdr → Hdr) : (modHdr b f s).shaft = s.shaft := rfl
@[simp] theorem modHdr_core (b : Nat) (f : Hdr → Hdr) : (modHdr b f s).core = s.core := rfl
@[simp] theorem modHdr_buf (b : Nat) (f : Hdr → Hdr) : (modHdr b f s).buf = s.buf := rfl
@[simp] theorem modHdr_sched (b : Nat) (f : Hdr → Hdr) : (modHdr b f s).sched = s.sched := rfl
@[simp] theorem modHdr_trace (b : Nat) (f : Hdr → Hdr) : (modHdr b f s).trace = s.trace := rfl
@[simp] theorem modHdr_hlth (b : Nat) (f : Hdr → Hdr) : (modHdr b f s).hlth = s.hlth := rfl
@[simp] theorem modHdr_storeTrained (b : Nat) (f : Hdr → Hdr) : (modHdr b f s).storeTrained = s.storeTrained := rfl
@[simp] theorem modHdr_storeSize (b : Nat) (f : Hdr → Hdr) : (modHdr b f s).storeSize = s.storeSize := rfl
@[simp] theorem modHdr_storeRetrains (b : Nat) (f : Hdr → Hdr) : (modHdr b f s).storeRetrains = s.storeRetrains := rfl
@[simp] theorem modHdr_eccCorr (b : Nat) (f : Hdr → Hdr) : (modHdr b f s).eccCorr = s.eccCorr := rfl

/-! setLane -/

@[simp] theorem setLane_lanes (l : Nat) (v : Lane) : (setLane l v s).lanes = s.lanes.set l v := rfl
@[simp] theorem setLane_pending (l : Nat) (v : Lane) : (setLane l v s).pending = s.pending := rfl
@[simp] theorem setLane_outbox (l : Nat) (v : Lane) : (setLane l v s).outbox = s.outbox := rfl
@[simp] theorem setLane_free (l : Nat) (v : Lane) : (setLane l v s).free = s.free := rfl
@[simp] theorem setLane_ticks (l : Nat) (v : Lane) : (setLane l v s).ticks = s.ticks := rfl
@[simp] theorem setLane_c5 (l : Nat) (v : Lane) : (setLane l v s).c5 = s.c5 := rfl
@[simp] theorem setLane_cycle (l : Nat) (v : Lane) : (setLane l v s).cycle = s.cycle := rfl
@[simp] theorem setLane_boot (l : Nat) (v : Lane) : (setLane l v s).boot = s.boot := rfl
@[simp] theorem setLane_aon (l : Nat) (v : Lane) : (setLane l v s).aon = s.aon := rfl
@[simp] theorem setLane_flash (l : Nat) (v : Lane) : (setLane l v s).flash = s.flash := rfl
@[simp] theorem setLane_keep (l : Nat) (v : Lane) : (setLane l v s).keep = s.keep := rfl
@[simp] theorem setLane_host (l : Nat) (v : Lane) : (setLane l v s).host = s.host := rfl
@[simp] theorem setLane_iso (l : Nat) (v : Lane) : (setLane l v s).iso = s.iso := rfl
@[simp] theorem setLane_snap (l : Nat) (v : Lane) : (setLane l v s).snap = s.snap := rfl
@[simp] theorem setLane_hdrs (l : Nat) (v : Lane) : (setLane l v s).hdrs = s.hdrs := rfl
@[simp] theorem setLane_told (l : Nat) (v : Lane) : (setLane l v s).told = s.told := rfl
@[simp] theorem setLane_told1 (l : Nat) (v : Lane) : (setLane l v s).told1 = s.told1 := rfl
@[simp] theorem setLane_halts (l : Nat) (v : Lane) : (setLane l v s).halts = s.halts := rfl
@[simp] theorem setLane_params (l : Nat) (v : Lane) : (setLane l v s).params = s.params := rfl
@[simp] theorem setLane_staged (l : Nat) (v : Lane) : (setLane l v s).staged = s.staged := rfl
@[simp] theorem setLane_quads (l : Nat) (v : Lane) : (setLane l v s).quads = s.quads := rfl
@[simp] theorem setLane_trunks (l : Nat) (v : Lane) : (setLane l v s).trunks = s.trunks := rfl
@[simp] theorem setLane_edges (l : Nat) (v : Lane) : (setLane l v s).edges = s.edges := rfl
@[simp] theorem setLane_clk (l : Nat) (v : Lane) : (setLane l v s).clk = s.clk := rfl
@[simp] theorem setLane_guh (l : Nat) (v : Lane) : (setLane l v s).guh = s.guh := rfl
@[simp] theorem setLane_pair (l : Nat) (v : Lane) : (setLane l v s).pair = s.pair := rfl
@[simp] theorem setLane_refs (l : Nat) (v : Lane) : (setLane l v s).refs = s.refs := rfl
@[simp] theorem setLane_tic (l : Nat) (v : Lane) : (setLane l v s).tic = s.tic := rfl
@[simp] theorem setLane_shaft (l : Nat) (v : Lane) : (setLane l v s).shaft = s.shaft := rfl
@[simp] theorem setLane_core (l : Nat) (v : Lane) : (setLane l v s).core = s.core := rfl
@[simp] theorem setLane_buf (l : Nat) (v : Lane) : (setLane l v s).buf = s.buf := rfl
@[simp] theorem setLane_sched (l : Nat) (v : Lane) : (setLane l v s).sched = s.sched := rfl
@[simp] theorem setLane_trace (l : Nat) (v : Lane) : (setLane l v s).trace = s.trace := rfl
@[simp] theorem setLane_hlth (l : Nat) (v : Lane) : (setLane l v s).hlth = s.hlth := rfl
@[simp] theorem setLane_storeTrained (l : Nat) (v : Lane) : (setLane l v s).storeTrained = s.storeTrained := rfl
@[simp] theorem setLane_storeSize (l : Nat) (v : Lane) : (setLane l v s).storeSize = s.storeSize := rfl
@[simp] theorem setLane_storeRetrains (l : Nat) (v : Lane) : (setLane l v s).storeRetrains = s.storeRetrains := rfl
@[simp] theorem setLane_eccCorr (l : Nat) (v : Lane) : (setLane l v s).eccCorr = s.eccCorr := rfl

/-! modLane -/

@[simp] theorem modLane_lanes (l : Nat) (f : Lane → Lane) : (modLane l f s).lanes = s.lanes.set l (f (lane s l)) := rfl
@[simp] theorem modLane_pending (l : Nat) (f : Lane → Lane) : (modLane l f s).pending = s.pending := rfl
@[simp] theorem modLane_outbox (l : Nat) (f : Lane → Lane) : (modLane l f s).outbox = s.outbox := rfl
@[simp] theorem modLane_free (l : Nat) (f : Lane → Lane) : (modLane l f s).free = s.free := rfl
@[simp] theorem modLane_ticks (l : Nat) (f : Lane → Lane) : (modLane l f s).ticks = s.ticks := rfl
@[simp] theorem modLane_c5 (l : Nat) (f : Lane → Lane) : (modLane l f s).c5 = s.c5 := rfl
@[simp] theorem modLane_cycle (l : Nat) (f : Lane → Lane) : (modLane l f s).cycle = s.cycle := rfl
@[simp] theorem modLane_boot (l : Nat) (f : Lane → Lane) : (modLane l f s).boot = s.boot := rfl
@[simp] theorem modLane_aon (l : Nat) (f : Lane → Lane) : (modLane l f s).aon = s.aon := rfl
@[simp] theorem modLane_flash (l : Nat) (f : Lane → Lane) : (modLane l f s).flash = s.flash := rfl
@[simp] theorem modLane_keep (l : Nat) (f : Lane → Lane) : (modLane l f s).keep = s.keep := rfl
@[simp] theorem modLane_host (l : Nat) (f : Lane → Lane) : (modLane l f s).host = s.host := rfl
@[simp] theorem modLane_iso (l : Nat) (f : Lane → Lane) : (modLane l f s).iso = s.iso := rfl
@[simp] theorem modLane_snap (l : Nat) (f : Lane → Lane) : (modLane l f s).snap = s.snap := rfl
@[simp] theorem modLane_hdrs (l : Nat) (f : Lane → Lane) : (modLane l f s).hdrs = s.hdrs := rfl
@[simp] theorem modLane_told (l : Nat) (f : Lane → Lane) : (modLane l f s).told = s.told := rfl
@[simp] theorem modLane_told1 (l : Nat) (f : Lane → Lane) : (modLane l f s).told1 = s.told1 := rfl
@[simp] theorem modLane_halts (l : Nat) (f : Lane → Lane) : (modLane l f s).halts = s.halts := rfl
@[simp] theorem modLane_params (l : Nat) (f : Lane → Lane) : (modLane l f s).params = s.params := rfl
@[simp] theorem modLane_staged (l : Nat) (f : Lane → Lane) : (modLane l f s).staged = s.staged := rfl
@[simp] theorem modLane_quads (l : Nat) (f : Lane → Lane) : (modLane l f s).quads = s.quads := rfl
@[simp] theorem modLane_trunks (l : Nat) (f : Lane → Lane) : (modLane l f s).trunks = s.trunks := rfl
@[simp] theorem modLane_edges (l : Nat) (f : Lane → Lane) : (modLane l f s).edges = s.edges := rfl
@[simp] theorem modLane_clk (l : Nat) (f : Lane → Lane) : (modLane l f s).clk = s.clk := rfl
@[simp] theorem modLane_guh (l : Nat) (f : Lane → Lane) : (modLane l f s).guh = s.guh := rfl
@[simp] theorem modLane_pair (l : Nat) (f : Lane → Lane) : (modLane l f s).pair = s.pair := rfl
@[simp] theorem modLane_refs (l : Nat) (f : Lane → Lane) : (modLane l f s).refs = s.refs := rfl
@[simp] theorem modLane_tic (l : Nat) (f : Lane → Lane) : (modLane l f s).tic = s.tic := rfl
@[simp] theorem modLane_shaft (l : Nat) (f : Lane → Lane) : (modLane l f s).shaft = s.shaft := rfl
@[simp] theorem modLane_core (l : Nat) (f : Lane → Lane) : (modLane l f s).core = s.core := rfl
@[simp] theorem modLane_buf (l : Nat) (f : Lane → Lane) : (modLane l f s).buf = s.buf := rfl
@[simp] theorem modLane_sched (l : Nat) (f : Lane → Lane) : (modLane l f s).sched = s.sched := rfl
@[simp] theorem modLane_trace (l : Nat) (f : Lane → Lane) : (modLane l f s).trace = s.trace := rfl
@[simp] theorem modLane_hlth (l : Nat) (f : Lane → Lane) : (modLane l f s).hlth = s.hlth := rfl
@[simp] theorem modLane_storeTrained (l : Nat) (f : Lane → Lane) : (modLane l f s).storeTrained = s.storeTrained := rfl
@[simp] theorem modLane_storeSize (l : Nat) (f : Lane → Lane) : (modLane l f s).storeSize = s.storeSize := rfl
@[simp] theorem modLane_storeRetrains (l : Nat) (f : Lane → Lane) : (modLane l f s).storeRetrains = s.storeRetrains := rfl
@[simp] theorem modLane_eccCorr (l : Nat) (f : Lane → Lane) : (modLane l f s).eccCorr = s.eccCorr := rfl

/-! setQuad -/

@[simp] theorem setQuad_quads (q : Nat) (v : Quad) : (setQuad q v s).quads = s.quads.set q v := rfl
@[simp] theorem setQuad_pending (q : Nat) (v : Quad) : (setQuad q v s).pending = s.pending := rfl
@[simp] theorem setQuad_outbox (q : Nat) (v : Quad) : (setQuad q v s).outbox = s.outbox := rfl
@[simp] theorem setQuad_free (q : Nat) (v : Quad) : (setQuad q v s).free = s.free := rfl
@[simp] theorem setQuad_ticks (q : Nat) (v : Quad) : (setQuad q v s).ticks = s.ticks := rfl
@[simp] theorem setQuad_c5 (q : Nat) (v : Quad) : (setQuad q v s).c5 = s.c5 := rfl
@[simp] theorem setQuad_cycle (q : Nat) (v : Quad) : (setQuad q v s).cycle = s.cycle := rfl
@[simp] theorem setQuad_boot (q : Nat) (v : Quad) : (setQuad q v s).boot = s.boot := rfl
@[simp] theorem setQuad_aon (q : Nat) (v : Quad) : (setQuad q v s).aon = s.aon := rfl
@[simp] theorem setQuad_flash (q : Nat) (v : Quad) : (setQuad q v s).flash = s.flash := rfl
@[simp] theorem setQuad_keep (q : Nat) (v : Quad) : (setQuad q v s).keep = s.keep := rfl
@[simp] theorem setQuad_host (q : Nat) (v : Quad) : (setQuad q v s).host = s.host := rfl
@[simp] theorem setQuad_iso (q : Nat) (v : Quad) : (setQuad q v s).iso = s.iso := rfl
@[simp] theorem setQuad_snap (q : Nat) (v : Quad) : (setQuad q v s).snap = s.snap := rfl
@[simp] theorem setQuad_hdrs (q : Nat) (v : Quad) : (setQuad q v s).hdrs = s.hdrs := rfl
@[simp] theorem setQuad_told (q : Nat) (v : Quad) : (setQuad q v s).told = s.told := rfl
@[simp] theorem setQuad_told1 (q : Nat) (v : Quad) : (setQuad q v s).told1 = s.told1 := rfl
@[simp] theorem setQuad_halts (q : Nat) (v : Quad) : (setQuad q v s).halts = s.halts := rfl
@[simp] theorem setQuad_params (q : Nat) (v : Quad) : (setQuad q v s).params = s.params := rfl
@[simp] theorem setQuad_staged (q : Nat) (v : Quad) : (setQuad q v s).staged = s.staged := rfl
@[simp] theorem setQuad_lanes (q : Nat) (v : Quad) : (setQuad q v s).lanes = s.lanes := rfl
@[simp] theorem setQuad_trunks (q : Nat) (v : Quad) : (setQuad q v s).trunks = s.trunks := rfl
@[simp] theorem setQuad_edges (q : Nat) (v : Quad) : (setQuad q v s).edges = s.edges := rfl
@[simp] theorem setQuad_clk (q : Nat) (v : Quad) : (setQuad q v s).clk = s.clk := rfl
@[simp] theorem setQuad_guh (q : Nat) (v : Quad) : (setQuad q v s).guh = s.guh := rfl
@[simp] theorem setQuad_pair (q : Nat) (v : Quad) : (setQuad q v s).pair = s.pair := rfl
@[simp] theorem setQuad_refs (q : Nat) (v : Quad) : (setQuad q v s).refs = s.refs := rfl
@[simp] theorem setQuad_tic (q : Nat) (v : Quad) : (setQuad q v s).tic = s.tic := rfl
@[simp] theorem setQuad_shaft (q : Nat) (v : Quad) : (setQuad q v s).shaft = s.shaft := rfl
@[simp] theorem setQuad_core (q : Nat) (v : Quad) : (setQuad q v s).core = s.core := rfl
@[simp] theorem setQuad_buf (q : Nat) (v : Quad) : (setQuad q v s).buf = s.buf := rfl
@[simp] theorem setQuad_sched (q : Nat) (v : Quad) : (setQuad q v s).sched = s.sched := rfl
@[simp] theorem setQuad_trace (q : Nat) (v : Quad) : (setQuad q v s).trace = s.trace := rfl
@[simp] theorem setQuad_hlth (q : Nat) (v : Quad) : (setQuad q v s).hlth = s.hlth := rfl
@[simp] theorem setQuad_storeTrained (q : Nat) (v : Quad) : (setQuad q v s).storeTrained = s.storeTrained := rfl
@[simp] theorem setQuad_storeSize (q : Nat) (v : Quad) : (setQuad q v s).storeSize = s.storeSize := rfl
@[simp] theorem setQuad_storeRetrains (q : Nat) (v : Quad) : (setQuad q v s).storeRetrains = s.storeRetrains := rfl
@[simp] theorem setQuad_eccCorr (q : Nat) (v : Quad) : (setQuad q v s).eccCorr = s.eccCorr := rfl

/-! modQuad -/

@[simp] theorem modQuad_quads (q : Nat) (f : Quad → Quad) : (modQuad q f s).quads = s.quads.set q (f (quad s q)) := rfl
@[simp] theorem modQuad_pending (q : Nat) (f : Quad → Quad) : (modQuad q f s).pending = s.pending := rfl
@[simp] theorem modQuad_outbox (q : Nat) (f : Quad → Quad) : (modQuad q f s).outbox = s.outbox := rfl
@[simp] theorem modQuad_free (q : Nat) (f : Quad → Quad) : (modQuad q f s).free = s.free := rfl
@[simp] theorem modQuad_ticks (q : Nat) (f : Quad → Quad) : (modQuad q f s).ticks = s.ticks := rfl
@[simp] theorem modQuad_c5 (q : Nat) (f : Quad → Quad) : (modQuad q f s).c5 = s.c5 := rfl
@[simp] theorem modQuad_cycle (q : Nat) (f : Quad → Quad) : (modQuad q f s).cycle = s.cycle := rfl
@[simp] theorem modQuad_boot (q : Nat) (f : Quad → Quad) : (modQuad q f s).boot = s.boot := rfl
@[simp] theorem modQuad_aon (q : Nat) (f : Quad → Quad) : (modQuad q f s).aon = s.aon := rfl
@[simp] theorem modQuad_flash (q : Nat) (f : Quad → Quad) : (modQuad q f s).flash = s.flash := rfl
@[simp] theorem modQuad_keep (q : Nat) (f : Quad → Quad) : (modQuad q f s).keep = s.keep := rfl
@[simp] theorem modQuad_host (q : Nat) (f : Quad → Quad) : (modQuad q f s).host = s.host := rfl
@[simp] theorem modQuad_iso (q : Nat) (f : Quad → Quad) : (modQuad q f s).iso = s.iso := rfl
@[simp] theorem modQuad_snap (q : Nat) (f : Quad → Quad) : (modQuad q f s).snap = s.snap := rfl
@[simp] theorem modQuad_hdrs (q : Nat) (f : Quad → Quad) : (modQuad q f s).hdrs = s.hdrs := rfl
@[simp] theorem modQuad_told (q : Nat) (f : Quad → Quad) : (modQuad q f s).told = s.told := rfl
@[simp] theorem modQuad_told1 (q : Nat) (f : Quad → Quad) : (modQuad q f s).told1 = s.told1 := rfl
@[simp] theorem modQuad_halts (q : Nat) (f : Quad → Quad) : (modQuad q f s).halts = s.halts := rfl
@[simp] theorem modQuad_params (q : Nat) (f : Quad → Quad) : (modQuad q f s).params = s.params := rfl
@[simp] theorem modQuad_staged (q : Nat) (f : Quad → Quad) : (modQuad q f s).staged = s.staged := rfl
@[simp] theorem modQuad_lanes (q : Nat) (f : Quad → Quad) : (modQuad q f s).lanes = s.lanes := rfl
@[simp] theorem modQuad_trunks (q : Nat) (f : Quad → Quad) : (modQuad q f s).trunks = s.trunks := rfl
@[simp] theorem modQuad_edges (q : Nat) (f : Quad → Quad) : (modQuad q f s).edges = s.edges := rfl
@[simp] theorem modQuad_clk (q : Nat) (f : Quad → Quad) : (modQuad q f s).clk = s.clk := rfl
@[simp] theorem modQuad_guh (q : Nat) (f : Quad → Quad) : (modQuad q f s).guh = s.guh := rfl
@[simp] theorem modQuad_pair (q : Nat) (f : Quad → Quad) : (modQuad q f s).pair = s.pair := rfl
@[simp] theorem modQuad_refs (q : Nat) (f : Quad → Quad) : (modQuad q f s).refs = s.refs := rfl
@[simp] theorem modQuad_tic (q : Nat) (f : Quad → Quad) : (modQuad q f s).tic = s.tic := rfl
@[simp] theorem modQuad_shaft (q : Nat) (f : Quad → Quad) : (modQuad q f s).shaft = s.shaft := rfl
@[simp] theorem modQuad_core (q : Nat) (f : Quad → Quad) : (modQuad q f s).core = s.core := rfl
@[simp] theorem modQuad_buf (q : Nat) (f : Quad → Quad) : (modQuad q f s).buf = s.buf := rfl
@[simp] theorem modQuad_sched (q : Nat) (f : Quad → Quad) : (modQuad q f s).sched = s.sched := rfl
@[simp] theorem modQuad_trace (q : Nat) (f : Quad → Quad) : (modQuad q f s).trace = s.trace := rfl
@[simp] theorem modQuad_hlth (q : Nat) (f : Quad → Quad) : (modQuad q f s).hlth = s.hlth := rfl
@[simp] theorem modQuad_storeTrained (q : Nat) (f : Quad → Quad) : (modQuad q f s).storeTrained = s.storeTrained := rfl
@[simp] theorem modQuad_storeSize (q : Nat) (f : Quad → Quad) : (modQuad q f s).storeSize = s.storeSize := rfl
@[simp] theorem modQuad_storeRetrains (q : Nat) (f : Quad → Quad) : (modQuad q f s).storeRetrains = s.storeRetrains := rfl
@[simp] theorem modQuad_eccCorr (q : Nat) (f : Quad → Quad) : (modQuad q f s).eccCorr = s.eccCorr := rfl

/-! setTrunk -/

@[simp] theorem setTrunk_trunks (p : Nat) (v : Trunk) : (setTrunk p v s).trunks = s.trunks.set p v := rfl
@[simp] theorem setTrunk_pending (p : Nat) (v : Trunk) : (setTrunk p v s).pending = s.pending := rfl
@[simp] theorem setTrunk_outbox (p : Nat) (v : Trunk) : (setTrunk p v s).outbox = s.outbox := rfl
@[simp] theorem setTrunk_free (p : Nat) (v : Trunk) : (setTrunk p v s).free = s.free := rfl
@[simp] theorem setTrunk_ticks (p : Nat) (v : Trunk) : (setTrunk p v s).ticks = s.ticks := rfl
@[simp] theorem setTrunk_c5 (p : Nat) (v : Trunk) : (setTrunk p v s).c5 = s.c5 := rfl
@[simp] theorem setTrunk_cycle (p : Nat) (v : Trunk) : (setTrunk p v s).cycle = s.cycle := rfl
@[simp] theorem setTrunk_boot (p : Nat) (v : Trunk) : (setTrunk p v s).boot = s.boot := rfl
@[simp] theorem setTrunk_aon (p : Nat) (v : Trunk) : (setTrunk p v s).aon = s.aon := rfl
@[simp] theorem setTrunk_flash (p : Nat) (v : Trunk) : (setTrunk p v s).flash = s.flash := rfl
@[simp] theorem setTrunk_keep (p : Nat) (v : Trunk) : (setTrunk p v s).keep = s.keep := rfl
@[simp] theorem setTrunk_host (p : Nat) (v : Trunk) : (setTrunk p v s).host = s.host := rfl
@[simp] theorem setTrunk_iso (p : Nat) (v : Trunk) : (setTrunk p v s).iso = s.iso := rfl
@[simp] theorem setTrunk_snap (p : Nat) (v : Trunk) : (setTrunk p v s).snap = s.snap := rfl
@[simp] theorem setTrunk_hdrs (p : Nat) (v : Trunk) : (setTrunk p v s).hdrs = s.hdrs := rfl
@[simp] theorem setTrunk_told (p : Nat) (v : Trunk) : (setTrunk p v s).told = s.told := rfl
@[simp] theorem setTrunk_told1 (p : Nat) (v : Trunk) : (setTrunk p v s).told1 = s.told1 := rfl
@[simp] theorem setTrunk_halts (p : Nat) (v : Trunk) : (setTrunk p v s).halts = s.halts := rfl
@[simp] theorem setTrunk_params (p : Nat) (v : Trunk) : (setTrunk p v s).params = s.params := rfl
@[simp] theorem setTrunk_staged (p : Nat) (v : Trunk) : (setTrunk p v s).staged = s.staged := rfl
@[simp] theorem setTrunk_quads (p : Nat) (v : Trunk) : (setTrunk p v s).quads = s.quads := rfl
@[simp] theorem setTrunk_lanes (p : Nat) (v : Trunk) : (setTrunk p v s).lanes = s.lanes := rfl
@[simp] theorem setTrunk_edges (p : Nat) (v : Trunk) : (setTrunk p v s).edges = s.edges := rfl
@[simp] theorem setTrunk_clk (p : Nat) (v : Trunk) : (setTrunk p v s).clk = s.clk := rfl
@[simp] theorem setTrunk_guh (p : Nat) (v : Trunk) : (setTrunk p v s).guh = s.guh := rfl
@[simp] theorem setTrunk_pair (p : Nat) (v : Trunk) : (setTrunk p v s).pair = s.pair := rfl
@[simp] theorem setTrunk_refs (p : Nat) (v : Trunk) : (setTrunk p v s).refs = s.refs := rfl
@[simp] theorem setTrunk_tic (p : Nat) (v : Trunk) : (setTrunk p v s).tic = s.tic := rfl
@[simp] theorem setTrunk_shaft (p : Nat) (v : Trunk) : (setTrunk p v s).shaft = s.shaft := rfl
@[simp] theorem setTrunk_core (p : Nat) (v : Trunk) : (setTrunk p v s).core = s.core := rfl
@[simp] theorem setTrunk_buf (p : Nat) (v : Trunk) : (setTrunk p v s).buf = s.buf := rfl
@[simp] theorem setTrunk_sched (p : Nat) (v : Trunk) : (setTrunk p v s).sched = s.sched := rfl
@[simp] theorem setTrunk_trace (p : Nat) (v : Trunk) : (setTrunk p v s).trace = s.trace := rfl
@[simp] theorem setTrunk_hlth (p : Nat) (v : Trunk) : (setTrunk p v s).hlth = s.hlth := rfl
@[simp] theorem setTrunk_storeTrained (p : Nat) (v : Trunk) : (setTrunk p v s).storeTrained = s.storeTrained := rfl
@[simp] theorem setTrunk_storeSize (p : Nat) (v : Trunk) : (setTrunk p v s).storeSize = s.storeSize := rfl
@[simp] theorem setTrunk_storeRetrains (p : Nat) (v : Trunk) : (setTrunk p v s).storeRetrains = s.storeRetrains := rfl
@[simp] theorem setTrunk_eccCorr (p : Nat) (v : Trunk) : (setTrunk p v s).eccCorr = s.eccCorr := rfl

/-! modTrunk -/

@[simp] theorem modTrunk_trunks (p : Nat) (f : Trunk → Trunk) : (modTrunk p f s).trunks = s.trunks.set p (f (trunk s p)) := rfl
@[simp] theorem modTrunk_pending (p : Nat) (f : Trunk → Trunk) : (modTrunk p f s).pending = s.pending := rfl
@[simp] theorem modTrunk_outbox (p : Nat) (f : Trunk → Trunk) : (modTrunk p f s).outbox = s.outbox := rfl
@[simp] theorem modTrunk_free (p : Nat) (f : Trunk → Trunk) : (modTrunk p f s).free = s.free := rfl
@[simp] theorem modTrunk_ticks (p : Nat) (f : Trunk → Trunk) : (modTrunk p f s).ticks = s.ticks := rfl
@[simp] theorem modTrunk_c5 (p : Nat) (f : Trunk → Trunk) : (modTrunk p f s).c5 = s.c5 := rfl
@[simp] theorem modTrunk_cycle (p : Nat) (f : Trunk → Trunk) : (modTrunk p f s).cycle = s.cycle := rfl
@[simp] theorem modTrunk_boot (p : Nat) (f : Trunk → Trunk) : (modTrunk p f s).boot = s.boot := rfl
@[simp] theorem modTrunk_aon (p : Nat) (f : Trunk → Trunk) : (modTrunk p f s).aon = s.aon := rfl
@[simp] theorem modTrunk_flash (p : Nat) (f : Trunk → Trunk) : (modTrunk p f s).flash = s.flash := rfl
@[simp] theorem modTrunk_keep (p : Nat) (f : Trunk → Trunk) : (modTrunk p f s).keep = s.keep := rfl
@[simp] theorem modTrunk_host (p : Nat) (f : Trunk → Trunk) : (modTrunk p f s).host = s.host := rfl
@[simp] theorem modTrunk_iso (p : Nat) (f : Trunk → Trunk) : (modTrunk p f s).iso = s.iso := rfl
@[simp] theorem modTrunk_snap (p : Nat) (f : Trunk → Trunk) : (modTrunk p f s).snap = s.snap := rfl
@[simp] theorem modTrunk_hdrs (p : Nat) (f : Trunk → Trunk) : (modTrunk p f s).hdrs = s.hdrs := rfl
@[simp] theorem modTrunk_told (p : Nat) (f : Trunk → Trunk) : (modTrunk p f s).told = s.told := rfl
@[simp] theorem modTrunk_told1 (p : Nat) (f : Trunk → Trunk) : (modTrunk p f s).told1 = s.told1 := rfl
@[simp] theorem modTrunk_halts (p : Nat) (f : Trunk → Trunk) : (modTrunk p f s).halts = s.halts := rfl
@[simp] theorem modTrunk_params (p : Nat) (f : Trunk → Trunk) : (modTrunk p f s).params = s.params := rfl
@[simp] theorem modTrunk_staged (p : Nat) (f : Trunk → Trunk) : (modTrunk p f s).staged = s.staged := rfl
@[simp] theorem modTrunk_quads (p : Nat) (f : Trunk → Trunk) : (modTrunk p f s).quads = s.quads := rfl
@[simp] theorem modTrunk_lanes (p : Nat) (f : Trunk → Trunk) : (modTrunk p f s).lanes = s.lanes := rfl
@[simp] theorem modTrunk_edges (p : Nat) (f : Trunk → Trunk) : (modTrunk p f s).edges = s.edges := rfl
@[simp] theorem modTrunk_clk (p : Nat) (f : Trunk → Trunk) : (modTrunk p f s).clk = s.clk := rfl
@[simp] theorem modTrunk_guh (p : Nat) (f : Trunk → Trunk) : (modTrunk p f s).guh = s.guh := rfl
@[simp] theorem modTrunk_pair (p : Nat) (f : Trunk → Trunk) : (modTrunk p f s).pair = s.pair := rfl
@[simp] theorem modTrunk_refs (p : Nat) (f : Trunk → Trunk) : (modTrunk p f s).refs = s.refs := rfl
@[simp] theorem modTrunk_tic (p : Nat) (f : Trunk → Trunk) : (modTrunk p f s).tic = s.tic := rfl
@[simp] theorem modTrunk_shaft (p : Nat) (f : Trunk → Trunk) : (modTrunk p f s).shaft = s.shaft := rfl
@[simp] theorem modTrunk_core (p : Nat) (f : Trunk → Trunk) : (modTrunk p f s).core = s.core := rfl
@[simp] theorem modTrunk_buf (p : Nat) (f : Trunk → Trunk) : (modTrunk p f s).buf = s.buf := rfl
@[simp] theorem modTrunk_sched (p : Nat) (f : Trunk → Trunk) : (modTrunk p f s).sched = s.sched := rfl
@[simp] theorem modTrunk_trace (p : Nat) (f : Trunk → Trunk) : (modTrunk p f s).trace = s.trace := rfl
@[simp] theorem modTrunk_hlth (p : Nat) (f : Trunk → Trunk) : (modTrunk p f s).hlth = s.hlth := rfl
@[simp] theorem modTrunk_storeTrained (p : Nat) (f : Trunk → Trunk) : (modTrunk p f s).storeTrained = s.storeTrained := rfl
@[simp] theorem modTrunk_storeSize (p : Nat) (f : Trunk → Trunk) : (modTrunk p f s).storeSize = s.storeSize := rfl
@[simp] theorem modTrunk_storeRetrains (p : Nat) (f : Trunk → Trunk) : (modTrunk p f s).storeRetrains = s.storeRetrains := rfl
@[simp] theorem modTrunk_eccCorr (p : Nat) (f : Trunk → Trunk) : (modTrunk p f s).eccCorr = s.eccCorr := rfl

/-! setPar -/

@[simp] theorem setPar_params (b i n : Nat) (v : Int) : (setPar b i n v s).params = s.params.set (pid b i n) v := rfl
@[simp] theorem setPar_pending (b i n : Nat) (v : Int) : (setPar b i n v s).pending = s.pending := rfl
@[simp] theorem setPar_outbox (b i n : Nat) (v : Int) : (setPar b i n v s).outbox = s.outbox := rfl
@[simp] theorem setPar_free (b i n : Nat) (v : Int) : (setPar b i n v s).free = s.free := rfl
@[simp] theorem setPar_ticks (b i n : Nat) (v : Int) : (setPar b i n v s).ticks = s.ticks := rfl
@[simp] theorem setPar_c5 (b i n : Nat) (v : Int) : (setPar b i n v s).c5 = s.c5 := rfl
@[simp] theorem setPar_cycle (b i n : Nat) (v : Int) : (setPar b i n v s).cycle = s.cycle := rfl
@[simp] theorem setPar_boot (b i n : Nat) (v : Int) : (setPar b i n v s).boot = s.boot := rfl
@[simp] theorem setPar_aon (b i n : Nat) (v : Int) : (setPar b i n v s).aon = s.aon := rfl
@[simp] theorem setPar_flash (b i n : Nat) (v : Int) : (setPar b i n v s).flash = s.flash := rfl
@[simp] theorem setPar_keep (b i n : Nat) (v : Int) : (setPar b i n v s).keep = s.keep := rfl
@[simp] theorem setPar_host (b i n : Nat) (v : Int) : (setPar b i n v s).host = s.host := rfl
@[simp] theorem setPar_iso (b i n : Nat) (v : Int) : (setPar b i n v s).iso = s.iso := rfl
@[simp] theorem setPar_snap (b i n : Nat) (v : Int) : (setPar b i n v s).snap = s.snap := rfl
@[simp] theorem setPar_hdrs (b i n : Nat) (v : Int) : (setPar b i n v s).hdrs = s.hdrs := rfl
@[simp] theorem setPar_told (b i n : Nat) (v : Int) : (setPar b i n v s).told = s.told := rfl
@[simp] theorem setPar_told1 (b i n : Nat) (v : Int) : (setPar b i n v s).told1 = s.told1 := rfl
@[simp] theorem setPar_halts (b i n : Nat) (v : Int) : (setPar b i n v s).halts = s.halts := rfl
@[simp] theorem setPar_staged (b i n : Nat) (v : Int) : (setPar b i n v s).staged = s.staged := rfl
@[simp] theorem setPar_quads (b i n : Nat) (v : Int) : (setPar b i n v s).quads = s.quads := rfl
@[simp] theorem setPar_lanes (b i n : Nat) (v : Int) : (setPar b i n v s).lanes = s.lanes := rfl
@[simp] theorem setPar_trunks (b i n : Nat) (v : Int) : (setPar b i n v s).trunks = s.trunks := rfl
@[simp] theorem setPar_edges (b i n : Nat) (v : Int) : (setPar b i n v s).edges = s.edges := rfl
@[simp] theorem setPar_clk (b i n : Nat) (v : Int) : (setPar b i n v s).clk = s.clk := rfl
@[simp] theorem setPar_guh (b i n : Nat) (v : Int) : (setPar b i n v s).guh = s.guh := rfl
@[simp] theorem setPar_pair (b i n : Nat) (v : Int) : (setPar b i n v s).pair = s.pair := rfl
@[simp] theorem setPar_refs (b i n : Nat) (v : Int) : (setPar b i n v s).refs = s.refs := rfl
@[simp] theorem setPar_tic (b i n : Nat) (v : Int) : (setPar b i n v s).tic = s.tic := rfl
@[simp] theorem setPar_shaft (b i n : Nat) (v : Int) : (setPar b i n v s).shaft = s.shaft := rfl
@[simp] theorem setPar_core (b i n : Nat) (v : Int) : (setPar b i n v s).core = s.core := rfl
@[simp] theorem setPar_buf (b i n : Nat) (v : Int) : (setPar b i n v s).buf = s.buf := rfl
@[simp] theorem setPar_sched (b i n : Nat) (v : Int) : (setPar b i n v s).sched = s.sched := rfl
@[simp] theorem setPar_trace (b i n : Nat) (v : Int) : (setPar b i n v s).trace = s.trace := rfl
@[simp] theorem setPar_hlth (b i n : Nat) (v : Int) : (setPar b i n v s).hlth = s.hlth := rfl
@[simp] theorem setPar_storeTrained (b i n : Nat) (v : Int) : (setPar b i n v s).storeTrained = s.storeTrained := rfl
@[simp] theorem setPar_storeSize (b i n : Nat) (v : Int) : (setPar b i n v s).storeSize = s.storeSize := rfl
@[simp] theorem setPar_storeRetrains (b i n : Nat) (v : Int) : (setPar b i n v s).storeRetrains = s.storeRetrains := rfl
@[simp] theorem setPar_eccCorr (b i n : Nat) (v : Int) : (setPar b i n v s).eccCorr = s.eccCorr := rfl

/-! modBoot -/

@[simp] theorem modBoot_boot (f : Boot → Boot) : (modBoot f s).boot = f s.boot := rfl
@[simp] theorem modBoot_pending (f : Boot → Boot) : (modBoot f s).pending = s.pending := rfl
@[simp] theorem modBoot_outbox (f : Boot → Boot) : (modBoot f s).outbox = s.outbox := rfl
@[simp] theorem modBoot_free (f : Boot → Boot) : (modBoot f s).free = s.free := rfl
@[simp] theorem modBoot_ticks (f : Boot → Boot) : (modBoot f s).ticks = s.ticks := rfl
@[simp] theorem modBoot_c5 (f : Boot → Boot) : (modBoot f s).c5 = s.c5 := rfl
@[simp] theorem modBoot_cycle (f : Boot → Boot) : (modBoot f s).cycle = s.cycle := rfl
@[simp] theorem modBoot_aon (f : Boot → Boot) : (modBoot f s).aon = s.aon := rfl
@[simp] theorem modBoot_flash (f : Boot → Boot) : (modBoot f s).flash = s.flash := rfl
@[simp] theorem modBoot_keep (f : Boot → Boot) : (modBoot f s).keep = s.keep := rfl
@[simp] theorem modBoot_host (f : Boot → Boot) : (modBoot f s).host = s.host := rfl
@[simp] theorem modBoot_iso (f : Boot → Boot) : (modBoot f s).iso = s.iso := rfl
@[simp] theorem modBoot_snap (f : Boot → Boot) : (modBoot f s).snap = s.snap := rfl
@[simp] theorem modBoot_hdrs (f : Boot → Boot) : (modBoot f s).hdrs = s.hdrs := rfl
@[simp] theorem modBoot_told (f : Boot → Boot) : (modBoot f s).told = s.told := rfl
@[simp] theorem modBoot_told1 (f : Boot → Boot) : (modBoot f s).told1 = s.told1 := rfl
@[simp] theorem modBoot_halts (f : Boot → Boot) : (modBoot f s).halts = s.halts := rfl
@[simp] theorem modBoot_params (f : Boot → Boot) : (modBoot f s).params = s.params := rfl
@[simp] theorem modBoot_staged (f : Boot → Boot) : (modBoot f s).staged = s.staged := rfl
@[simp] theorem modBoot_quads (f : Boot → Boot) : (modBoot f s).quads = s.quads := rfl
@[simp] theorem modBoot_lanes (f : Boot → Boot) : (modBoot f s).lanes = s.lanes := rfl
@[simp] theorem modBoot_trunks (f : Boot → Boot) : (modBoot f s).trunks = s.trunks := rfl
@[simp] theorem modBoot_edges (f : Boot → Boot) : (modBoot f s).edges = s.edges := rfl
@[simp] theorem modBoot_clk (f : Boot → Boot) : (modBoot f s).clk = s.clk := rfl
@[simp] theorem modBoot_guh (f : Boot → Boot) : (modBoot f s).guh = s.guh := rfl
@[simp] theorem modBoot_pair (f : Boot → Boot) : (modBoot f s).pair = s.pair := rfl
@[simp] theorem modBoot_refs (f : Boot → Boot) : (modBoot f s).refs = s.refs := rfl
@[simp] theorem modBoot_tic (f : Boot → Boot) : (modBoot f s).tic = s.tic := rfl
@[simp] theorem modBoot_shaft (f : Boot → Boot) : (modBoot f s).shaft = s.shaft := rfl
@[simp] theorem modBoot_core (f : Boot → Boot) : (modBoot f s).core = s.core := rfl
@[simp] theorem modBoot_buf (f : Boot → Boot) : (modBoot f s).buf = s.buf := rfl
@[simp] theorem modBoot_sched (f : Boot → Boot) : (modBoot f s).sched = s.sched := rfl
@[simp] theorem modBoot_trace (f : Boot → Boot) : (modBoot f s).trace = s.trace := rfl
@[simp] theorem modBoot_hlth (f : Boot → Boot) : (modBoot f s).hlth = s.hlth := rfl
@[simp] theorem modBoot_storeTrained (f : Boot → Boot) : (modBoot f s).storeTrained = s.storeTrained := rfl
@[simp] theorem modBoot_storeSize (f : Boot → Boot) : (modBoot f s).storeSize = s.storeSize := rfl
@[simp] theorem modBoot_storeRetrains (f : Boot → Boot) : (modBoot f s).storeRetrains = s.storeRetrains := rfl
@[simp] theorem modBoot_eccCorr (f : Boot → Boot) : (modBoot f s).eccCorr = s.eccCorr := rfl

/-! modClk -/

@[simp] theorem modClk_clk (f : Clk → Clk) : (modClk f s).clk = f s.clk := rfl
@[simp] theorem modClk_pending (f : Clk → Clk) : (modClk f s).pending = s.pending := rfl
@[simp] theorem modClk_outbox (f : Clk → Clk) : (modClk f s).outbox = s.outbox := rfl
@[simp] theorem modClk_free (f : Clk → Clk) : (modClk f s).free = s.free := rfl
@[simp] theorem modClk_ticks (f : Clk → Clk) : (modClk f s).ticks = s.ticks := rfl
@[simp] theorem modClk_c5 (f : Clk → Clk) : (modClk f s).c5 = s.c5 := rfl
@[simp] theorem modClk_cycle (f : Clk → Clk) : (modClk f s).cycle = s.cycle := rfl
@[simp] theorem modClk_boot (f : Clk → Clk) : (modClk f s).boot = s.boot := rfl
@[simp] theorem modClk_aon (f : Clk → Clk) : (modClk f s).aon = s.aon := rfl
@[simp] theorem modClk_flash (f : Clk → Clk) : (modClk f s).flash = s.flash := rfl
@[simp] theorem modClk_keep (f : Clk → Clk) : (modClk f s).keep = s.keep := rfl
@[simp] theorem modClk_host (f : Clk → Clk) : (modClk f s).host = s.host := rfl
@[simp] theorem modClk_iso (f : Clk → Clk) : (modClk f s).iso = s.iso := rfl
@[simp] theorem modClk_snap (f : Clk → Clk) : (modClk f s).snap = s.snap := rfl
@[simp] theorem modClk_hdrs (f : Clk → Clk) : (modClk f s).hdrs = s.hdrs := rfl
@[simp] theorem modClk_told (f : Clk → Clk) : (modClk f s).told = s.told := rfl
@[simp] theorem modClk_told1 (f : Clk → Clk) : (modClk f s).told1 = s.told1 := rfl
@[simp] theorem modClk_halts (f : Clk → Clk) : (modClk f s).halts = s.halts := rfl
@[simp] theorem modClk_params (f : Clk → Clk) : (modClk f s).params = s.params := rfl
@[simp] theorem modClk_staged (f : Clk → Clk) : (modClk f s).staged = s.staged := rfl
@[simp] theorem modClk_quads (f : Clk → Clk) : (modClk f s).quads = s.quads := rfl
@[simp] theorem modClk_lanes (f : Clk → Clk) : (modClk f s).lanes = s.lanes := rfl
@[simp] theorem modClk_trunks (f : Clk → Clk) : (modClk f s).trunks = s.trunks := rfl
@[simp] theorem modClk_edges (f : Clk → Clk) : (modClk f s).edges = s.edges := rfl
@[simp] theorem modClk_guh (f : Clk → Clk) : (modClk f s).guh = s.guh := rfl
@[simp] theorem modClk_pair (f : Clk → Clk) : (modClk f s).pair = s.pair := rfl
@[simp] theorem modClk_refs (f : Clk → Clk) : (modClk f s).refs = s.refs := rfl
@[simp] theorem modClk_tic (f : Clk → Clk) : (modClk f s).tic = s.tic := rfl
@[simp] theorem modClk_shaft (f : Clk → Clk) : (modClk f s).shaft = s.shaft := rfl
@[simp] theorem modClk_core (f : Clk → Clk) : (modClk f s).core = s.core := rfl
@[simp] theorem modClk_buf (f : Clk → Clk) : (modClk f s).buf = s.buf := rfl
@[simp] theorem modClk_sched (f : Clk → Clk) : (modClk f s).sched = s.sched := rfl
@[simp] theorem modClk_trace (f : Clk → Clk) : (modClk f s).trace = s.trace := rfl
@[simp] theorem modClk_hlth (f : Clk → Clk) : (modClk f s).hlth = s.hlth := rfl
@[simp] theorem modClk_storeTrained (f : Clk → Clk) : (modClk f s).storeTrained = s.storeTrained := rfl
@[simp] theorem modClk_storeSize (f : Clk → Clk) : (modClk f s).storeSize = s.storeSize := rfl
@[simp] theorem modClk_storeRetrains (f : Clk → Clk) : (modClk f s).storeRetrains = s.storeRetrains := rfl
@[simp] theorem modClk_eccCorr (f : Clk → Clk) : (modClk f s).eccCorr = s.eccCorr := rfl

/-! modCore -/

@[simp] theorem modCore_core (f : Core → Core) : (modCore f s).core = f s.core := rfl
@[simp] theorem modCore_pending (f : Core → Core) : (modCore f s).pending = s.pending := rfl
@[simp] theorem modCore_outbox (f : Core → Core) : (modCore f s).outbox = s.outbox := rfl
@[simp] theorem modCore_free (f : Core → Core) : (modCore f s).free = s.free := rfl
@[simp] theorem modCore_ticks (f : Core → Core) : (modCore f s).ticks = s.ticks := rfl
@[simp] theorem modCore_c5 (f : Core → Core) : (modCore f s).c5 = s.c5 := rfl
@[simp] theorem modCore_cycle (f : Core → Core) : (modCore f s).cycle = s.cycle := rfl
@[simp] theorem modCore_boot (f : Core → Core) : (modCore f s).boot = s.boot := rfl
@[simp] theorem modCore_aon (f : Core → Core) : (modCore f s).aon = s.aon := rfl
@[simp] theorem modCore_flash (f : Core → Core) : (modCore f s).flash = s.flash := rfl
@[simp] theorem modCore_keep (f : Core → Core) : (modCore f s).keep = s.keep := rfl
@[simp] theorem modCore_host (f : Core → Core) : (modCore f s).host = s.host := rfl
@[simp] theorem modCore_iso (f : Core → Core) : (modCore f s).iso = s.iso := rfl
@[simp] theorem modCore_snap (f : Core → Core) : (modCore f s).snap = s.snap := rfl
@[simp] theorem modCore_hdrs (f : Core → Core) : (modCore f s).hdrs = s.hdrs := rfl
@[simp] theorem modCore_told (f : Core → Core) : (modCore f s).told = s.told := rfl
@[simp] theorem modCore_told1 (f : Core → Core) : (modCore f s).told1 = s.told1 := rfl
@[simp] theorem modCore_halts (f : Core → Core) : (modCore f s).halts = s.halts := rfl
@[simp] theorem modCore_params (f : Core → Core) : (modCore f s).params = s.params := rfl
@[simp] theorem modCore_staged (f : Core → Core) : (modCore f s).staged = s.staged := rfl
@[simp] theorem modCore_quads (f : Core → Core) : (modCore f s).quads = s.quads := rfl
@[simp] theorem modCore_lanes (f : Core → Core) : (modCore f s).lanes = s.lanes := rfl
@[simp] theorem modCore_trunks (f : Core → Core) : (modCore f s).trunks = s.trunks := rfl
@[simp] theorem modCore_edges (f : Core → Core) : (modCore f s).edges = s.edges := rfl
@[simp] theorem modCore_clk (f : Core → Core) : (modCore f s).clk = s.clk := rfl
@[simp] theorem modCore_guh (f : Core → Core) : (modCore f s).guh = s.guh := rfl
@[simp] theorem modCore_pair (f : Core → Core) : (modCore f s).pair = s.pair := rfl
@[simp] theorem modCore_refs (f : Core → Core) : (modCore f s).refs = s.refs := rfl
@[simp] theorem modCore_tic (f : Core → Core) : (modCore f s).tic = s.tic := rfl
@[simp] theorem modCore_shaft (f : Core → Core) : (modCore f s).shaft = s.shaft := rfl
@[simp] theorem modCore_buf (f : Core → Core) : (modCore f s).buf = s.buf := rfl
@[simp] theorem modCore_sched (f : Core → Core) : (modCore f s).sched = s.sched := rfl
@[simp] theorem modCore_trace (f : Core → Core) : (modCore f s).trace = s.trace := rfl
@[simp] theorem modCore_hlth (f : Core → Core) : (modCore f s).hlth = s.hlth := rfl
@[simp] theorem modCore_storeTrained (f : Core → Core) : (modCore f s).storeTrained = s.storeTrained := rfl
@[simp] theorem modCore_storeSize (f : Core → Core) : (modCore f s).storeSize = s.storeSize := rfl
@[simp] theorem modCore_storeRetrains (f : Core → Core) : (modCore f s).storeRetrains = s.storeRetrains := rfl
@[simp] theorem modCore_eccCorr (f : Core → Core) : (modCore f s).eccCorr = s.eccCorr := rfl

/-! modHlth -/

@[simp] theorem modHlth_hlth (f : Hlth → Hlth) : (modHlth f s).hlth = f s.hlth := rfl
@[simp] theorem modHlth_pending (f : Hlth → Hlth) : (modHlth f s).pending = s.pending := rfl
@[simp] theorem modHlth_outbox (f : Hlth → Hlth) : (modHlth f s).outbox = s.outbox := rfl
@[simp] theorem modHlth_free (f : Hlth → Hlth) : (modHlth f s).free = s.free := rfl
@[simp] theorem modHlth_ticks (f : Hlth → Hlth) : (modHlth f s).ticks = s.ticks := rfl
@[simp] theorem modHlth_c5 (f : Hlth → Hlth) : (modHlth f s).c5 = s.c5 := rfl
@[simp] theorem modHlth_cycle (f : Hlth → Hlth) : (modHlth f s).cycle = s.cycle := rfl
@[simp] theorem modHlth_boot (f : Hlth → Hlth) : (modHlth f s).boot = s.boot := rfl
@[simp] theorem modHlth_aon (f : Hlth → Hlth) : (modHlth f s).aon = s.aon := rfl
@[simp] theorem modHlth_flash (f : Hlth → Hlth) : (modHlth f s).flash = s.flash := rfl
@[simp] theorem modHlth_keep (f : Hlth → Hlth) : (modHlth f s).keep = s.keep := rfl
@[simp] theorem modHlth_host (f : Hlth → Hlth) : (modHlth f s).host = s.host := rfl
@[simp] theorem modHlth_iso (f : Hlth → Hlth) : (modHlth f s).iso = s.iso := rfl
@[simp] theorem modHlth_snap (f : Hlth → Hlth) : (modHlth f s).snap = s.snap := rfl
@[simp] theorem modHlth_hdrs (f : Hlth → Hlth) : (modHlth f s).hdrs = s.hdrs := rfl
@[simp] theorem modHlth_told (f : Hlth → Hlth) : (modHlth f s).told = s.told := rfl
@[simp] theorem modHlth_told1 (f : Hlth → Hlth) : (modHlth f s).told1 = s.told1 := rfl
@[simp] theorem modHlth_halts (f : Hlth → Hlth) : (modHlth f s).halts = s.halts := rfl
@[simp] theorem modHlth_params (f : Hlth → Hlth) : (modHlth f s).params = s.params := rfl
@[simp] theorem modHlth_staged (f : Hlth → Hlth) : (modHlth f s).staged = s.staged := rfl
@[simp] theorem modHlth_quads (f : Hlth → Hlth) : (modHlth f s).quads = s.quads := rfl
@[simp] theorem modHlth_lanes (f : Hlth → Hlth) : (modHlth f s).lanes = s.lanes := rfl
@[simp] theorem modHlth_trunks (f : Hlth → Hlth) : (modHlth f s).trunks = s.trunks := rfl
@[simp] theorem modHlth_edges (f : Hlth → Hlth) : (modHlth f s).edges = s.edges := rfl
@[simp] theorem modHlth_clk (f : Hlth → Hlth) : (modHlth f s).clk = s.clk := rfl
@[simp] theorem modHlth_guh (f : Hlth → Hlth) : (modHlth f s).guh = s.guh := rfl
@[simp] theorem modHlth_pair (f : Hlth → Hlth) : (modHlth f s).pair = s.pair := rfl
@[simp] theorem modHlth_refs (f : Hlth → Hlth) : (modHlth f s).refs = s.refs := rfl
@[simp] theorem modHlth_tic (f : Hlth → Hlth) : (modHlth f s).tic = s.tic := rfl
@[simp] theorem modHlth_shaft (f : Hlth → Hlth) : (modHlth f s).shaft = s.shaft := rfl
@[simp] theorem modHlth_core (f : Hlth → Hlth) : (modHlth f s).core = s.core := rfl
@[simp] theorem modHlth_buf (f : Hlth → Hlth) : (modHlth f s).buf = s.buf := rfl
@[simp] theorem modHlth_sched (f : Hlth → Hlth) : (modHlth f s).sched = s.sched := rfl
@[simp] theorem modHlth_trace (f : Hlth → Hlth) : (modHlth f s).trace = s.trace := rfl
@[simp] theorem modHlth_storeTrained (f : Hlth → Hlth) : (modHlth f s).storeTrained = s.storeTrained := rfl
@[simp] theorem modHlth_storeSize (f : Hlth → Hlth) : (modHlth f s).storeSize = s.storeSize := rfl
@[simp] theorem modHlth_storeRetrains (f : Hlth → Hlth) : (modHlth f s).storeRetrains = s.storeRetrains := rfl
@[simp] theorem modHlth_eccCorr (f : Hlth → Hlth) : (modHlth f s).eccCorr = s.eccCorr := rfl

/-! modHost -/

@[simp] theorem modHost_host (f : HostIf → HostIf) : (modHost f s).host = f s.host := rfl
@[simp] theorem modHost_pending (f : HostIf → HostIf) : (modHost f s).pending = s.pending := rfl
@[simp] theorem modHost_outbox (f : HostIf → HostIf) : (modHost f s).outbox = s.outbox := rfl
@[simp] theorem modHost_free (f : HostIf → HostIf) : (modHost f s).free = s.free := rfl
@[simp] theorem modHost_ticks (f : HostIf → HostIf) : (modHost f s).ticks = s.ticks := rfl
@[simp] theorem modHost_c5 (f : HostIf → HostIf) : (modHost f s).c5 = s.c5 := rfl
@[simp] theorem modHost_cycle (f : HostIf → HostIf) : (modHost f s).cycle = s.cycle := rfl
@[simp] theorem modHost_boot (f : HostIf → HostIf) : (modHost f s).boot = s.boot := rfl
@[simp] theorem modHost_aon (f : HostIf → HostIf) : (modHost f s).aon = s.aon := rfl
@[simp] theorem modHost_flash (f : HostIf → HostIf) : (modHost f s).flash = s.flash := rfl
@[simp] theorem modHost_keep (f : HostIf → HostIf) : (modHost f s).keep = s.keep := rfl
@[simp] theorem modHost_iso (f : HostIf → HostIf) : (modHost f s).iso = s.iso := rfl
@[simp] theorem modHost_snap (f : HostIf → HostIf) : (modHost f s).snap = s.snap := rfl
@[simp] theorem modHost_hdrs (f : HostIf → HostIf) : (modHost f s).hdrs = s.hdrs := rfl
@[simp] theorem modHost_told (f : HostIf → HostIf) : (modHost f s).told = s.told := rfl
@[simp] theorem modHost_told1 (f : HostIf → HostIf) : (modHost f s).told1 = s.told1 := rfl
@[simp] theorem modHost_halts (f : HostIf → HostIf) : (modHost f s).halts = s.halts := rfl
@[simp] theorem modHost_params (f : HostIf → HostIf) : (modHost f s).params = s.params := rfl
@[simp] theorem modHost_staged (f : HostIf → HostIf) : (modHost f s).staged = s.staged := rfl
@[simp] theorem modHost_quads (f : HostIf → HostIf) : (modHost f s).quads = s.quads := rfl
@[simp] theorem modHost_lanes (f : HostIf → HostIf) : (modHost f s).lanes = s.lanes := rfl
@[simp] theorem modHost_trunks (f : HostIf → HostIf) : (modHost f s).trunks = s.trunks := rfl
@[simp] theorem modHost_edges (f : HostIf → HostIf) : (modHost f s).edges = s.edges := rfl
@[simp] theorem modHost_clk (f : HostIf → HostIf) : (modHost f s).clk = s.clk := rfl
@[simp] theorem modHost_guh (f : HostIf → HostIf) : (modHost f s).guh = s.guh := rfl
@[simp] theorem modHost_pair (f : HostIf → HostIf) : (modHost f s).pair = s.pair := rfl
@[simp] theorem modHost_refs (f : HostIf → HostIf) : (modHost f s).refs = s.refs := rfl
@[simp] theorem modHost_tic (f : HostIf → HostIf) : (modHost f s).tic = s.tic := rfl
@[simp] theorem modHost_shaft (f : HostIf → HostIf) : (modHost f s).shaft = s.shaft := rfl
@[simp] theorem modHost_core (f : HostIf → HostIf) : (modHost f s).core = s.core := rfl
@[simp] theorem modHost_buf (f : HostIf → HostIf) : (modHost f s).buf = s.buf := rfl
@[simp] theorem modHost_sched (f : HostIf → HostIf) : (modHost f s).sched = s.sched := rfl
@[simp] theorem modHost_trace (f : HostIf → HostIf) : (modHost f s).trace = s.trace := rfl
@[simp] theorem modHost_hlth (f : HostIf → HostIf) : (modHost f s).hlth = s.hlth := rfl
@[simp] theorem modHost_storeTrained (f : HostIf → HostIf) : (modHost f s).storeTrained = s.storeTrained := rfl
@[simp] theorem modHost_storeSize (f : HostIf → HostIf) : (modHost f s).storeSize = s.storeSize := rfl
@[simp] theorem modHost_storeRetrains (f : HostIf → HostIf) : (modHost f s).storeRetrains = s.storeRetrains := rfl
@[simp] theorem modHost_eccCorr (f : HostIf → HostIf) : (modHost f s).eccCorr = s.eccCorr := rfl

/-! modKeep -/

@[simp] theorem modKeep_keep (f : Keep → Keep) : (modKeep f s).keep = f s.keep := rfl
@[simp] theorem modKeep_pending (f : Keep → Keep) : (modKeep f s).pending = s.pending := rfl
@[simp] theorem modKeep_outbox (f : Keep → Keep) : (modKeep f s).outbox = s.outbox := rfl
@[simp] theorem modKeep_free (f : Keep → Keep) : (modKeep f s).free = s.free := rfl
@[simp] theorem modKeep_ticks (f : Keep → Keep) : (modKeep f s).ticks = s.ticks := rfl
@[simp] theorem modKeep_c5 (f : Keep → Keep) : (modKeep f s).c5 = s.c5 := rfl
@[simp] theorem modKeep_cycle (f : Keep → Keep) : (modKeep f s).cycle = s.cycle := rfl
@[simp] theorem modKeep_boot (f : Keep → Keep) : (modKeep f s).boot = s.boot := rfl
@[simp] theorem modKeep_aon (f : Keep → Keep) : (modKeep f s).aon = s.aon := rfl
@[simp] theorem modKeep_flash (f : Keep → Keep) : (modKeep f s).flash = s.flash := rfl
@[simp] theorem modKeep_host (f : Keep → Keep) : (modKeep f s).host = s.host := rfl
@[simp] theorem modKeep_iso (f : Keep → Keep) : (modKeep f s).iso = s.iso := rfl
@[simp] theorem modKeep_snap (f : Keep → Keep) : (modKeep f s).snap = s.snap := rfl
@[simp] theorem modKeep_hdrs (f : Keep → Keep) : (modKeep f s).hdrs = s.hdrs := rfl
@[simp] theorem modKeep_told (f : Keep → Keep) : (modKeep f s).told = s.told := rfl
@[simp] theorem modKeep_told1 (f : Keep → Keep) : (modKeep f s).told1 = s.told1 := rfl
@[simp] theorem modKeep_halts (f : Keep → Keep) : (modKeep f s).halts = s.halts := rfl
@[simp] theorem modKeep_params (f : Keep → Keep) : (modKeep f s).params = s.params := rfl
@[simp] theorem modKeep_staged (f : Keep → Keep) : (modKeep f s).staged = s.staged := rfl
@[simp] theorem modKeep_quads (f : Keep → Keep) : (modKeep f s).quads = s.quads := rfl
@[simp] theorem modKeep_lanes (f : Keep → Keep) : (modKeep f s).lanes = s.lanes := rfl
@[simp] theorem modKeep_trunks (f : Keep → Keep) : (modKeep f s).trunks = s.trunks := rfl
@[simp] theorem modKeep_edges (f : Keep → Keep) : (modKeep f s).edges = s.edges := rfl
@[simp] theorem modKeep_clk (f : Keep → Keep) : (modKeep f s).clk = s.clk := rfl
@[simp] theorem modKeep_guh (f : Keep → Keep) : (modKeep f s).guh = s.guh := rfl
@[simp] theorem modKeep_pair (f : Keep → Keep) : (modKeep f s).pair = s.pair := rfl
@[simp] theorem modKeep_refs (f : Keep → Keep) : (modKeep f s).refs = s.refs := rfl
@[simp] theorem modKeep_tic (f : Keep → Keep) : (modKeep f s).tic = s.tic := rfl
@[simp] theorem modKeep_shaft (f : Keep → Keep) : (modKeep f s).shaft = s.shaft := rfl
@[simp] theorem modKeep_core (f : Keep → Keep) : (modKeep f s).core = s.core := rfl
@[simp] theorem modKeep_buf (f : Keep → Keep) : (modKeep f s).buf = s.buf := rfl
@[simp] theorem modKeep_sched (f : Keep → Keep) : (modKeep f s).sched = s.sched := rfl
@[simp] theorem modKeep_trace (f : Keep → Keep) : (modKeep f s).trace = s.trace := rfl
@[simp] theorem modKeep_hlth (f : Keep → Keep) : (modKeep f s).hlth = s.hlth := rfl
@[simp] theorem modKeep_storeTrained (f : Keep → Keep) : (modKeep f s).storeTrained = s.storeTrained := rfl
@[simp] theorem modKeep_storeSize (f : Keep → Keep) : (modKeep f s).storeSize = s.storeSize := rfl
@[simp] theorem modKeep_storeRetrains (f : Keep → Keep) : (modKeep f s).storeRetrains = s.storeRetrains := rfl
@[simp] theorem modKeep_eccCorr (f : Keep → Keep) : (modKeep f s).eccCorr = s.eccCorr := rfl

/-! modBuf -/

@[simp] theorem modBuf_buf (f : Buf → Buf) : (modBuf f s).buf = f s.buf := rfl
@[simp] theorem modBuf_pending (f : Buf → Buf) : (modBuf f s).pending = s.pending := rfl
@[simp] theorem modBuf_outbox (f : Buf → Buf) : (modBuf f s).outbox = s.outbox := rfl
@[simp] theorem modBuf_free (f : Buf → Buf) : (modBuf f s).free = s.free := rfl
@[simp] theorem modBuf_ticks (f : Buf → Buf) : (modBuf f s).ticks = s.ticks := rfl
@[simp] theorem modBuf_c5 (f : Buf → Buf) : (modBuf f s).c5 = s.c5 := rfl
@[simp] theorem modBuf_cycle (f : Buf → Buf) : (modBuf f s).cycle = s.cycle := rfl
@[simp] theorem modBuf_boot (f : Buf → Buf) : (modBuf f s).boot = s.boot := rfl
@[simp] theorem modBuf_aon (f : Buf → Buf) : (modBuf f s).aon = s.aon := rfl
@[simp] theorem modBuf_flash (f : Buf → Buf) : (modBuf f s).flash = s.flash := rfl
@[simp] theorem modBuf_keep (f : Buf → Buf) : (modBuf f s).keep = s.keep := rfl
@[simp] theorem modBuf_host (f : Buf → Buf) : (modBuf f s).host = s.host := rfl
@[simp] theorem modBuf_iso (f : Buf → Buf) : (modBuf f s).iso = s.iso := rfl
@[simp] theorem modBuf_snap (f : Buf → Buf) : (modBuf f s).snap = s.snap := rfl
@[simp] theorem modBuf_hdrs (f : Buf → Buf) : (modBuf f s).hdrs = s.hdrs := rfl
@[simp] theorem modBuf_told (f : Buf → Buf) : (modBuf f s).told = s.told := rfl
@[simp] theorem modBuf_told1 (f : Buf → Buf) : (modBuf f s).told1 = s.told1 := rfl
@[simp] theorem modBuf_halts (f : Buf → Buf) : (modBuf f s).halts = s.halts := rfl
@[simp] theorem modBuf_params (f : Buf → Buf) : (modBuf f s).params = s.params := rfl
@[simp] theorem modBuf_staged (f : Buf → Buf) : (modBuf f s).staged = s.staged := rfl
@[simp] theorem modBuf_quads (f : Buf → Buf) : (modBuf f s).quads = s.quads := rfl
@[simp] theorem modBuf_lanes (f : Buf → Buf) : (modBuf f s).lanes = s.lanes := rfl
@[simp] theorem modBuf_trunks (f : Buf → Buf) : (modBuf f s).trunks = s.trunks := rfl
@[simp] theorem modBuf_edges (f : Buf → Buf) : (modBuf f s).edges = s.edges := rfl
@[simp] theorem modBuf_clk (f : Buf → Buf) : (modBuf f s).clk = s.clk := rfl
@[simp] theorem modBuf_guh (f : Buf → Buf) : (modBuf f s).guh = s.guh := rfl
@[simp] theorem modBuf_pair (f : Buf → Buf) : (modBuf f s).pair = s.pair := rfl
@[simp] theorem modBuf_refs (f : Buf → Buf) : (modBuf f s).refs = s.refs := rfl
@[simp] theorem modBuf_tic (f : Buf → Buf) : (modBuf f s).tic = s.tic := rfl
@[simp] theorem modBuf_shaft (f : Buf → Buf) : (modBuf f s).shaft = s.shaft := rfl
@[simp] theorem modBuf_core (f : Buf → Buf) : (modBuf f s).core = s.core := rfl
@[simp] theorem modBuf_sched (f : Buf → Buf) : (modBuf f s).sched = s.sched := rfl
@[simp] theorem modBuf_trace (f : Buf → Buf) : (modBuf f s).trace = s.trace := rfl
@[simp] theorem modBuf_hlth (f : Buf → Buf) : (modBuf f s).hlth = s.hlth := rfl
@[simp] theorem modBuf_storeTrained (f : Buf → Buf) : (modBuf f s).storeTrained = s.storeTrained := rfl
@[simp] theorem modBuf_storeSize (f : Buf → Buf) : (modBuf f s).storeSize = s.storeSize := rfl
@[simp] theorem modBuf_storeRetrains (f : Buf → Buf) : (modBuf f s).storeRetrains = s.storeRetrains := rfl
@[simp] theorem modBuf_eccCorr (f : Buf → Buf) : (modBuf f s).eccCorr = s.eccCorr := rfl

/-! modTrace -/

@[simp] theorem modTrace_trace (f : Trace → Trace) : (modTrace f s).trace = f s.trace := rfl
@[simp] theorem modTrace_pending (f : Trace → Trace) : (modTrace f s).pending = s.pending := rfl
@[simp] theorem modTrace_outbox (f : Trace → Trace) : (modTrace f s).outbox = s.outbox := rfl
@[simp] theorem modTrace_free (f : Trace → Trace) : (modTrace f s).free = s.free := rfl
@[simp] theorem modTrace_ticks (f : Trace → Trace) : (modTrace f s).ticks = s.ticks := rfl
@[simp] theorem modTrace_c5 (f : Trace → Trace) : (modTrace f s).c5 = s.c5 := rfl
@[simp] theorem modTrace_cycle (f : Trace → Trace) : (modTrace f s).cycle = s.cycle := rfl
@[simp] theorem modTrace_boot (f : Trace → Trace) : (modTrace f s).boot = s.boot := rfl
@[simp] theorem modTrace_aon (f : Trace → Trace) : (modTrace f s).aon = s.aon := rfl
@[simp] theorem modTrace_flash (f : Trace → Trace) : (modTrace f s).flash = s.flash := rfl
@[simp] theorem modTrace_keep (f : Trace → Trace) : (modTrace f s).keep = s.keep := rfl
@[simp] theorem modTrace_host (f : Trace → Trace) : (modTrace f s).host = s.host := rfl
@[simp] theorem modTrace_iso (f : Trace → Trace) : (modTrace f s).iso = s.iso := rfl
@[simp] theorem modTrace_snap (f : Trace → Trace) : (modTrace f s).snap = s.snap := rfl
@[simp] theorem modTrace_hdrs (f : Trace → Trace) : (modTrace f s).hdrs = s.hdrs := rfl
@[simp] theorem modTrace_told (f : Trace → Trace) : (modTrace f s).told = s.told := rfl
@[simp] theorem modTrace_told1 (f : Trace → Trace) : (modTrace f s).told1 = s.told1 := rfl
@[simp] theorem modTrace_halts (f : Trace → Trace) : (modTrace f s).halts = s.halts := rfl
@[simp] theorem modTrace_params (f : Trace → Trace) : (modTrace f s).params = s.params := rfl
@[simp] theorem modTrace_staged (f : Trace → Trace) : (modTrace f s).staged = s.staged := rfl
@[simp] theorem modTrace_quads (f : Trace → Trace) : (modTrace f s).quads = s.quads := rfl
@[simp] theorem modTrace_lanes (f : Trace → Trace) : (modTrace f s).lanes = s.lanes := rfl
@[simp] theorem modTrace_trunks (f : Trace → Trace) : (modTrace f s).trunks = s.trunks := rfl
@[simp] theorem modTrace_edges (f : Trace → Trace) : (modTrace f s).edges = s.edges := rfl
@[simp] theorem modTrace_clk (f : Trace → Trace) : (modTrace f s).clk = s.clk := rfl
@[simp] theorem modTrace_guh (f : Trace → Trace) : (modTrace f s).guh = s.guh := rfl
@[simp] theorem modTrace_pair (f : Trace → Trace) : (modTrace f s).pair = s.pair := rfl
@[simp] theorem modTrace_refs (f : Trace → Trace) : (modTrace f s).refs = s.refs := rfl
@[simp] theorem modTrace_tic (f : Trace → Trace) : (modTrace f s).tic = s.tic := rfl
@[simp] theorem modTrace_shaft (f : Trace → Trace) : (modTrace f s).shaft = s.shaft := rfl
@[simp] theorem modTrace_core (f : Trace → Trace) : (modTrace f s).core = s.core := rfl
@[simp] theorem modTrace_buf (f : Trace → Trace) : (modTrace f s).buf = s.buf := rfl
@[simp] theorem modTrace_sched (f : Trace → Trace) : (modTrace f s).sched = s.sched := rfl
@[simp] theorem modTrace_hlth (f : Trace → Trace) : (modTrace f s).hlth = s.hlth := rfl
@[simp] theorem modTrace_storeTrained (f : Trace → Trace) : (modTrace f s).storeTrained = s.storeTrained := rfl
@[simp] theorem modTrace_storeSize (f : Trace → Trace) : (modTrace f s).storeSize = s.storeSize := rfl
@[simp] theorem modTrace_storeRetrains (f : Trace → Trace) : (modTrace f s).storeRetrains = s.storeRetrains := rfl
@[simp] theorem modTrace_eccCorr (f : Trace → Trace) : (modTrace f s).eccCorr = s.eccCorr := rfl

/-! modRefs -/

@[simp] theorem modRefs_refs (f : Refs → Refs) : (modRefs f s).refs = f s.refs := rfl
@[simp] theorem modRefs_pending (f : Refs → Refs) : (modRefs f s).pending = s.pending := rfl
@[simp] theorem modRefs_outbox (f : Refs → Refs) : (modRefs f s).outbox = s.outbox := rfl
@[simp] theorem modRefs_free (f : Refs → Refs) : (modRefs f s).free = s.free := rfl
@[simp] theorem modRefs_ticks (f : Refs → Refs) : (modRefs f s).ticks = s.ticks := rfl
@[simp] theorem modRefs_c5 (f : Refs → Refs) : (modRefs f s).c5 = s.c5 := rfl
@[simp] theorem modRefs_cycle (f : Refs → Refs) : (modRefs f s).cycle = s.cycle := rfl
@[simp] theorem modRefs_boot (f : Refs → Refs) : (modRefs f s).boot = s.boot := rfl
@[simp] theorem modRefs_aon (f : Refs → Refs) : (modRefs f s).aon = s.aon := rfl
@[simp] theorem modRefs_flash (f : Refs → Refs) : (modRefs f s).flash = s.flash := rfl
@[simp] theorem modRefs_keep (f : Refs → Refs) : (modRefs f s).keep = s.keep := rfl
@[simp] theorem modRefs_host (f : Refs → Refs) : (modRefs f s).host = s.host := rfl
@[simp] theorem modRefs_iso (f : Refs → Refs) : (modRefs f s).iso = s.iso := rfl
@[simp] theorem modRefs_snap (f : Refs → Refs) : (modRefs f s).snap = s.snap := rfl
@[simp] theorem modRefs_hdrs (f : Refs → Refs) : (modRefs f s).hdrs = s.hdrs := rfl
@[simp] theorem modRefs_told (f : Refs → Refs) : (modRefs f s).told = s.told := rfl
@[simp] theorem modRefs_told1 (f : Refs → Refs) : (modRefs f s).told1 = s.told1 := rfl
@[simp] theorem modRefs_halts (f : Refs → Refs) : (modRefs f s).halts = s.halts := rfl
@[simp] theorem modRefs_params (f : Refs → Refs) : (modRefs f s).params = s.params := rfl
@[simp] theorem modRefs_staged (f : Refs → Refs) : (modRefs f s).staged = s.staged := rfl
@[simp] theorem modRefs_quads (f : Refs → Refs) : (modRefs f s).quads = s.quads := rfl
@[simp] theorem modRefs_lanes (f : Refs → Refs) : (modRefs f s).lanes = s.lanes := rfl
@[simp] theorem modRefs_trunks (f : Refs → Refs) : (modRefs f s).trunks = s.trunks := rfl
@[simp] theorem modRefs_edges (f : Refs → Refs) : (modRefs f s).edges = s.edges := rfl
@[simp] theorem modRefs_clk (f : Refs → Refs) : (modRefs f s).clk = s.clk := rfl
@[simp] theorem modRefs_guh (f : Refs → Refs) : (modRefs f s).guh = s.guh := rfl
@[simp] theorem modRefs_pair (f : Refs → Refs) : (modRefs f s).pair = s.pair := rfl
@[simp] theorem modRefs_tic (f : Refs → Refs) : (modRefs f s).tic = s.tic := rfl
@[simp] theorem modRefs_shaft (f : Refs → Refs) : (modRefs f s).shaft = s.shaft := rfl
@[simp] theorem modRefs_core (f : Refs → Refs) : (modRefs f s).core = s.core := rfl
@[simp] theorem modRefs_buf (f : Refs → Refs) : (modRefs f s).buf = s.buf := rfl
@[simp] theorem modRefs_sched (f : Refs → Refs) : (modRefs f s).sched = s.sched := rfl
@[simp] theorem modRefs_trace (f : Refs → Refs) : (modRefs f s).trace = s.trace := rfl
@[simp] theorem modRefs_hlth (f : Refs → Refs) : (modRefs f s).hlth = s.hlth := rfl
@[simp] theorem modRefs_storeTrained (f : Refs → Refs) : (modRefs f s).storeTrained = s.storeTrained := rfl
@[simp] theorem modRefs_storeSize (f : Refs → Refs) : (modRefs f s).storeSize = s.storeSize := rfl
@[simp] theorem modRefs_storeRetrains (f : Refs → Refs) : (modRefs f s).storeRetrains = s.storeRetrains := rfl
@[simp] theorem modRefs_eccCorr (f : Refs → Refs) : (modRefs f s).eccCorr = s.eccCorr := rfl

/-! modSh -/

@[simp] theorem modSh_shaft (f : ShaftBlk → ShaftBlk) : (modSh f s).shaft = f s.shaft := rfl
@[simp] theorem modSh_pending (f : ShaftBlk → ShaftBlk) : (modSh f s).pending = s.pending := rfl
@[simp] theorem modSh_outbox (f : ShaftBlk → ShaftBlk) : (modSh f s).outbox = s.outbox := rfl
@[simp] theorem modSh_free (f : ShaftBlk → ShaftBlk) : (modSh f s).free = s.free := rfl
@[simp] theorem modSh_ticks (f : ShaftBlk → ShaftBlk) : (modSh f s).ticks = s.ticks := rfl
@[simp] theorem modSh_c5 (f : ShaftBlk → ShaftBlk) : (modSh f s).c5 = s.c5 := rfl
@[simp] theorem modSh_cycle (f : ShaftBlk → ShaftBlk) : (modSh f s).cycle = s.cycle := rfl
@[simp] theorem modSh_boot (f : ShaftBlk → ShaftBlk) : (modSh f s).boot = s.boot := rfl
@[simp] theorem modSh_aon (f : ShaftBlk → ShaftBlk) : (modSh f s).aon = s.aon := rfl
@[simp] theorem modSh_flash (f : ShaftBlk → ShaftBlk) : (modSh f s).flash = s.flash := rfl
@[simp] theorem modSh_keep (f : ShaftBlk → ShaftBlk) : (modSh f s).keep = s.keep := rfl
@[simp] theorem modSh_host (f : ShaftBlk → ShaftBlk) : (modSh f s).host = s.host := rfl
@[simp] theorem modSh_iso (f : ShaftBlk → ShaftBlk) : (modSh f s).iso = s.iso := rfl
@[simp] theorem modSh_snap (f : ShaftBlk → ShaftBlk) : (modSh f s).snap = s.snap := rfl
@[simp] theorem modSh_hdrs (f : ShaftBlk → ShaftBlk) : (modSh f s).hdrs = s.hdrs := rfl
@[simp] theorem modSh_told (f : ShaftBlk → ShaftBlk) : (modSh f s).told = s.told := rfl
@[simp] theorem modSh_told1 (f : ShaftBlk → ShaftBlk) : (modSh f s).told1 = s.told1 := rfl
@[simp] theorem modSh_halts (f : ShaftBlk → ShaftBlk) : (modSh f s).halts = s.halts := rfl
@[simp] theorem modSh_params (f : ShaftBlk → ShaftBlk) : (modSh f s).params = s.params := rfl
@[simp] theorem modSh_staged (f : ShaftBlk → ShaftBlk) : (modSh f s).staged = s.staged := rfl
@[simp] theorem modSh_quads (f : ShaftBlk → ShaftBlk) : (modSh f s).quads = s.quads := rfl
@[simp] theorem modSh_lanes (f : ShaftBlk → ShaftBlk) : (modSh f s).lanes = s.lanes := rfl
@[simp] theorem modSh_trunks (f : ShaftBlk → ShaftBlk) : (modSh f s).trunks = s.trunks := rfl
@[simp] theorem modSh_edges (f : ShaftBlk → ShaftBlk) : (modSh f s).edges = s.edges := rfl
@[simp] theorem modSh_clk (f : ShaftBlk → ShaftBlk) : (modSh f s).clk = s.clk := rfl
@[simp] theorem modSh_guh (f : ShaftBlk → ShaftBlk) : (modSh f s).guh = s.guh := rfl
@[simp] theorem modSh_pair (f : ShaftBlk → ShaftBlk) : (modSh f s).pair = s.pair := rfl
@[simp] theorem modSh_refs (f : ShaftBlk → ShaftBlk) : (modSh f s).refs = s.refs := rfl
@[simp] theorem modSh_tic (f : ShaftBlk → ShaftBlk) : (modSh f s).tic = s.tic := rfl
@[simp] theorem modSh_core (f : ShaftBlk → ShaftBlk) : (modSh f s).core = s.core := rfl
@[simp] theorem modSh_buf (f : ShaftBlk → ShaftBlk) : (modSh f s).buf = s.buf := rfl
@[simp] theorem modSh_sched (f : ShaftBlk → ShaftBlk) : (modSh f s).sched = s.sched := rfl
@[simp] theorem modSh_trace (f : ShaftBlk → ShaftBlk) : (modSh f s).trace = s.trace := rfl
@[simp] theorem modSh_hlth (f : ShaftBlk → ShaftBlk) : (modSh f s).hlth = s.hlth := rfl
@[simp] theorem modSh_storeTrained (f : ShaftBlk → ShaftBlk) : (modSh f s).storeTrained = s.storeTrained := rfl
@[simp] theorem modSh_storeSize (f : ShaftBlk → ShaftBlk) : (modSh f s).storeSize = s.storeSize := rfl
@[simp] theorem modSh_storeRetrains (f : ShaftBlk → ShaftBlk) : (modSh f s).storeRetrains = s.storeRetrains := rfl
@[simp] theorem modSh_eccCorr (f : ShaftBlk → ShaftBlk) : (modSh f s).eccCorr = s.eccCorr := rfl

/-! modTic -/

@[simp] theorem modTic_tic (f : Tic → Tic) : (modTic f s).tic = f s.tic := rfl
@[simp] theorem modTic_pending (f : Tic → Tic) : (modTic f s).pending = s.pending := rfl
@[simp] theorem modTic_outbox (f : Tic → Tic) : (modTic f s).outbox = s.outbox := rfl
@[simp] theorem modTic_free (f : Tic → Tic) : (modTic f s).free = s.free := rfl
@[simp] theorem modTic_ticks (f : Tic → Tic) : (modTic f s).ticks = s.ticks := rfl
@[simp] theorem modTic_c5 (f : Tic → Tic) : (modTic f s).c5 = s.c5 := rfl
@[simp] theorem modTic_cycle (f : Tic → Tic) : (modTic f s).cycle = s.cycle := rfl
@[simp] theorem modTic_boot (f : Tic → Tic) : (modTic f s).boot = s.boot := rfl
@[simp] theorem modTic_aon (f : Tic → Tic) : (modTic f s).aon = s.aon := rfl
@[simp] theorem modTic_flash (f : Tic → Tic) : (modTic f s).flash = s.flash := rfl
@[simp] theorem modTic_keep (f : Tic → Tic) : (modTic f s).keep = s.keep := rfl
@[simp] theorem modTic_host (f : Tic → Tic) : (modTic f s).host = s.host := rfl
@[simp] theorem modTic_iso (f : Tic → Tic) : (modTic f s).iso = s.iso := rfl
@[simp] theorem modTic_snap (f : Tic → Tic) : (modTic f s).snap = s.snap := rfl
@[simp] theorem modTic_hdrs (f : Tic → Tic) : (modTic f s).hdrs = s.hdrs := rfl
@[simp] theorem modTic_told (f : Tic → Tic) : (modTic f s).told = s.told := rfl
@[simp] theorem modTic_told1 (f : Tic → Tic) : (modTic f s).told1 = s.told1 := rfl
@[simp] theorem modTic_halts (f : Tic → Tic) : (modTic f s).halts = s.halts := rfl
@[simp] theorem modTic_params (f : Tic → Tic) : (modTic f s).params = s.params := rfl
@[simp] theorem modTic_staged (f : Tic → Tic) : (modTic f s).staged = s.staged := rfl
@[simp] theorem modTic_quads (f : Tic → Tic) : (modTic f s).quads = s.quads := rfl
@[simp] theorem modTic_lanes (f : Tic → Tic) : (modTic f s).lanes = s.lanes := rfl
@[simp] theorem modTic_trunks (f : Tic → Tic) : (modTic f s).trunks = s.trunks := rfl
@[simp] theorem modTic_edges (f : Tic → Tic) : (modTic f s).edges = s.edges := rfl
@[simp] theorem modTic_clk (f : Tic → Tic) : (modTic f s).clk = s.clk := rfl
@[simp] theorem modTic_guh (f : Tic → Tic) : (modTic f s).guh = s.guh := rfl
@[simp] theorem modTic_pair (f : Tic → Tic) : (modTic f s).pair = s.pair := rfl
@[simp] theorem modTic_refs (f : Tic → Tic) : (modTic f s).refs = s.refs := rfl
@[simp] theorem modTic_shaft (f : Tic → Tic) : (modTic f s).shaft = s.shaft := rfl
@[simp] theorem modTic_core (f : Tic → Tic) : (modTic f s).core = s.core := rfl
@[simp] theorem modTic_buf (f : Tic → Tic) : (modTic f s).buf = s.buf := rfl
@[simp] theorem modTic_sched (f : Tic → Tic) : (modTic f s).sched = s.sched := rfl
@[simp] theorem modTic_trace (f : Tic → Tic) : (modTic f s).trace = s.trace := rfl
@[simp] theorem modTic_hlth (f : Tic → Tic) : (modTic f s).hlth = s.hlth := rfl
@[simp] theorem modTic_storeTrained (f : Tic → Tic) : (modTic f s).storeTrained = s.storeTrained := rfl
@[simp] theorem modTic_storeSize (f : Tic → Tic) : (modTic f s).storeSize = s.storeSize := rfl
@[simp] theorem modTic_storeRetrains (f : Tic → Tic) : (modTic f s).storeRetrains = s.storeRetrains := rfl
@[simp] theorem modTic_eccCorr (f : Tic → Tic) : (modTic f s).eccCorr = s.eccCorr := rfl

/-! modEdge -/

@[simp] theorem modEdge_pending (p : Nat) (f : Edge → Edge) : (modEdge p f s).pending = s.pending := rfl
@[simp] theorem modEdge_outbox (p : Nat) (f : Edge → Edge) : (modEdge p f s).outbox = s.outbox := rfl
@[simp] theorem modEdge_free (p : Nat) (f : Edge → Edge) : (modEdge p f s).free = s.free := rfl
@[simp] theorem modEdge_ticks (p : Nat) (f : Edge → Edge) : (modEdge p f s).ticks = s.ticks := rfl
@[simp] theorem modEdge_c5 (p : Nat) (f : Edge → Edge) : (modEdge p f s).c5 = s.c5 := rfl
@[simp] theorem modEdge_cycle (p : Nat) (f : Edge → Edge) : (modEdge p f s).cycle = s.cycle := rfl
@[simp] theorem modEdge_boot (p : Nat) (f : Edge → Edge) : (modEdge p f s).boot = s.boot := rfl
@[simp] theorem modEdge_aon (p : Nat) (f : Edge → Edge) : (modEdge p f s).aon = s.aon := rfl
@[simp] theorem modEdge_flash (p : Nat) (f : Edge → Edge) : (modEdge p f s).flash = s.flash := rfl
@[simp] theorem modEdge_keep (p : Nat) (f : Edge → Edge) : (modEdge p f s).keep = s.keep := rfl
@[simp] theorem modEdge_host (p : Nat) (f : Edge → Edge) : (modEdge p f s).host = s.host := rfl
@[simp] theorem modEdge_iso (p : Nat) (f : Edge → Edge) : (modEdge p f s).iso = s.iso := rfl
@[simp] theorem modEdge_snap (p : Nat) (f : Edge → Edge) : (modEdge p f s).snap = s.snap := rfl
@[simp] theorem modEdge_hdrs (p : Nat) (f : Edge → Edge) : (modEdge p f s).hdrs = s.hdrs := rfl
@[simp] theorem modEdge_told (p : Nat) (f : Edge → Edge) : (modEdge p f s).told = s.told := rfl
@[simp] theorem modEdge_told1 (p : Nat) (f : Edge → Edge) : (modEdge p f s).told1 = s.told1 := rfl
@[simp] theorem modEdge_halts (p : Nat) (f : Edge → Edge) : (modEdge p f s).halts = s.halts := rfl
@[simp] theorem modEdge_params (p : Nat) (f : Edge → Edge) : (modEdge p f s).params = s.params := rfl
@[simp] theorem modEdge_staged (p : Nat) (f : Edge → Edge) : (modEdge p f s).staged = s.staged := rfl
@[simp] theorem modEdge_quads (p : Nat) (f : Edge → Edge) : (modEdge p f s).quads = s.quads := rfl
@[simp] theorem modEdge_lanes (p : Nat) (f : Edge → Edge) : (modEdge p f s).lanes = s.lanes := rfl
@[simp] theorem modEdge_trunks (p : Nat) (f : Edge → Edge) : (modEdge p f s).trunks = s.trunks := rfl
@[simp] theorem modEdge_clk (p : Nat) (f : Edge → Edge) : (modEdge p f s).clk = s.clk := rfl
@[simp] theorem modEdge_guh (p : Nat) (f : Edge → Edge) : (modEdge p f s).guh = s.guh := rfl
@[simp] theorem modEdge_pair (p : Nat) (f : Edge → Edge) : (modEdge p f s).pair = s.pair := rfl
@[simp] theorem modEdge_refs (p : Nat) (f : Edge → Edge) : (modEdge p f s).refs = s.refs := rfl
@[simp] theorem modEdge_tic (p : Nat) (f : Edge → Edge) : (modEdge p f s).tic = s.tic := rfl
@[simp] theorem modEdge_shaft (p : Nat) (f : Edge → Edge) : (modEdge p f s).shaft = s.shaft := rfl
@[simp] theorem modEdge_core (p : Nat) (f : Edge → Edge) : (modEdge p f s).core = s.core := rfl
@[simp] theorem modEdge_buf (p : Nat) (f : Edge → Edge) : (modEdge p f s).buf = s.buf := rfl
@[simp] theorem modEdge_sched (p : Nat) (f : Edge → Edge) : (modEdge p f s).sched = s.sched := rfl
@[simp] theorem modEdge_trace (p : Nat) (f : Edge → Edge) : (modEdge p f s).trace = s.trace := rfl
@[simp] theorem modEdge_hlth (p : Nat) (f : Edge → Edge) : (modEdge p f s).hlth = s.hlth := rfl
@[simp] theorem modEdge_storeTrained (p : Nat) (f : Edge → Edge) : (modEdge p f s).storeTrained = s.storeTrained := rfl
@[simp] theorem modEdge_storeSize (p : Nat) (f : Edge → Edge) : (modEdge p f s).storeSize = s.storeSize := rfl
@[simp] theorem modEdge_storeRetrains (p : Nat) (f : Edge → Edge) : (modEdge p f s).storeRetrains = s.storeRetrains := rfl
@[simp] theorem modEdge_eccCorr (p : Nat) (f : Edge → Edge) : (modEdge p f s).eccCorr = s.eccCorr := rfl

end Sys2Proof.Machine
end

