-- ==== Sys2Proof/Laws/Tab.lean ====
section
/-! SUPPORT. Reading a sparse table after a write, and the canonical form that every write keeps. -/

namespace Sys2Proof.Machine

variable {α : Type}

@[simp] theorem Tab.find_nil (k : Nat) : Tab.find ([] : Tab α) k = none := rfl

@[simp] theorem Tab.get_nil (d : α) (k : Nat) : Tab.get d ([] : Tab α) k = d := rfl

@[simp] theorem Tab.find_set_same (m : Tab α) (k : Nat) (v : α) : (m.set k v).find k = some v := by
  induction m with
  | nil => simp [Tab.set, Tab.find]
  | cons e r ih =>
    obtain ⟨j, u⟩ := e
    by_cases h : j = k
    · simp [Tab.set, Tab.find, h]
    · by_cases g : k < j <;> simp [Tab.set, Tab.find, h, g, ih]

theorem Tab.find_set_other (m : Tab α) (k i : Nat) (v : α) (h : i ≠ k) : (m.set k v).find i = m.find i := by
  induction m with
  | nil => simp [Tab.set, Tab.find, Ne.symm h]
  | cons e r ih =>
    obtain ⟨j, u⟩ := e
    by_cases e1 : j = k
    · subst e1
      simp [Tab.set, Tab.find, Ne.symm h]
    · by_cases g : k < j
      · simp [Tab.set, Tab.find, e1, g, Ne.symm h]
      · simp only [Tab.set, if_neg e1, if_neg g, Tab.find, ih]

@[simp] theorem Tab.get_set_same (d : α) (m : Tab α) (k : Nat) (v : α) : Tab.get d (m.set k v) k = v := by
  simp [Tab.get]

theorem Tab.get_set_other (d : α) (m : Tab α) (k i : Nat) (v : α) (h : i ≠ k) :
    Tab.get d (m.set k v) i = Tab.get d m i := by
  simp [Tab.get, Tab.find_set_other m k i v h]

/-- Reading a table after a write, at any key. -/
theorem Tab.get_set (d : α) (m : Tab α) (k i : Nat) (v : α) :
    Tab.get d (m.set k v) i = if i = k then v else Tab.get d m i := by
  by_cases h : i = k
  · simp [h]
  · simp [h, Tab.get_set_other d m k i v h]

/-- A second write at a key replaces the first. -/
@[simp] theorem Tab.set_set (m : Tab α) (k : Nat) (v w : α) : (m.set k v).set k w = m.set k w := by
  induction m with
  | nil => simp [Tab.set]
  | cons e r ih =>
    obtain ⟨j, u⟩ := e
    by_cases h : j = k
    · simp [Tab.set, h]
    · by_cases g : k < j <;> simp [Tab.set, h, g, ih]

/-- The keys of a table after a write are rising if they were, and above `lo` if `lo` was below all of them. -/
theorem Tab.rising_set_aux (m : Tab α) (k : Nat) (v : α) (j : Nat) (u : α) (hj : j < k)
    (h : Tab.rising ((j, u) :: m) = true) : Tab.rising ((j, u) :: m.set k v) = true := by
  induction m generalizing j u with
  | nil => simp [Tab.set, Tab.rising, hj]
  | cons e r ih =>
    obtain ⟨i, w⟩ := e
    simp only [Tab.rising, Bool.and_eq_true, decide_eq_true_eq] at h
    by_cases e1 : i = k
    · subst e1
      have h2 := h.2
      cases r with
      | nil => simp [Tab.set, Tab.rising, hj]
      | cons e2 r2 => simp_all [Tab.set, Tab.rising]
    · by_cases g : k < i
      · simp [Tab.set, Tab.rising, e1, g, hj, h.2]
      · have hk : i < k := by omega
        simp [Tab.set, Tab.rising, e1, g, h.1, ih i w hk h.2]

/-- Every write keeps the canonical form. -/
theorem Tab.rising_set (m : Tab α) (k : Nat) (v : α) (h : m.rising = true) : (m.set k v).rising = true := by
  cases m with
  | nil => rfl
  | cons e r =>
    obtain ⟨j, u⟩ := e
    by_cases e1 : j = k
    · subst e1
      cases r with
      | nil => simp [Tab.set, Tab.rising]
      | cons e2 r2 => simp_all [Tab.set, Tab.rising]
    · by_cases g : k < j
      · simp [Tab.set, Tab.rising, e1, g, h]
      · have hk : j < k := by omega
        simpa [Tab.set, e1, g] using Tab.rising_set_aux r k v j u hk h

end Sys2Proof.Machine
end

