-- ==== Sys2Proof/Laws/Talk.lean ====
section
/-! SUPPORT. What answering a command and reporting an event can change: the Keeper's queues and counters, the rings and
SPI queues, the timers of event interrupts and what has left the device; every other piece of state is as it was. -/

namespace Sys2Proof.Machine

/-- `t` differs from `s` only by what was said: replies, events and interrupts. -/
structure Talk (s t : State) : Prop where
  pending : t.pending = s.pending
  free : t.free = s.free
  ticks : t.ticks = s.ticks
  c5 : t.c5 = s.c5
  cycle : t.cycle = s.cycle
  boot : t.boot = s.boot
  aon : t.aon = s.aon
  flash : t.flash = s.flash
  iso : t.iso = s.iso
  snap : t.snap = s.snap
  told : t.told = s.told
  told1 : t.told1 = s.told1
  halts : t.halts = s.halts
  params : t.params = s.params
  staged : t.staged = s.staged
  quads : t.quads = s.quads
  lanes : t.lanes = s.lanes
  trunks : t.trunks = s.trunks
  edges : t.edges = s.edges
  clk : t.clk = s.clk
  guh : t.guh = s.guh
  pair : t.pair = s.pair
  refs : t.refs = s.refs
  tic : t.tic = s.tic
  shaft : t.shaft = s.shaft
  core : t.core = s.core
  buf : t.buf = s.buf
  sched : t.sched = s.sched
  trace : t.trace = s.trace
  hlth : t.hlth = s.hlth
  storeTrained : t.storeTrained = s.storeTrained
  storeSize : t.storeSize = s.storeSize
  storeRetrains : t.storeRetrains = s.storeRetrains
  eccCorr : t.eccCorr = s.eccCorr
  k_cmdService : t.keep.cmdService = s.keep.cmdService
  k_waiting : t.keep.waiting = s.keep.waiting
  k_turn : t.keep.turn = s.keep.turn
  k_bulk : t.keep.bulk = s.keep.bulk
  k_commit : t.keep.commit = s.keep.commit
  k_subs : t.keep.subs = s.keep.subs
  k_handles : t.keep.handles = s.keep.handles
  k_remoteTaken : t.keep.remoteTaken = s.keep.remoteTaken
  k_untagged : t.keep.untagged = s.keep.untagged
  k_authRefused : t.keep.authRefused = s.keep.authRefused
  k_pair : t.keep.pair = s.keep.pair
  k_spareReady : t.keep.spareReady = s.keep.spareReady
  k_spareRetired : t.keep.spareRetired = s.keep.spareRetired
  k_wdExpired : t.keep.wdExpired = s.keep.wdExpired
  k_sramCorr : t.keep.sramCorr = s.keep.sramCorr
  k_testUnlocked : t.keep.testUnlocked = s.keep.testUnlocked
  h_pcieUp : t.host.pcieUp = s.host.pcieUp
  h_gen : t.host.gen = s.host.gen
  h_width : t.host.width = s.host.width
  h_perstLow : t.host.perstLow = s.host.perstLow
  h_training : t.host.training = s.host.training
  h_spiServed : t.host.spiServed = s.host.spiServed
  h_en : t.host.en = s.host.en
  h_err : t.host.err = s.host.err
  h_cmdLog2 : t.host.cmdLog2 = s.host.cmdLog2
  h_cplLog2 : t.host.cplLog2 = s.host.cplLog2
  h_evtLog2 : t.host.evtLog2 = s.host.evtLog2
  h_cmdBase : t.host.cmdBase = s.host.cmdBase
  h_cplBase : t.host.cplBase = s.host.cplBase
  h_evtBase : t.host.evtBase = s.host.evtBase
  h_doorbell : t.host.doorbell = s.host.doorbell
  h_cmdHead : t.host.cmdHead = s.host.cmdHead
  h_cplHead : t.host.cplHead = s.host.cplHead
  h_evtHead : t.host.evtHead = s.host.evtHead
  h_spiErr : t.host.spiErr = s.host.spiErr
  h_msixTable : t.host.msixTable = s.host.msixTable
  h_intMask : t.host.intMask = s.host.intMask
  h_spiEvtEn : t.host.spiEvtEn = s.host.spiEvtEn
  h_spiRplEn : t.host.spiRplEn = s.host.spiRplEn
  h_nmi : t.host.nmi = s.host.nmi
  h_nmiCount : t.host.nmiCount = s.host.nmiCount
  h_latch : t.host.latch = s.host.latch
  d_state : ∀ b, (hdr t b).state = (hdr s b).state
  d_fltStatus : ∀ b, (hdr t b).fltStatus = (hdr s b).fltStatus
  d_first : ∀ b, (hdr t b).first = (hdr s b).first
  d_ovf : ∀ b, (hdr t b).ovf = (hdr s b).ovf
  d_ovfCount : ∀ b, (hdr t b).ovfCount = (hdr s b).ovfCount
  d_intStatus : ∀ b, (hdr t b).intStatus = (hdr s b).intStatus
  d_intEnable : ∀ b, (hdr t b).intEnable = (hdr s b).intEnable
  d_causeActive : ∀ b, (hdr t b).causeActive = (hdr s b).causeActive
  d_level : ∀ b, (hdr t b).level = (hdr s b).level
  d_stopFlag : ∀ b, (hdr t b).stopFlag = (hdr s b).stopFlag
  d_nmiTaken : ∀ b, (hdr t b).nmiTaken = (hdr s b).nmiTaken
  d_react : ∀ b, (hdr t b).react = (hdr s b).react
  d_onSpare : ∀ b, (hdr t b).onSpare = (hdr s b).onSpare
  d_pcnt : ∀ b, (hdr t b).pcnt = (hdr s b).pcnt
  d_pcntOvf : ∀ b, (hdr t b).pcntOvf = (hdr s b).pcntOvf

namespace Talk

theorem refl (s : State) : Talk s s := by
  constructor <;> intros <;> rfl

theorem trans {s t u : State} (a : Talk s t) (b : Talk t u) : Talk s u where
  pending := b.pending.trans a.pending
  free := b.free.trans a.free
  ticks := b.ticks.trans a.ticks
  c5 := b.c5.trans a.c5
  cycle := b.cycle.trans a.cycle
  boot := b.boot.trans a.boot
  aon := b.aon.trans a.aon
  flash := b.flash.trans a.flash
  iso := b.iso.trans a.iso
  snap := b.snap.trans a.snap
  told := b.told.trans a.told
  told1 := b.told1.trans a.told1
  halts := b.halts.trans a.halts
  params := b.params.trans a.params
  staged := b.staged.trans a.staged
  quads := b.quads.trans a.quads
  lanes := b.lanes.trans a.lanes
  trunks := b.trunks.trans a.trunks
  edges := b.edges.trans a.edges
  clk := b.clk.trans a.clk
  guh := b.guh.trans a.guh
  pair := b.pair.trans a.pair
  refs := b.refs.trans a.refs
  tic := b.tic.trans a.tic
  shaft := b.shaft.trans a.shaft
  core := b.core.trans a.core
  buf := b.buf.trans a.buf
  sched := b.sched.trans a.sched
  trace := b.trace.trans a.trace
  hlth := b.hlth.trans a.hlth
  storeTrained := b.storeTrained.trans a.storeTrained
  storeSize := b.storeSize.trans a.storeSize
  storeRetrains := b.storeRetrains.trans a.storeRetrains
  eccCorr := b.eccCorr.trans a.eccCorr
  k_cmdService := b.k_cmdService.trans a.k_cmdService
  k_waiting := b.k_waiting.trans a.k_waiting
  k_turn := b.k_turn.trans a.k_turn
  k_bulk := b.k_bulk.trans a.k_bulk
  k_commit := b.k_commit.trans a.k_commit
  k_subs := b.k_subs.trans a.k_subs
  k_handles := b.k_handles.trans a.k_handles
  k_remoteTaken := b.k_remoteTaken.trans a.k_remoteTaken
  k_untagged := b.k_untagged.trans a.k_untagged
  k_authRefused := b.k_authRefused.trans a.k_authRefused
  k_pair := b.k_pair.trans a.k_pair
  k_spareReady := b.k_spareReady.trans a.k_spareReady
  k_spareRetired := b.k_spareRetired.trans a.k_spareRetired
  k_wdExpired := b.k_wdExpired.trans a.k_wdExpired
  k_sramCorr := b.k_sramCorr.trans a.k_sramCorr
  k_testUnlocked := b.k_testUnlocked.trans a.k_testUnlocked
  h_pcieUp := b.h_pcieUp.trans a.h_pcieUp
  h_gen := b.h_gen.trans a.h_gen
  h_width := b.h_width.trans a.h_width
  h_perstLow := b.h_perstLow.trans a.h_perstLow
  h_training := b.h_training.trans a.h_training
  h_spiServed := b.h_spiServed.trans a.h_spiServed
  h_en := b.h_en.trans a.h_en
  h_err := b.h_err.trans a.h_err
  h_cmdLog2 := b.h_cmdLog2.trans a.h_cmdLog2
  h_cplLog2 := b.h_cplLog2.trans a.h_cplLog2
  h_evtLog2 := b.h_evtLog2.trans a.h_evtLog2
  h_cmdBase := b.h_cmdBase.trans a.h_cmdBase
  h_cplBase := b.h_cplBase.trans a.h_cplBase
  h_evtBase := b.h_evtBase.trans a.h_evtBase
  h_doorbell := b.h_doorbell.trans a.h_doorbell
  h_cmdHead := b.h_cmdHead.trans a.h_cmdHead
  h_cplHead := b.h_cplHead.trans a.h_cplHead
  h_evtHead := b.h_evtHead.trans a.h_evtHead
  h_spiErr := b.h_spiErr.trans a.h_spiErr
  h_msixTable := b.h_msixTable.trans a.h_msixTable
  h_intMask := b.h_intMask.trans a.h_intMask
  h_spiEvtEn := b.h_spiEvtEn.trans a.h_spiEvtEn
  h_spiRplEn := b.h_spiRplEn.trans a.h_spiRplEn
  h_nmi := b.h_nmi.trans a.h_nmi
  h_nmiCount := b.h_nmiCount.trans a.h_nmiCount
  h_latch := b.h_latch.trans a.h_latch
  d_state := fun x => (b.d_state x).trans (a.d_state x)
  d_fltStatus := fun x => (b.d_fltStatus x).trans (a.d_fltStatus x)
  d_first := fun x => (b.d_first x).trans (a.d_first x)
  d_ovf := fun x => (b.d_ovf x).trans (a.d_ovf x)
  d_ovfCount := fun x => (b.d_ovfCount x).trans (a.d_ovfCount x)
  d_intStatus := fun x => (b.d_intStatus x).trans (a.d_intStatus x)
  d_intEnable := fun x => (b.d_intEnable x).trans (a.d_intEnable x)
  d_causeActive := fun x => (b.d_causeActive x).trans (a.d_causeActive x)
  d_level := fun x => (b.d_level x).trans (a.d_level x)
  d_stopFlag := fun x => (b.d_stopFlag x).trans (a.d_stopFlag x)
  d_nmiTaken := fun x => (b.d_nmiTaken x).trans (a.d_nmiTaken x)
  d_react := fun x => (b.d_react x).trans (a.d_react x)
  d_onSpare := fun x => (b.d_onSpare x).trans (a.d_onSpare x)
  d_pcnt := fun x => (b.d_pcnt x).trans (a.d_pcnt x)
  d_pcntOvf := fun x => (b.d_pcntOvf x).trans (a.d_pcntOvf x)

end Talk

/-! Each operation that speaks -/

theorem talk_emit (o : Out) (s : State) : Talk s (emit o s) := by
  constructor <;> intros <;> rfl

theorem talk_discard (s : State) : Talk s (discard s) := by
  constructor <;> intros <;> rfl

theorem talk_loseEvent (s : State) : Talk s (loseEvent s) := by
  constructor <;> intros <;> rfl

theorem talk_queueMgmt (p : Nat) (l : List Byte) (s : State) : Talk s (queueMgmt p l s) := by
  constructor <;> intros <;> rfl

/-- A header whose event timer alone changes. -/
theorem talk_modHdr (b : Nat) (f : Hdr → Hdr) (s : State)
    (h : ∀ x : Hdr, { f x with evtTimer := x.evtTimer, evtHeld := x.evtHeld } = x) : Talk s (modHdr b f s) := by
  have e : ∀ c, hdr (modHdr b f s) c = if c = b then f (hdr s b) else hdr s c := by
    intro c
    simp [hdr, modHdr, setHdr, Tab.get_set]
  constructor
  all_goals first
    | rfl
    | (intro c
       rw [e c]
       by_cases g : c = b
       · subst g
         rw [if_pos rfl]
         conv_rhs => rw [← h (hdr s c)]
       · rw [if_neg g])

theorem talk_signalVec (v : Nat) (s : State) : Talk s (signalVec v s) := by
  unfold signalVec
  split
  · constructor <;> intros <;> rfl
  · split
    · exact talk_emit _ _
    · exact Talk.refl s

theorem talk_signalEvent (b : Nat) (s : State) : Talk s (signalEvent b s) := by
  unfold signalEvent
  split
  · exact talk_signalVec b s
  · split
    · exact talk_modHdr b (fun h => { h with evtHeld := true }) s (fun _ => rfl)
    · exact (talk_modHdr b (fun h => { h with evtTimer := true }) s (fun _ => rfl)).trans (talk_signalVec b _)

theorem talk_mkEvent (d code : Nat) (ref : Option Nat) (w : List Word) (s : State) : Talk s (mkEvent d code ref w s).2 := by
  constructor <;> intros <;> rfl

theorem talk_eventRing (b code : Nat) (ref : Option Nat) (w : List Word) (s : State) : Talk s (eventRing b code ref w s) := by
  unfold eventRing
  have h := talk_mkEvent dRing code ref w s
  generalize mkEvent dRing code ref w s = x at h
  obtain ⟨p, t⟩ := x
  simp only at h ⊢
  split
  · exact h.trans (talk_loseEvent t)
  · split
    · exact h.trans (Talk.trans (by constructor <;> intros <;> rfl) (talk_loseEvent _))
    · exact h.trans (Talk.trans (Talk.trans (talk_emit _ t) (by constructor <;> intros <;> rfl)) (talk_signalEvent b _))

theorem talk_eventSpi (code : Nat) (ref : Option Nat) (w : List Word) (s : State) : Talk s (eventSpi code ref w s) := by
  unfold eventSpi
  have h := talk_mkEvent dSpi code ref w s
  generalize mkEvent dSpi code ref w s = x at h
  obtain ⟨p, t⟩ := x
  simp only at h ⊢
  split
  · exact h.trans (talk_loseEvent t)
  · exact h.trans (by constructor <;> intros <;> rfl)

theorem talk_eventRemote (k code : Nat) (ref : Option Nat) (w : List Word) (d : Origin) (s : State) :
    Talk s (eventRemote k code ref w d s) := by
  have h : Talk s (eventKeyed k code ref w s).2 := by constructor <;> intros <;> rfl
  unfold eventRemote
  generalize eventKeyed k code ref w s = x at h
  obtain ⟨p, t⟩ := x
  simp only at h ⊢
  split
  · exact h.trans (talk_emit _ _)
  · exact h.trans (talk_queueMgmt _ _ _)
  · exact h

theorem talk_eventSubs (b code : Nat) (w : List Word) (l : List (Nat × Sub)) (s : State) :
    Talk s (eventSubs b code w l s) := by
  induction l generalizing s with
  | nil => exact Talk.refl s
  | cons e r ih =>
    obtain ⟨i, u⟩ := e
    unfold eventSubs
    split
    · exact (talk_eventRemote _ _ _ _ _ s).trans (ih _)
    · exact ih s

/-- An event is only said. -/
theorem talk_report (b lo : Nat) (w : List Word) (s : State) : Talk s (report b lo w s) := by
  unfold report
  exact ((talk_eventRing _ _ _ _ s).trans (talk_eventSpi _ _ _ _)).trans (talk_eventSubs _ _ _ _ _)

/-- A completion event is only said. -/
theorem talk_reportRef (h : CmdHdr) (b lo : Nat) (w : List Word) (own : Bool) (s : State) :
    Talk s (reportRef h b lo w own s) := by
  obtain ⟨o, seq, nr, tr, ep, cl, key⟩ := h
  cases o <;> cases key <;> cases own <;> simp only [reportRef, if_true, if_false, Bool.false_eq_true]
  all_goals repeat' first
    | exact Talk.refl _
    | refine Talk.trans ?_ (talk_eventSubs _ _ _ _ _)
    | refine Talk.trans ?_ (talk_eventRemote _ _ _ _ _ _)
    | refine Talk.trans ?_ (talk_eventSpi _ _ _ _)
    | refine Talk.trans ?_ (talk_eventRing _ _ _ _ _)

theorem talk_writeCpl (o : OwedCpl) (s : State) : Talk s (writeCpl o s) := by
  unfold writeCpl
  simp only
  refine Talk.trans (t := (if 0 < min o.reply.length o.rplSize then emit (.rplBuf o.rplAddr (o.reply.take (min o.reply.length o.rplSize))) s else s)) ?_ ?_
  · split
    · exact talk_emit _ _
    · exact Talk.refl _
  · exact Talk.trans (Talk.trans (talk_emit _ _) (by constructor <;> intros <;> rfl)) (talk_signalVec _ _)

theorem talk_completePcie (o : OwedCpl) (s : State) : Talk s (completePcie o s) := by
  unfold completePcie
  simp only
  split
  · exact Talk.trans (by constructor <;> intros <;> rfl) (talk_discard _)
  · split
    · constructor <;> intros <;> rfl
    · exact Talk.trans (by constructor <;> intros <;> rfl) (talk_writeCpl _ _)

theorem talk_scriptStatus (st : Nat) (s : State) : Talk s (scriptStatus st s) := by
  unfold scriptStatus
  split
  · exact Talk.refl s
  · constructor <;> intros <;> rfl

/-- A reply is only said. -/
theorem talk_sendReply (h : CmdHdr) (op st : Nat) (w : List Word) (s : State) : Talk s (sendReply h op st w s) := by
  unfold sendReply
  simp only
  split
  · exact talk_completePcie _ _
  · split
    · exact Talk.refl _
    · constructor <;> intros <;> rfl
  · split
    · exact Talk.refl _
    · exact talk_emit _ _
  · split
    · exact Talk.refl _
    · exact talk_queueMgmt _ _ _
  · exact talk_scriptStatus _ _

/-- The completion of an accepted command is only said. -/
theorem talk_completeWith (op tag b lo : Nat) (w : List Word) (st : Nat) (s : State) :
    Talk s (completeWith op tag b lo w st s) := by
  unfold completeWith
  split
  · exact talk_report _ _ _ _
  · simp only
    split
    · refine Talk.trans (Talk.trans ?_ (talk_reportRef _ _ _ _ _ _)) (talk_scriptStatus _ _)
      constructor <;> intros <;> rfl
    · refine Talk.trans ?_ (talk_reportRef _ _ _ _ _ _)
      constructor <;> intros <;> rfl

theorem talk_commandDone (h : CmdHdr) (op st : Nat) (s : State) : Talk s (commandDone h op st s) := by
  unfold commandDone
  simp only
  split
  · exact (talk_reportRef _ _ _ _ _ s).trans (talk_scriptStatus _ _)
  · exact talk_reportRef _ _ _ _ _ s

theorem talk_completeDone (op tag st : Nat) (s : State) : Talk s (completeDone op tag st s) := by
  unfold completeDone
  split
  · exact Talk.refl s
  · exact Talk.trans (by constructor <;> intros <;> rfl) (talk_commandDone _ _ _ _)

/-! ## Ready bits -/

/-- Whether a block runs is not touched by what is said. -/
theorem Talk.blkRun {s t : State} (h : Talk s t) (b : Nat) : Sys2Proof.Machine.blkRun t b = Sys2Proof.Machine.blkRun s b := by
  simp only [Sys2Proof.Machine.blkRun, h.d_state b, h.d_onSpare b]

/-- What is said changes no ready bit of READY_0. -/
theorem Talk.ready0Bit {s t : State} (h : Talk s t) (n : Nat) :
    Sys2Proof.Machine.ready0Bit t n = Sys2Proof.Machine.ready0Bit s n := by
  unfold Sys2Proof.Machine.ready0Bit
  simp only [rKeepCmd, rBootCal, rHostPcie, rHostSpi, rStore, rTimePll, rCorePll, rTic, rRefs, rGuhRun, rGuhLocked,
    rGuhCal, rShaft, rPair, rLkp, rBuf, rSched, rCore, rTrace, rHlth, h.blkRun, h.k_cmdService, h.boot, h.h_pcieUp,
    h.h_spiServed, h.storeTrained, h.clk, h.guh]

theorem Talk.ready0 {s t : State} (h : Talk s t) : Sys2Proof.Machine.ready0 t = Sys2Proof.Machine.ready0 s := by
  unfold Sys2Proof.Machine.ready0
  rw [show Sys2Proof.Machine.ready0Bit t = Sys2Proof.Machine.ready0Bit s from funext h.ready0Bit]

/-- What is said changes no ready bit of READY_1. -/
theorem Talk.ready1 {s t : State} (h : Talk s t) : Sys2Proof.Machine.ready1 t = Sys2Proof.Machine.ready1 s := by
  unfold Sys2Proof.Machine.ready1
  rw [show Sys2Proof.Machine.quadReady t = Sys2Proof.Machine.quadReady s from
    funext (fun q => by simp only [Sys2Proof.Machine.quadReady, quad, h.quads, h.blkRun])]

/-- The reports of changed ready bits are only said. -/
theorem talk_reportReadyBits (was now : Nat) (l : List Nat) (s : State) : Talk s (reportReadyBits was now l s) := by
  induction l generalizing s with
  | nil => exact Talk.refl s
  | cons n r ih =>
    unfold reportReadyBits
    split
    · exact (talk_report _ _ _ s).trans (ih _)
    · exact ih s

theorem talk_reportQuads (was now : Nat) (l : List Nat) (s : State) : Talk s (reportQuads was now l s) := by
  induction l generalizing s with
  | nil => exact Talk.refl s
  | cons n r ih =>
    unfold reportQuads
    split
    · exact (talk_report _ _ _ s).trans (ih _)
    · exact ih s

/-- What is said changes no parameter in effect. -/
theorem Talk.par {s t : State} (h : Talk s t) : Sys2Proof.Machine.par t = Sys2Proof.Machine.par s := by
  have r : resetValue t = resetValue s := by
    funext b i r; simp only [resetValue, h.boot]
  funext b i n
  simp only [Sys2Proof.Machine.par, h.params, r]

/-- What is said leaves every pulse pin where it is to be. -/
theorem Talk.pinsSettled {s t : State} (h : Talk s t) : Sys2Proof.Machine.pinsSettled t = Sys2Proof.Machine.pinsSettled s := by
  have e : Sys2Proof.Machine.rTimePll t = Sys2Proof.Machine.rTimePll s := by
    simp only [Sys2Proof.Machine.rTimePll, h.clk, h.blkRun]
  have p : pulse t = pulse s := funext fun n => by simp only [pulse, h.clk]
  have c : pulseClaimed t = pulseClaimed s := funext fun n => by simp only [pulseClaimed, h.par]
  have d : dark t = dark s := by simp only [dark, e, h.boot]
  have w : switchReleased t = switchReleased s := funext fun n => by simp only [switchReleased, h.pair]
  have q : pulsePin t = pulsePin s := funext fun n => by unfold pulsePin; rw [p, c, d, w, h.pair, h.boot]
  unfold Sys2Proof.Machine.pinsSettled; rw [p, q]

/-- What is said changes neither what the main DPLL holds nor what a gate list waits for nor a clamp. -/
theorem Talk.holdSettled {s t : State} (h : Talk s t) :
    Sys2Proof.Machine.holdSettled t = Sys2Proof.Machine.holdSettled s := by
  simp only [Sys2Proof.Machine.holdSettled, mustHold, selOf, rRefs, rTic, rTimePll, h.refs, h.guh, h.clk, h.blkRun]

theorem Talk.shaftState {s t : State} (h : Talk s t) : Sys2Proof.Machine.shaftState t = Sys2Proof.Machine.shaftState s := by
  have e : ∀ f n, stateOfShaft t f n = stateOfShaft s f n := by
    intro f
    induction f with
    | zero => intro n; rfl
    | succ f ih =>
      have e : Sys2Proof.Machine.shaft t = Sys2Proof.Machine.shaft s := funext fun n => by
        simp only [Sys2Proof.Machine.shaft, h.shaft]
      intro n; simp only [stateOfShaft, e, ih]
  funext n; exact e 5 n

theorem Talk.listsSettled {s t : State} (h : Talk s t) :
    Sys2Proof.Machine.listsSettled t = Sys2Proof.Machine.listsSettled s := by
  have e : refRuns t = refRuns s := funext fun g => by
    simp only [refRuns, rGuhRun, rShaft, rTimePll, shaftRunning, h.clk, h.blkRun, h.shaftState]
  have d : listDue t = listDue s := funext fun p => by simp only [listDue, e, rSched, portSched, h.sched, h.blkRun]; rfl
  simp only [Sys2Proof.Machine.listsSettled, d, h.sched]

theorem Talk.clampMask {s t : State} (h : Talk s t) : Sys2Proof.Machine.clampMask t = Sys2Proof.Machine.clampMask s := by
  have e : dpllNow t = dpllNow s := funext fun i => by simp only [dpllNow, slewLimit, parN, selOf, h.par, h.refs, h.ticks]
  unfold Sys2Proof.Machine.clampMask; rw [e]

/-- A settled state stays settled under what is said. -/
theorem Talk.settled {s t : State} (h : Talk s t) : Sys2Proof.Machine.settled t = Sys2Proof.Machine.settled s := by
  simp only [Sys2Proof.Machine.settled, h.halts, h.told, h.told1, h.ready0, h.ready1, h.guh, h.clk, h.pinsSettled,
    h.holdSettled, h.listsSettled, h.clampMask]

/-- Nothing follows a settled state. -/
theorem finish_settled (s : State) (h : settled s = true) : finish s = s := by
  simp [finish, h]

end Sys2Proof.Machine
end

