-- ==== Sys2Proof/Laws/Serve.lean ====
section
/-! SUPPORT. What serving a command that passes steps 8 to 11 does (Table EF-4). -/

namespace Sys2Proof.Machine

/-- A command that is taken is executed. -/
theorem serve_taken {op : Nat} {h : CmdHdr} {s : State} (t : Taken op h s) (body : State → Resp) :
    serve op h body s = afterReply op (body s) (answer op h (body s)) := by
  obtain ⟨h1, h2, h3, h4⟩ := t
  simp [serve, h1, h2, h3, execute, h4]

/-- Every command but RESTART does nothing after its answer. -/
theorem serve_answer {op : Nat} {h : CmdHdr} {s : State} (t : Taken op h s) (n : op ≠ 0x0105) (body : State → Resp) :
    serve op h body s = sendReply h op (body s).status (body s).words (body s).state := by
  rw [serve_taken t, afterReply, if_neg (fun e => n e.1), answer]

/-- A command that a step of Table EF-4 from 8 to 10 refuses is answered with that status and changes nothing else. -/
theorem serve_refused {op : Nat} {h : CmdHdr} {s : State} {st : Nat} (u : keeperUp s = true)
    (b : (s.boot.phase == .standbyLight && isRemote h.origin) = false) (r : stepRefusal op h s = some st)
    (body : State → Resp) : serve op h body s = sendReply h op st [] s := by
  simp [serve, u, b, r]

/-- A row that serves `body`, whose answer is known, answers it. -/
theorem answers_of {i : Instr} {op : Nat} {h : CmdHdr} {body : State → Resp} {s t' : State} {st : Nat} {w : List Word}
    (t : Taken op h s) (n : op ≠ 0x0105) (e : exec i s = .next (finish (serve op h body s))) (b : body s = ⟨t', st, w⟩) :
    Answers i h op st w s t' := by
  unfold Answers
  rw [e, serve_answer t n, b]

/-- A row whose effect is known leaves it. -/
theorem leaves_of {i : Instr} {s t u : State} (e : exec i s = .next (finish u)) (b : u = t) : Leaves i s t := by
  unfold Leaves
  rw [e, b]

end Sys2Proof.Machine
end

