-- ==== Sys2Proof/Tests/Slice0.lean ====
section
/-! SUPPORT. The model's own tests: ill-formed commands are refused by the check, a few effects worked by hand from the
spec, and for every statement with hypotheses a state that meets them. -/

namespace Sys2Proof.Tests

open Sys2Proof Sys2Proof.Machine

/-! Small states for the tests. -/

/-- Blocks in RUN. -/
def running (l : List Nat) : Tab Hdr := l.map (fun b => (b, { Hdr.reset with state := .run }))

/-- The device in service: the Keeper serves commands and the blocks of `l` run. -/
def inService (l : List Nat) : State :=
  { State.reset with
    boot := { Boot.reset with phase := .started, bootOk := true, calRead := true, cal0 := true, flashOk := true, image := 1 }
    keep := { Keep.reset with cmdService := true }
    host := { HostIf.reset with spiServed := true, pcieUp := true }
    clk := { Clk.reset with csynStopped := false, lockA := true, coreLock := true }
    hdrs := running l }

/-- Every block but PAIR, quads and ports. -/
def core9 : List Nat := [0, 1, 2, 3, 4, 5, 6, 7, 8, 0xA, 0xB, 0xC, 0xD, 0xE, 0xF]

/-- A header of a command by SPI that targets any role. -/
def spiCmd : CmdHdr := ⟨.spi, 1, false, 0, 0, 2, none⟩

/-- A segment at rest at angle 0 from time 0 on. -/
def restSeg : Seg := ⟨0, 0, 0, 0, 0, 0, 0⟩

/-- `s` with shaft 3 running in a segment at rest. -/
def withShaft (s : State) : State :=
  { s with shaft := { s.shaft with shafts := [(3, { Shaft.reset with source := 1, state := .running, force := some restSeg })] } }
/-- A COMMIT of nothing staged that would be pending. -/
def otherCommit : PendingCommit := ⟨spiCmd, 1, 0, 0, 2 ^ 6, 65536, true⟩

/-! ## Well-formed commands -/

theorem test_wf_ok : (Instr.nop spiCmd).wf = true := by decide
theorem test_wf_seq : (Instr.nop { spiCmd with seq := 65536 }).wf = false := by decide
theorem test_wf_trole : (Instr.nop { spiCmd with trole := 3 }).wf = false := by decide
theorem test_wf_epoch : (Instr.nop { spiCmd with epoch := 65536 }).wf = false := by decide
theorem test_wf_class : (Instr.nop { spiCmd with cls := 3 }).wf = false := by decide
theorem test_wf_key : (Instr.nop { spiCmd with key := some (8, 0) }).wf = false := by decide
theorem test_wf_replay : (Instr.nop { spiCmd with key := some (0, 2 ^ 64) }).wf = false := by decide
theorem test_wf_tag : (Instr.nop { spiCmd with origin := .pcie (2 ^ 32) 0 64 }).wf = false := by decide
theorem test_wf_addr : (Instr.nop { spiCmd with origin := .pcie 0 (2 ^ 64) 64 }).wf = false := by decide
theorem test_wf_size : (Instr.nop { spiCmd with origin := .pcie 0 0 65537 }).wf = false := by decide
theorem test_wf_inband_port : (Instr.nop { spiCmd with origin := .inband 64 0 0 }).wf = false := by decide
theorem test_wf_inband_mac : (Instr.nop { spiCmd with origin := .inband 0 (2 ^ 48) 0 }).wf = false := by decide
theorem test_wf_inband_vlan : (Instr.nop { spiCmd with origin := .inband 0 0 65536 }).wf = false := by decide
theorem test_wf_tunnel_port : (Instr.nop { spiCmd with origin := .tunnel 64 (List.replicate 12 0) }).wf = false := by decide
theorem test_wf_tunnel_env : (Instr.nop { spiCmd with origin := .tunnel 0 [] }).wf = false := by decide

theorem test_wf_port : (Instr.ptpPortRead spiCmd 64).wf = false := by decide
theorem test_wf_lane : (Instr.adaptTimeout 64).wf = false := by decide
theorem test_wf_quad : (Instr.failoverFilterEnd 16).wf = false := by decide
theorem test_wf_block : (Instr.blockStop spiCmd (2 ^ 64)).wf = false := by decide

/-! ## Effects worked by hand from the spec -/

theorem test_reset_idle : State.reset.pending = [] := by decide

/-- R6, R106: a 32-bit field of 0xFFFFFFFF read as two's complement. -/
theorem test_signed32 : sext 32 0xFFFFFFFF = -1 ∧ sext 32 0x7FFFFFFF = 2147483647 := by decide

/-- The check value of CRC-32C over the bytes of "123456789" (R318). -/
theorem test_crc32c : crc32c [0x31, 0x32, 0x33, 0x34, 0x35, 0x36, 0x37, 0x38, 0x39] = 0xE3069283 := by decide +kernel

/-- Writing the erased value removes the entry (R367). -/
theorem test_flash_canonical : Memory.write (Memory.write [] 5 1) 5 0xFF = [] := by decide

/-- Table EF-9: the class and marks of four opcodes. -/
theorem test_op_rows : opRow 0x0001 = some (0x0001, 0, false, true) ∧ opRow 0x0006 = some (0x0006, 1, false, false) ∧
    opRow 0x000F = some (0x000F, 0, true, false) ∧ opRow 0x0F01 = some (0x0F01, 2, false, true) := by decide

/-! ## Witnesses of the statements' hypotheses -/

/-! ### IdentAndNop -/

theorem test_taken : Taken 0x0001 spiCmd (inService core9) ∧ Taken 0x0002 spiCmd (inService core9) := by
  unfold Taken; decide

/-! ### ParamGetAnswers -/

theorem wit_ParamGetAnswers : Taken 0x0003 spiCmd (inService core9) ∧
    (∀ id ∈ [0x00000001, 0x00000004], (findRow id).isSome = true) ∧ findRow 0x7F000001 = none := by
  unfold Taken; decide

/-! ### ParamWriteAllOrNone -/

theorem wit_ParamWriteAllOrNone : Taken 0x0004 spiCmd (inService core9) ∧ Taken 0x0005 spiCmd (inService core9) ∧
    entryRefused .set (inService core9) (0x00000004, 1000) = none ∧ monRefused .set (inService core9) [(0x00000004, 1000)] = none ∧ jumpRefused (inService core9) [(0x00000004, 1000)] = none ∧
    entryRefused .set (inService core9) (0x00000004, 99) = some stOutOfRange ∧
    entryRefused .stage (inService core9) (0x04000101, 0) = none ∧ monRefused .stage (inService core9) [(0x04000101, 0)] = none ∧ jumpRefused (inService core9) [(0x04000101, 0)] = none ∧
    entryRefused .stage (inService core9) (0x00000004, 1000) = some stBadClass := by
  unfold Taken; decide

/-! ### MaskedConfigWrites -/

theorem wit_MaskedConfigWrites : Taken 0x0901 spiCmd (inService core9) ∧ Taken 0x0A01 spiCmd (inService core9) ∧
    Taken 0x0C01 spiCmd (inService [0]) ∧ Taken 0x1003 spiCmd (inService core9) ∧ Taken 0x0804 spiCmd (inService core9) ∧
    candExists 0x5F = true ∧ candExists 12 = false ∧
    (EntriesPass .byClass (maskEntries bREFS 0x5F 1 1 [2]) (inService core9)) ∧
    (EntriesPass .byClass (maskEntries bCSYN 15 0x100 2 [0]) (inService core9)) ∧
    (EntriesPass .byClass (maskEntries bCSYN 0x37 0x200 1 [0]) (inService core9)) ∧
    (EntriesPass .byClass (maskEntries bSHAFT 63 1 1 [0]) (inService [0])) ∧
    (EntriesPass .byClass (maskEntries bTRACE 0 1 1 [0]) (inService core9)) ∧
    (EntriesPass .byClass [(pid (bP 63) 0 Par.epPtpAsym, 5)] (inService core9)) ∧
    (EntriesPass .byClass
      [(pid (bP 63) 0 Par.gxAsymFixed, 0), (pid (bP 63) 0 Par.gxAsymEps, 0), (pid (bP 63) 0 Par.gxExtDelay, 0)]
      (inService core9)) := by
  unfold Taken EntriesPass; decide

/-! ### CommitRules -/

theorem wit_CommitRules_now : Taken 0x0006 spiCmd (inService core9) ∧ Taken 0x0007 spiCmd (inService core9) ∧
    (∀ b < nBlocks, (2 ^ 6).testBit b = true → blkStopped (inService core9) b = false) ∧
    (inService core9).keep.commit = none ∧ firstFailing (2 ^ 6) (inService core9) = none ∧
    rGuhRun (inService core9) = true ∧
    nsAhead (inService core9) 65536 = 1 ∧ nsAhead (inService core9) 0 = 0 ∧
    nsAhead (inService core9) (2000000000 * 65536) = 2000000000 ∧
    rShaft (withShaft (inService core9)) = true ∧ shaftRunning (withShaft (inService core9)) 3 = true ∧
    Taken 0x0006 spiCmd (withShaft (inService core9)) ∧ firstFailing (2 ^ 6) (withShaft (inService core9)) = none := by
  unfold Taken; decide

theorem wit_CommitRules_refused : Taken 0x0006 spiCmd (inService [0, 14]) ∧ rGuhRun (inService [0, 14]) = false ∧
    firstFailing (2 ^ 14) (inService [0, 14]) = none ∧
    firstFailing (2 ^ 14) { inService [0, 14] with staged := [(pid bTRACE 0 Par.ctTagChanLo, 9), (pid bTRACE 0 Par.ctTagChanHi, 8)] } = some (14, stOutOfRange) ∧
    blkStopped (inService core9) 9 = true ∧ (∀ c < 9, (2 ^ 9).testBit c = true → blkStopped (inService core9) c = false) ∧
    ({ inService [0, 14] with keep := { (inService [0, 14]).keep with commit := some otherCommit } } : State).keep.commit ≠ none := by
  unfold Taken; decide

/-! ### BlockCommandRules -/

theorem wit_BlockCommandRules : Taken 0x0008 spiCmd (inService core9) ∧ Taken 0x0009 spiCmd (inService core9) ∧
    Taken 0x000A spiCmd (inService core9) ∧ (hdr (inService core9) 8).state ≠ .off ∧
    (hdr (inService core9) 9).state = .off ∧ blkStopped (inService core9) 9 = true ∧
    blkStopped (inService core9) 0x1F = true ∧ isQuadB 0x1F = true ∧ isQuadB 9 = false ∧ startCheck (inService core9) 9 = none ∧
    startCheck (inService core9) 0x1F = none ∧ commitNames (inService core9) 8 = false ∧
    commitNames { inService core9 with keep := { (inService core9).keep with commit := some otherCommit } } 6 = true ∧
    startCheck { inService [0] with staged := [(pid bTRACE 0 Par.ctTagChanLo, 9), (pid bTRACE 0 Par.ctTagChanHi, 8)] } 14
      = some stOutOfRange := by
  unfold Taken; decide

/-! ### RegisterAndStatusCommands -/

theorem wit_RegisterAndStatusCommands : Taken 0x000C spiCmd (inService core9) ∧ Taken 0x000D spiCmd (inService core9) ∧
    Taken 0x000B spiCmd (inService core9) ∧ Taken 0x0101 spiCmd (inService core9) := by
  unfold Taken; decide

/-! ### KeysAndSubscriptions -/

/-- The device in service with a full key in slot 0 and `n` subscriptions held under it. -/
def withKey (n : Nat) : State :=
  { inService core9 with keep := { (inService core9).keep with
      keys := [(0, { KeySlot.empty with perm := 2, key := 7 })]
      subs := (List.range n).map (fun i => (i, ⟨0, 1, .inband i 5 0⟩)) } }

theorem wit_KeysAndSubscriptions : Taken 0x000F spiCmd (inService core9) ∧ Taken 0x000E spiCmd (withKey 0) ∧
    Taken 0x000E spiCmd (withKey 4) ∧ (keySlot (withKey 4) 0).perm ≠ 0 ∧
    findSub (withKey 4) 0 (.inband 3 5 0) = some 3 ∧ findSub (withKey 4) 0 (.inband 4 5 0) = none ∧
    (withKey 4).keep.subs.freeFrom 0 4 = none ∧ findSub (withKey 3) 0 (.inband 4 5 0) = none ∧
    (withKey 3).keep.subs.freeFrom 0 4 = some 3 ∧ Taken 0x000E spiCmd (withKey 3) := by
  unfold Taken; decide

/-! ### BootCommands -/

/-- The header of an image of no length, without its CRC. -/
def emptyImage : List Byte := bytesBE 4 0x5A56494D ++ List.replicate 56 0

/-- The device in service with an empty image in slot B. -/
def withImage : State :=
  { inService core9 with flash := Memory.writeAll [] 0x210000 (emptyImage ++ bytesBE 4 (crc32c emptyImage)) }

theorem wit_IMAGE_SELECT : slotValid withImage.flash 2 = true := by decide +kernel

theorem wit_IMAGE_SELECT_taken : Taken 0x0103 spiCmd withImage ∧ withImage.boot.flashOk = true := by unfold Taken; decide

theorem wit_BootCommands : Taken 0x0102 spiCmd (inService core9) ∧ Taken 0x0103 spiCmd (inService core9) ∧
    Taken 0x0104 spiCmd (inService core9) ∧ Taken 0x0105 spiCmd (inService core9) ∧
    (inService core9).boot.image = 1 ∧ (inService core9).keep.bulk = [] ∧ (inService core9).boot.flashOk = true ∧
    slotValid (inService core9).flash 2 = false ∧ keeperUp (inService core9) = true := by
  unfold Taken; decide

/-! ### ExecutionAndScript -/

/-- A packet of the script: a NOP with its CRC. -/
def nopPkt : List Byte :=
  let a : List Byte := [0xEF, 0x10, 0, 2, 0, 1, 0, 0, 0, 0, 0, 0]
  a ++ bytesBE 4 (crc32c a)

/-- A script of the packets `l`. -/
def runOf (l : List (List Byte)) (f : Option (Nat × Nat)) (w : Option Nat) : ScriptRun :=
  { pkts := l, stopOnErr := false, scriptId := 1, run := 1, first := f, holding := false, ended := false, waitFrom := w }

/-- The device in service with that script running and `t` ticks past. -/
def withScript (r : ScriptRun) (t : Nat) : State :=
  { inService core9 with keep := { (inService core9).keep with script := some r }, ticks := t }

/-- A header of a script's packet. -/
def scriptHdr : CmdHdr := ⟨.script, 1, false, 0, 0, 0, none⟩

/-- An IDENT that waits. -/
def waits (cls : Nat) : Waiting := { hdr := ⟨.spi, 1, false, 0, 0, cls, none⟩, opcode := 1, body := [], bytes := [] }

/-- The device in service with commands waiting. -/
def withWaiting : State := { inService core9 with keep := { (inService core9).keep with waiting := [waits 2, waits 0, waits 1] } }

theorem wit_ExecutionAndScript : keeperUp withWaiting = true ∧ nextWaiting withWaiting = some (waits 1) ∧
    Taken 0x0010 scriptHdr (withScript (runOf [] none none) 0) ∧
    Taken 0x0010 scriptHdr (withScript (runOf [] none (some 0)) 625000) ∧
    masksMet (withScript (runOf [] none none) 0) 1 0 0 0 = true ∧
    masksMet (withScript (runOf [] none none) 0) 4 1 0 0 = false ∧
    masksMet (withScript (runOf [] none (some 0)) 625000) 0 1 0 0 = false ∧
    rKeepCmd (withScript (runOf [] none none) 0) = true := by
  unfold Taken; decide

theorem wit_SCRIPT_PACKET : magicOk nopPkt = true ∧ stillWaits nopPkt (withScript (runOf [nopPkt] none none) 0) = false ∧
    ((acceptPkt .script nopPkt (withScript (runOf [] none none) 0)).1.map (·.opcode)) = some 2 := by
  decide +kernel

/-! ### LaneAdaptation -/

/-- The device in service with lane 5 in mode 3, its quad running with PLL A locked, and the lane changed by `f`. -/
def laneAs (f : Lane → Lane) : State :=
  { inService (core9 ++ [0x11]) with
    lanes := [(5, f { Lane.reset with mode := 3 })]
    quads := [(1, { Quad.reset with planA := 2, paired := true, lockA := true, ready := true })] }

theorem wit_LANE_ADAPT : Taken 0x0201 spiCmd (laneAs id) ∧ Taken 0x0202 spiCmd (laneAs id) ∧
    (lane (laneAs id) 5).mode ≠ 0 ∧ blkRun (laneAs id) (bQ 1) = true ∧ (lane (laneAs id) 5).adapt = .none ∧
    (lane (laneAs id) 5).spare = .idle ∧ adaptFixed (laneAs id) 5 = false ∧
    adaptFixed { laneAs id with params := [(pid 0x11 1 Par.lnAdaptMode, 1)] } 5 = true ∧
    (govRequest (.laneAdapt 5) (laneAs id)).1 = .queued ∧ (lane (laneAs id) 5).cdrLock = false ∧
    pllLocked (laneAs id) 1 (lanePll (laneAs id) 5) = true ∧ (lane (laneAs id) 6).mode = 0 := by
  unfold Taken; decide

theorem wit_ADAPT_DONE : (lane (laneAs (fun x => { x with adapt := .running, cdrLock := true })) 5).adapt = .running ∧
    (lane (laneAs (fun x => { x with adapt := .running })) 5).cdrLock = false ∧
    (lane (laneAs (fun x => { x with adapt := .held })) 5).adapt = .held := by decide

/-- An adaptation whose passes for the 16 peaks see eyes of height `v`, `v` - 1, and so on, and whose last sees one of
`last`, each word of each pass with error 1 after values of 1. -/
def runAs (v last : Nat) : AdaptRun :=
  ⟨(List.range 16).map (fun k => ⟨[(1, List.replicate 12 1)], ⟨v - k, 16, 65536⟩⟩), ⟨[(1, List.replicate 12 1)], ⟨last, 16, 65536⟩⟩⟩

theorem wit_ADAPT_DONE_fom :
    let s := laneAs (fun x => { x with adapt := .running, cdrLock := true })
    runAdapt (lane s 5).peakGiven (lane s 5).ctle (runAs 20 32) = (0, List.replicate 12 2, 255) ∧
      runAdapt (some 7) 3 (runAs 20 1) = (7, List.replicate 12 2, 7) ∧
      parN s (bQ 1) 1 Par.lnFomFail ≤ 255 ∧ 7 < parN s (bQ 1) 1 Par.lnFomFail ∧ awaitsLock (laneAs id) 5 = true := by decide

/-! ### TableCommands -/

/-- A load of group entries that waits for its grant. -/
def withLoad : State :=
  { inService core9 with core := { (inService core9).core with loads := [⟨spiCmd, 3, [[1, 2]], 0, false⟩] } }

theorem wit_TableCommands : Taken 0x0501 spiCmd (inService core9) ∧ Taken 0x0502 spiCmd (inService core9) ∧
    Taken 0x0503 spiCmd (inService core9) ∧ rLkp (inService core9) = true ∧
    (writeEntries 3 0 [[1, 2]] (inService core9)).isRight = true ∧
    writeEntries 3 0 [[1024, 2]] (inService core9) = .inl (stOutOfRange, 0) ∧
    (govRequest .tableLoad (inService core9)).1 = .queued ∧ (inService core9).core.loads = [] ∧ withLoad.core.loads ≠ [] ∧
    Taken 0x0503 spiCmd withLoad ∧
    rLkp (inService [0]) = false ∧ Taken 0x0501 spiCmd (inService [0]) ∧ Taken 0x0502 spiCmd (inService [0]) ∧
    Taken 0x0503 spiCmd (inService [0]) := by
  unfold Taken; decide

/-! ### ChannelCommands -/

/-- Store trained and channel 5 valid, with claim check of no unit and an identifier of all zeros. -/
def withChan : State :=
  let s := { inService core9 with storeTrained := true }
  { s with core := { s.core with chans := [(5, (Chan.blank.withConf []).setF 0 31 31 1)] } }

theorem wit_ChannelCommands : Taken 0x0601 spiCmd withChan ∧ Taken 0x0602 spiCmd withChan ∧
    Taken 0x0603 spiCmd withChan ∧ Taken 0x0604 spiCmd withChan ∧ Taken 0x0605 spiCmd withChan ∧ rLkp withChan = true ∧ rStore withChan = true ∧
    chanInList withChan 5 = true ∧ chanInList withChan 6 = true ∧ chanOf withChan 6 = none ∧ (chanOf withChan 5).isSome = true ∧
    confOk withChan (((Chan.blank.withConf []).resetState (rollNs withChan) 15).setF 0 31 31 1) = true ∧
    pinFits withChan 6 (((Chan.blank.withConf []).resetState (rollNs withChan) 15).setF 0 31 31 1) = true ∧
    commitNames withChan bLKP = false ∧ stagedPinsFit withChan (withChan.core.stagedMods.set 5 (0, [])) = true ∧
    booked withChan 5 = false ∧ chanInList withChan (2 ^ 20) = false ∧ rLkp (inService [0]) = false := by
  unfold Taken; decide

theorem wit_ChannelBusy : withChan.core.streams.any (fun e => e.channel == 5) = false ∧
    booked { withChan with core := { withChan.core with bookings := [(0, ⟨5, 32, 1, 0, 64⟩)] } } 5 = true ∧
    commitNames { withChan with keep := { withChan.keep with commit := some { otherCommit with mask := 2 ^ bLKP } } } bLKP = true ∧
    confOk withChan ((Chan.blank.withConf (List.replicate 32 0xFFFFFFFF)).resetState (rollNs withChan) 0) = false := by decide

/-! ### CrossingAndFlushCommands -/

/-- Channel 5 valid, and port 1 with a list of one express entry of 1 ms under Guhild. -/
def withExpress : State :=
  let s := { inService core9 with storeTrained := true }
  { s with core := { s.core with chans := [(5, (Chan.blank.withConf []).setF 0 31 31 1)] }
           lanes := [(1, { Lane.reset with mode := 3 }), (48, { Lane.reset with mode := 6 })]
           sched := { s.sched with ports := [(1, { PortSched.reset with gcl := some ⟨0, 0, 0, 65536000000, [2 ^ 55 + 65536000000]⟩ })] } }

theorem wit_CrossingAndFlushCommands : Taken 0x0606 spiCmd withExpress ∧ Taken 0x0607 spiCmd withExpress ∧
    Taken 0x0608 spiCmd withExpress ∧ rCore withExpress = true ∧ (chanOf withExpress 5).isSome = true ∧ isTrunk withExpress 48 = true ∧
    expressFits withExpress 1 0 1500 = true ∧ pauseForbids withExpress 1 0 = false ∧ pinnedCount withExpress < 2048 ∧
    withExpress.core.bookings.freeFrom 0 4096 = some 0 ∧ expressFits withExpress 2 0 1500 = false ∧
    0 + 1024 ≤ parN withExpress bLKP 0 Par.lkLlSize ∧ parN withExpress bLKP 0 Par.lkLlSize < 65536 + 1 ∧ rBuf withExpress = true ∧
    rBuf (inService [0]) = false ∧ rCore (inService [0]) = false ∧ withExpress.core.bookings.find 0 = none ∧
    pauseForbids { withExpress with params := withExpress.params.set (pid (bP 1) 0 Par.epFlowMode) 1 } 1 0 = true := by
  unfold Taken; decide
theorem wit_CrossingBooked :
    let s := { withExpress with core := { withExpress.core with bookings := [(0, ⟨5, 48, 1, 0, 1500⟩)] } }
    s.core.bookings.any (fun e => e.2.outPort == 1 && e.2.entry == 0) = true ∧ (s.core.bookings.find 0).isSome = true := by decide

/-! ### SchedCommands -/

/-- A list of one entry of 1 ms on port 1. -/
def listOne : GclArgs := ⟨1, 0, 0, 0, 65536000000, 1, 0, [65536000000]⟩

theorem wit_SchedCommands : rSched (inService core9) = true ∧ rSched (inService [0]) = false ∧
    Taken 0x0701 spiCmd (inService core9) ∧ Taken 0x0702 spiCmd (inService core9) ∧ Taken 0x0703 spiCmd (inService core9) ∧
    Taken 0x0704 spiCmd (inService core9) ∧ Taken 0x0705 spiCmd (inService core9) ∧ Taken 0x0706 spiCmd (inService core9) ∧
    gclOk ⟨0, 0, 0, 65536000000, [65536000000]⟩ = true ∧ gclOk ⟨0, 0, 0, 65536000000, [5]⟩ = false ∧
    bookingMoved (inService core9) 1 ⟨0, 0, 0, 65536000000, [65536000000]⟩ = false ∧ commitNames (inService core9) bSCHED = false ∧
    commitNames { inService core9 with keep := { (inService core9).keep with commit := some { otherCommit with mask := 2 ^ bSCHED } } } bSCHED = true ∧
    (slotOf (inService core9) 7).args.feed = 0 ∧ slotNext (inService core9) 7 = none ∧
    slotNext { inService core9 with sched := { Sched.reset with slots := [(7, { Slot.reset 7 with next := some 5 })] } } 7 = some 5 ∧
    Taken 0x0701 spiCmd (inService [0]) ∧ Taken 0x0706 spiCmd (inService [0]) := by
  unfold Taken; decide

/-! ### TunnelRows -/

/-- A tunnel trunk on port 48 and handle 0 open. -/
def withTunnel (heard : Bool) : State :=
  { inService core9 with params := [(pid (bP 48) 0 Par.dfTunnelEn, 1)], lanes := [(48, { Lane.reset with mode := 6 }), (0, { Lane.reset with mode := 3 })],
                         trunks := [(48, { Trunk.reset with link := .up })],
                         keep := { (inService core9).keep with handles := [(0, ⟨[48], [], [[1, 2]], heard⟩)] } }
/-- An envelope of one hop by port 48. -/
def oneHop : Envelope := ⟨1, false, 1, 0, [48]⟩

theorem wit_TunnelRows : Taken 0x0401 spiCmd (withTunnel false) ∧ Taken 0x0402 spiCmd (withTunnel false) ∧
    Taken 0x0301 spiCmd (withTunnel false) ∧ envelopeOk oneHop = true ∧ tunnelTrunk (withTunnel false) (oneHop.ports.getD 0 0) = true ∧
    (withTunnel false).keep.handles.freeFrom 0 16 = some 1 ∧ ((withTunnel false).keep.handles.find 0).isSome = true ∧
    (withTunnel true).keep.handles.find 0 = some ⟨[48], [], [[1, 2]], true⟩ ∧ (withTunnel true).keep.handles.find 1 = none ∧
    envelopeOk { oneHop with pathLen := 0, ports := [] } = false ∧ tunnelTrunk (inService core9) 48 = false ∧
    envelopeOk { oneHop with hopIndex := 1 } = true ∧
    isEdge (withTunnel false) 0 = true ∧ isEdge (withTunnel false) 48 = false := by
  unfold Taken; decide
theorem wit_TunnelFull : ({ (withTunnel true).keep with
    handles := (List.range 16).map (fun k => (k, (⟨[48], [], [], true⟩ : Handle))) } : Keep).handles.freeFrom 0 16 = none := by decide

/-! ### TicCommands -/

/-- A TIMESTAMP measurement on channel 0. -/
def stampOn0 : TicArgs := ⟨0, 1, 0, 1, 65536000, false, 0, 0, false⟩
/-- That measurement open. -/
def withMeas : State :=
  { inService core9 with tic := { Tic.reset with meas := [⟨spiCmd, stampOn0, [], 0, 0, none, 1⟩] } }

theorem wit_TicCommands : rTic (inService core9) = true ∧ rTic (inService [0]) = false ∧ Taken 0x0B01 spiCmd (inService core9) ∧
    Taken 0x0B02 spiCmd (inService core9) ∧ Taken 0x0B01 spiCmd (inService [0]) ∧ Taken 0x0B02 spiCmd (inService [0]) ∧
    stampOn0.stop = false ∧ ticArgsOk stampOn0 = true ∧ ticArgsOk { stampOn0 with mode := 3 } = false ∧ Taken 0x0B01 spiCmd withMeas ∧
    ((List.range 25).filter (fun c => (measMask stampOn0).testBit c)).any (fun c => (measOf (inService core9) c).isSome || encHolds (inService core9) c) = false ∧
    ((List.range 25).filter (fun c => (measMask stampOn0).testBit c)).any (fun c => (measOf withMeas c).isSome || encHolds withMeas c) = true ∧
    parN (inService core9) bTIC 0 Par.tcFifoReader ≠ 1 ∧
    parN { inService core9 with params := [(pid bTIC 0 Par.tcFifoReader, 1)] } bTIC 0 Par.tcFifoReader = 1 := by
  unfold Taken; decide

/-! ### ShaftCommands -/

/-- A record of a segment at rest at angle 0 that starts now. -/
def restRec : BitVec 288 := BitVec.ofNat 288 (10 * 2 ^ 24)
/-- A gear from shaft 3 to shaft 4 by 1. -/
def gear34 : GearArgs := ⟨4, 3, 1, 1, 0, true, 0, 0, 0⟩
/-- A marker event of shaft 3 at angle 0. -/
def markAt0 : SectorArgs := ⟨3, 4, 0, 0, 1, 0, 0, 0, 0, 0, 0, false, 0⟩

theorem wit_ShaftCommands :
    let s := withShaft (inService core9)
    rShaft s = true ∧ Taken 0x0C02 spiCmd s ∧ Taken 0x0C03 spiCmd s ∧ Taken 0x0C04 spiCmd s ∧ Taken 0x0C05 spiCmd s ∧ Taken 0x0C06 spiCmd s ∧
    (shaft s 3).source = 1 ∧ isMirror s 3 = false ∧ (shaft s 5).source ≠ 1 ∧ gearReaches s 5 3 4 = false ∧
    chainDepth s 5 3 + 1 + chainAbove s 5 4 ≤ 4 ∧ (shaft s 4).pend = none ∧ gearReaches s 5 3 3 = true ∧ targetOk s markAt0 = true ∧
    s.shaft.slots.freeFrom 0 8192 = some 0 ∧ s.shaft.slots.find 0 = none ∧ rShaft (inService [0]) = false ∧
    Taken 0x0C02 spiCmd (inService [0]) ∧ Taken 0x0C06 spiCmd (inService [0]) ∧
    isMirror { s with pair := { s.pair with state := some .standby } } 3 = true := by
  unfold Taken; decide +kernel
theorem wit_SegmentTaken : (acceptSeg 3 { restSeg with t0 := 65536, flags := 255 * 256 + 15 * 16 } false (withShaft (inService core9))).1 = .invalid ∧
    (acceptSeg 3 { restSeg with t0 := 65536, flags := 10 * 256 } false (withShaft (inService core9))).1 = .taken ∧
    (acceptSeg 3 restSeg false (withShaft (inService core9))).1 = .duplicate := by decide +kernel

/-! ### PairCommandRows -/

/-- An active unit of a pair that hears its partner in STANDBY, with PAIR as given. -/
def pairAs (f : Pair → Pair) : State :=
  let up : HbPath := { HbPath.none with silent := false, role := 2, paired := true }
  { inService core9 with pair := f { Pair.reset with started := true, state := some .active, hb := up, trunk := up }
                         hdrs := running (9 :: core9) }

theorem wit_ROLE_SET : Taken 0x0D01 spiCmd (inService core9) ∧ blkStopped (inService core9) bPAIR = true ∧
    Taken 0x0D01 spiCmd (pairAs id) ∧ blkStopped (pairAs id) bPAIR = false := by
  unfold Taken; decide
theorem wit_PairCommandRows : Taken 0x0D02 spiCmd (pairAs id) ∧ (pairAs id).pair.switching = none ∧ (pairAs id).pair.state = some .active ∧
    (pairAs id).pair.hb.silent = false ∧ (pairAs id).pair.trunk.role = 2 ∧ claimedOuts (pairAs id) = [] ∧
    claimedOuts { pairAs id with params := [(pid bCSYN 0x21 Par.ckPulseClaimed, 1)] } = [1] ∧
    (pairAs (fun p => { p with switching := some ⟨spiCmd, [1], false⟩ })).pair.switching = some ⟨spiCmd, [1], false⟩ ∧
    (pairAs (fun p => { p with state := some .standby })).pair.state ≠ some .active ∧
    Taken 0x0D02 spiCmd (pairAs (fun p => { p with state := some .standby })) ∧
    Taken 0x0D02 spiCmd (pairAs (fun p => { p with switching := some ⟨spiCmd, [1], false⟩ })) ∧
    (pairAs (fun p => { p with takeover := some 5 })).pair.takeover = some 5 ∧
    (pairAs (fun p => { p with hb := HbPath.none })).pair.hb.silent = true ∧
    pulsePin (pairAs id) 1 ≠ some true ∧ partnerDrives (pairAs id) = false ∧ partnerFailed (pairAs id) = false ∧
    partnerDrives (pairAs (fun p => { p with hb := { p.hb with role := 1 }, hbBits := 8 })) = true ∧
    partnerFailed (pairAs (fun p => { p with hb := { p.hb with fatal := true } })) = true ∧
    partnerDrives (pairAs (fun p => { p with hb := { p.hb with fatal := true } })) = false := by
  unfold Taken; decide

/-! ### PairRows -/

/-- A heartbeat message under PAIR_ID 1. -/
def hbSample : List Byte :=
  let l : List Byte := [0x11, 1, 0, 5, 0, 0, 0, 0, 0, 0, 0, 0, 0, 0]
  l ++ bytesBE 2 (hbCrc l)

theorem wit_PairRows : (pairAs id).pair.started = true ∧ (pairAs id).boot.phase = .started ∧ blkRun (pairAs id) bPAIR = true ∧
    hbSample.length = 16 ∧ beAt hbSample 0 1 / 16 = 1 ∧ beAt hbSample 1 1 = pairPar (pairAs id) Par.prPairId ∧
    beAt hbSample 1 1 ≠ pairPar { pairAs id with params := [(pid bPAIR 0 Par.prPairId, 9)] } Par.prPairId ∧
    (pairAs id).pair.trunk.silent = false ∧ (pairAs id).pair.hb.silent = false ∧ mayBeActive (pairAs id) = true ∧
    blkRun (inService core9) bPAIR = false ∧ (inService core9).pair.started = false ∧
    mayBeActive { pairAs id with params := [(pid bPAIR 0 Par.prHoldStandby, 1)] } = false ∧
    grantConds (pairAs (fun p => { p with testing := true, conflict := true, epoch := 9 })) = true ∧
    grantConds (pairAs (fun p => { p with fatal := true })) = false ∧ pairPar { pairAs id with params := [(pid bPAIR 0 Par.prActCheck, 0)] } Par.prActCheck = 0 := by decide
theorem wit_HB_CRC : hbCrc hbSample = beAt hbSample 14 2 := by decide +kernel
theorem wit_PATH_SILENT :
    let s := pairAs (fun p => { p with state := some .standby, hb := { p.hb with silent := true } })
    let t := pathFaults (report bPAIR 0x03 [1, 0] { s with pair := { s.pair with trunk := { s.pair.trunk with silent := true, wrongId := false } } })
    t.pair.hb.silent = true ∧ t.pair.trunk.silent = true ∧ t.pair.state = some .standby ∧ mayBeActive t = true := by decide +kernel

/-! ### TransportRows -/

/-- The device in service with HOST as given. -/
def hostAs (f : HostIf → HostIf) : State :=
  let s := inService core9
  { s with host := f { s.host with en := true } }

theorem wit_TransportRows : (hostAs id).boot.phase ≠ .heldInReset ∧ (hostAs id).host.en = true ∧ 3 < ringSize (hostAs id).host.cmdLog2 ∧
    ringSize (hostAs id).host.cmdLog2 ≤ 5000 ∧ spanOk (hostAs id).host.cplLog2 (hostAs id).host.cplHead (hostAs id).host.cplTail 0 = true ∧
    spanOk (hostAs id).host.cplLog2 (hostAs id).host.cplHead (hostAs id).host.cplTail 1 = false ∧
    evtFull { (hostAs (fun h => { h with ringLost := true })) with host := { (hostAs (fun h => { h with ringLost := true })).host with evtHead := 0 } } = false ∧
    keeperUp (hostAs id) = true ∧ (hostAs id).host.pcieUp = true ∧ (hostAs (fun h => { h with doorbell := 1 })).host.doorbell ≠ 0 ∧
    cplFull (hostAs id) = false ∧ (hostAs id).host.owed = [] ∧ (hostAs id).hlth.bist.find bHOST = none ∧ spiUp (hostAs id) = true ∧
    spiFull (hostAs id) = false ∧ (List.replicate 16 (0 : Byte)).length = pktTotal (List.replicate 16 0) ∧ rHostSpi (hostAs id) = true ∧
    (0x80000000 : Word).toNat.testBit 31 = true := by decide
theorem wit_INBAND :
    let s := { hostAs id with params := [(pid bKEEP 0 Par.efInbandPortsLo, 2), (pid bKEEP 0 Par.efMgmtMac, 0x5A56)] }
    0x5A56 = parN s bKEEP 0 Par.efMgmtMac ∧ inbandPort s 1 = true ∧ inbandPort s 0 = false := by decide
theorem wit_EVT_MOD : (hdr (setHdr 3 { Hdr.reset with evtTimer := true, evtHeld := true } (hostAs id)) 3).evtTimer = true ∧
    (hdr (setHdr 3 { Hdr.reset with evtTimer := true } (hostAs id)) 3).evtHeld = false := by decide

/-! ### FaultCommands -/

/-- The device in service with the alive signal stopped, and TEST_UNLOCK given. -/
def stopped (nmi : Option (Nat × Nat)) : State :=
  { inService core9 with
    iso := { (inService core9).iso with running := false }
    host := { (inService core9).host with nmi := nmi }
    boot := { (inService core9).boot with straps := { (inService core9).boot.straps with testMode := true } }
    keep := { (inService core9).keep with testUnlocked := true } }

theorem wit_FaultCommands : Taken 0x0E01 spiCmd (inService core9) ∧ Taken 0x0E02 spiCmd (inService core9) ∧
    Taken 0x0E03 spiCmd (inService core9) ∧ Taken 0x0E04 spiCmd (stopped none) ∧ Taken 0x0E04 spiCmd (stopped (some (1, 0))) ∧
    Taken 0x0E05 spiCmd (stopped none) ∧ Taken 0x0E05 spiCmd (inService core9) ∧ Taken 0x0F04 spiCmd (stopped none) ∧
    faultRow 1 (faultMode (inService core9) 1) 0 ≠ none ∧ hasSource (stopped none) 1 0 = true ∧
    (∀ x < nBlocks, (hdr (stopped none) x).stopFlag = false) ∧ (stopped none).pair.fatal = false ∧
    (inService core9).keep.testUnlocked = false ∧ (inService core9).boot.straps.testMode = false := by
  unfold Taken; decide

theorem wit_ALIVE_RESUME_running :
    ({ stopped none with iso := { (stopped none).iso with running := true } } : State).iso.running = true := rfl

/-! ### SelfTestAndSpareCommands -/

/-- The device in service with lane 5 in mode 3 and its quad running. -/
def withLane : State :=
  { inService (core9 ++ [0x11]) with lanes := [(5, { Lane.reset with mode := 3 })] }

/-- The same with a spare pair ready. -/
def withPair : State := { inService core9 with keep := { (inService core9).keep with spareReady := true } }

theorem wit_BIST : Taken 0x0F01 spiCmd (inService core9) ∧ unitOk bBUF 256 = true ∧ hlthServes (inService core9) = true ∧
    rHlth (inService core9) = true ∧ hlthServes (inService [0]) = false ∧ rHlth (inService [0]) = false ∧ Taken 0x0F01 spiCmd (inService [0]) ∧
    Taken 0x0F02 spiCmd (inService [0]) ∧ Taken 0x0F03 spiCmd (inService [0]) ∧ isolated (inService core9) bBUF 256 = true ∧
    isolated (inService core9) bBUF 0 = false ∧
    (govRequest (.bistSlice bBUF) (testBegun bBUF 256 false (inService core9))).1 = .queued := by
  unfold Taken; decide

theorem wit_SPARE_SWAP_bank : Taken 0x0F02 spiCmd (inService core9) ∧ rBuf (inService core9) = true ∧
    bankState (inService core9) 255 = 0 ∧ (inService core9).buf.drain = none := by
  unfold Taken; decide

theorem wit_SPARE_SWAP_spare : spareBank (inService core9) = some 256 ∧
    spareBank { inService core9 with buf := { (inService core9).buf with
      banks := (List.range 272).map (fun i => (i, 4)) } } = none := by decide +kernel

/-- A governor whose queue is full. -/
def fullQueue : State :=
  { inService core9 with hlth := { (inService core9).hlth with gov := { (inService core9).hlth.gov with
    queue := List.replicate 64 ⟨0, .tableLoad, 2, 11, 800, 0, false, false, false, false⟩ } } }

theorem wit_BIST_full : (govRequest (.bistSlice bBUF) (testBegun bBUF 256 false fullQueue)).1 = .full := by decide +kernel

theorem wit_SPARE_SWAP_lane : Taken 0x0F02 spiCmd withLane ∧ unitClass 0x11 1 = some 0 ∧ blkRun withLane 0x11 = true ∧
    (lane withLane 5).mode = 3 ∧ (lane withLane 5).adapt = .none ∧ (lane withLane 5).spare = .idle ∧
    underTest withLane 0x11 1 = false ∧ (lane withLane 5).retired = none ∧
    (govRequest (.spareTrain 5) withLane).1 = .queued := by
  unfold Taken; decide

theorem wit_SPARE_SWAP_pair : Taken 0x0F02 spiCmd withPair ∧ withPair.keep.spareReady = true ∧
    withPair.keep.spareRetired = false ∧ withPair.keep.pair = 0 ∧ (inService core9).keep.spareReady = false ∧
    Taken 0x0F03 spiCmd (inService core9) := by
  unfold Taken; decide

/-! ### CounterAndRingCommands -/

/-- The device in service with Store trained. -/
def withStore : State := { inService core9 with storeTrained := true }

theorem wit_CounterAndRingCommands : Taken 0x1001 spiCmd (inService core9) ∧ Taken 0x1002 spiCmd (inService core9) ∧
    Taken 0x1001 spiCmd (inService [0]) ∧ Taken 0x1002 spiCmd (inService [0]) ∧ rTrace (inService core9) = true ∧ rTrace (inService [0]) = false ∧
    Taken 0x1004 spiCmd withStore ∧ Taken 0x1005 spiCmd withStore ∧ Taken 0x1004 spiCmd (inService core9) ∧
    Taken 0x1005 spiCmd (inService core9) ∧ rTrace withStore = true ∧
    rStore withStore = true ∧ rBuf withStore = true ∧ rStore (inService core9) = false ∧ 0 < pcntCount bBUF ∧
    pcntOk bBUF (2 ^ 31 + 0xFFFF) 0 = false := by
  unfold Taken; decide

/-! ### StartRows -/

/-- Straps of all zeros. -/
def strapsZero : Straps := Boot.reset.straps
/-- A device whose start has begun. -/
def startedAs (f : Boot → Boot) : State := { State.reset with boot := f { Boot.reset with phase := .started } }

theorem wit_StartRows : State.reset.boot.phase = .heldInReset ∧ State.reset.boot.jtagHold = false ∧ strapsZero.bootSrc % 4 < 2 ∧
    (startedAs id).boot.phase = .started ∧ (hdr (startedAs id) bCSYN).state = .off ∧ (startedAs id).boot.calRead = false ∧
    (startedAs id).keep.cmdService = false ∧ (startedAs id).boot.bootOk = false ∧ reqMet (inService core9) = true ∧
    rKeepCmd (inService core9) = true ∧ (startedAs (fun b => { b with bootOk := true })).boot.bootOk = true ∧
    (hdr (inService core9) bCSYN).state ≠ .off := by decide
theorem wit_RELEASE_ATTEMPTS : (autoRun bBOOT (autoRun bKEEP (modHdr bHOST (fun h => { h with state := .run })
    (modKeep (fun k => { k with spareReady := decide (3 ≤ 3) && !k.spareRetired }) (recallAttempts true State.reset))))).aon.attempts < 3 := by
  decide +kernel
theorem wit_NO_SLOT : (startedAs id).boot.order.find? (fun k => slotValid (startedAs id).flash k) = none := by decide

/-! ### ResetRows -/

theorem wit_ResetRows : (inService core9).boot.phase ≠ .heldInReset ∧ (inService core9).boot.supplyFall = false ∧
    (startedAs (fun b => { b with supplyFall := true, resetDue := true })).boot.supplyFall = true ∧
    (startedAs (fun b => { b with supplyFall := true, resetDue := true })).boot.resetDue = true ∧
    (inService core9).host.pcieUp = true ∧ State.reset.host.pcieUp = false ∧ (startedAs id).host.perstLow = false ∧
    (startedAs id).boot.phase ≠ .heldInReset ∧
    (hdr (setHdr 4 { Hdr.reset with state := .init } (startedAs id)) 4).state = .init := by decide

/-! ### TrunkLinkRows -/

/-- Port 48 a running trunk, as given. -/
def trunkAs (f : Trunk → Trunk) : State :=
  let s := inService core9
  { s with lanes := [(48, { Lane.reset with mode := 6, cdrLock := true })]
           hdrs := running [0, 1, 2, 3, 4, 5, 6, 7, 8, 0xA, 0xB, 0xC, 0xD, 0xE, 0xF, 0x10 + 12, 0x20 + 48]
           trunks := [(48, f Trunk.reset)] }

theorem wit_TrunkLinkRows :
    let al := trunkAs (fun t => { t with link := .aligned, adaptDone := true, rx := { t.rx with clean := 1024, alarm := 2 ^ 58 } })
    isTrunk (trunkAs id) 48 = true ∧ blkRun (trunkAs id) (bP 48) = true ∧ (trunk (trunkAs id) 48).link = .down ∧
    parN (trunkAs id) (bP 48) 0 Par.dfLinkAdmin ≠ 1 ∧
    parN { trunkAs id with params := [(pid (bP 48) 0 Par.dfLinkAdmin, 1)] } (bP 48) 0 Par.dfLinkAdmin = 1 ∧
    (lane (trunkAs id) 48).cdrLock = true ∧ (trunk (trunkAs (fun t => { t with link := .locking })) 48).link = .locking ∧
    (trunk al 48).link = .aligned ∧ (trunk al 48).txTrained = false ∧ (trunk al 48).adaptDone = true ∧ (trunk al 48).rx.clean = 1024 ∧
    2 ≤ (trunk al 48).rx.alarm / 2 ^ 57 % 8 ∧
    parN { al with params := [(pid (bP 48) 0 Par.dfTxTrain, 0)] } (bP 48) 0 Par.dfTxTrain = 0 ∧
    64 ≤ (trunk (trunkAs (fun t => { t with time := { t.time with lost := 64 } })) 48).time.lost ∧
    (trunk (trunkAs (fun t => { t with link := .timed, flushed := true, rx := { t.rx with alarm := 4 * 2 ^ 57 } })) 48).flushed = true ∧
    (quad (trunkAs id) 12).filterOff = false ∧ timeCheck (trunkAs id) 48 = false ∧
    (trunk (trunkAs (fun t => { t with time := { t.time with winEx := [(0, 0, 0)], win := { t.time.win with log2 := 0 } } })) 48).time.winEx.length = 1 := by decide
theorem wit_SIGNAL_DETECTED :
    let w (x : Bool) := { trunkAs id with
      params := [(pid (bP 48) 0 Par.dfLinkAdmin, 1)]
      lanes := [(48, { Lane.reset with mode := 6, cdrLock := true, sigDet := true, bgAdapt := x })] }
    let u (x : Bool) := setLink 48 .locking (modTrunk 48 (fun t =>
      { t with adaptDone := x, txTrained := false, rx := { t.rx with commas := 0, lastSlot := none } }) (w x))
    portLocking (u true) 48 = true ∧ laneAdapted (u true) 48 = true ∧
    portLocking (u false) 48 = true ∧ laneAdapted (u false) 48 = false ∧
    portLocking (trunkAs (fun t => { t with link := .up })) 48 = false := by decide +kernel
theorem wit_TIME_CHECK_PASSED :
    let s := trunkAs (fun t => { t with link := .trained, rx := { t.rx with alarm := 2 ^ 54 + 3 * 2 ^ 57 }, time := { t.time with run := List.replicate 64 0 } })
    let s := { s with lanes := [(48, { Lane.reset with mode := 6, latValid := true })], params := [(pid (bP 48) 0 Par.dfTimedExchanges, 64)] }
    let t := presence 48 (setLink 48 .timed (report (bP 48) 0x41 [1, 0] (setTrunk 48 { trunk s 48 with time := { (trunk s 48).time with timeOk := true, stepRun := 0 } } s)))
    timeCheck s 48 = true ∧ (trunk t 48).link = .timed := by decide +kernel

/-! ### TrunkBlockRows -/

/-- The line bits after the comma of a block of IDLE words in slot 0 of superblock 5. -/
def idleBlock : List Bool := (buildBlock 0 5 0 (List.replicate 28 idleWord)).drop 32

theorem wit_TrunkBlockRows : blkRun (trunkAs id) (bP 48) = true ∧ isTrunk (trunkAs id) 48 = true ∧ isTrunk { trunkAs id with lanes := [(0, { Lane.reset with mode := 3 })] } 0 = false ∧
    2 ≤ (trunk (trunkAs (fun t => { t with link := .up })) 48).link.code ∧ (trunk (trunkAs id) 48).rx.lastSlot = none ∧
    (lane { trunkAs id with lanes := [(48, { Lane.reset with mode := 6, squelched := false })] } 48).squelched = false ∧
    (trunk (trunkAs (fun t => { t with rx := { t.rx with lastSlot := some 5 } })) 48).rx.lastSlot = some 5 ∧
    (trunk (trunkAs (fun t => { t with tx := { t.tx with slot := 3 } })) 48).tx.slot = 3 := by decide
theorem wit_BLOCK : readHeader (natMsb (idleBlock.take 16)) = some (0, 5) ∧ (destuff 1928 idleBlock 0 none).2 = false ∧
    (destuff 1928 (List.replicate 2000 false) 0 none).2 = true ∧ readHeader (natMsb (List.replicate 16 true)) = none := by decide +kernel

/-! ### LineCodeRoundTrip -/

theorem wit_LineCodeRoundTrip : (0 : Nat) < 16 ∧ (5 : Nat) < 256 ∧ (0 : Nat) < 2 ^ 64 ∧ (List.replicate 28 idleWord).length = 28 := by decide

/-! ### EdgeLinkRows -/

/-- Port 1 a running 10G edge port, as given. -/
def edgeAs (f : Edge → Edge) : State :=
  { inService core9 with lanes := [(1, { Lane.reset with mode := 3 })], edges := [(1, f Edge.reset)] }

theorem wit_EdgeLinkRows : isEdge (edgeAs id) 1 = true ∧
    (edge (edgeAs (fun e => { e with link := .locking, adaptDone := true })) 1).link = .locking ∧ anOk (edgeAs id) 1 0 = true ∧
    anRuns (edgeAs id) 1 = false ∧
    anRuns { edgeAs id with lanes := [(1, { Lane.reset with mode := 1 })], params := [(pid (bP 1) 0 Par.epAnEn, 1)] } 1 = true ∧
    (edge (edgeAs (fun e => { e with link := .holdoff, flushed := true })) 1).flushed = true ∧
    (portLanes { edgeAs id with lanes := [(1, { Lane.reset with mode := 3, wordLock := true })] } 1).all
      (fun l => (lane { edgeAs id with lanes := [(1, { Lane.reset with mode := 3, wordLock := true })] } l).wordLock) = true ∧
    (edge { edgeAs id with ticks := 10 ^ 9 } 1).holdFrom + parN { edgeAs id with ticks := 10 ^ 9 } (bP 1) 0 Par.epHoldoff * 625000 ≤ 10 ^ 9 ∧
    pauseDue { edgeAs (fun e => { e with link := .up, due := 1 }) with params := [(pid (bP 1) 0 Par.epFlowMode, 2)] } 1 = true ∧
    (portSched (edgeAs id) 1).tx = none ∧ ptpRole (edgeAs id) 1 ≠ 1 ∧
    ptpRole { edgeAs id with params := [(pid (bP 1) 0 Par.epPtpRole, 1)] } 1 = 1 ∧
    (edge (edgeAs (fun e => { e with link := .up, filter := true, due := 1, asserted := 1, paused := [(3, 7)] })) 1).link ≠ .down ∧
    3 ≤ portMode (edgeAs id) 1 ∧ (quad (edgeAs id) 0).filterOff = false ∧ (edge (edgeAs id) 1).link = .down ∧
    (edge (edgeAs (fun e => { e with paused := [(3, 7)] })) 1).paused.find 3 ≠ none ∧
    parN { edgeAs id with params := [(pid (bP 1) 0 Par.epFlowMode, 2)] } (bP 1) 0 Par.epFlowMode ≠ 0 := by decide

/-! ### ClockLoopRows -/

/-- The device in service with the clocks as given. -/
def clkAs (f : Clk → Clk) : State :=
  { inService core9 with clk := f { (inService core9).clk with lockB := true, storeLock := true, pcieLock := true, auxLock0 := true, auxLock1 := true } }

theorem wit_TIME_PLL : timeLocked (clkAs id) 0 = true ∧ timeLocked (clkAs id) 1 = true ∧
    (timeSwapFails (beginCause bCSYN 1 (modClk (fun c => { c with lockA := false, relockA := true }) (clkAs id)))).clk.timeServing = 0 ∧
    (timeSwapFails (beginCause bCSYN 2 (modClk (fun c => { c with lockB := false, relockB := true }) (clkAs id)))).clk.timeServing ≠ 1 ∧
    timeLocked (timeSwapFails (beginCause bCSYN 1 (modClk (fun c => { c with lockA := false, relockA := true }) (clkAs id)))) 1 = true ∧
    timeLocked (clkAs (fun c => { c with lockA := false, lockB := false })) 0 = false := by decide +kernel

theorem wit_ClockLoopRows : csynRuns (clkAs id) = true ∧ (clkAs (fun c => { c with relockA := true })).clk.relockA = true ∧
    timeLocked (clkAs (fun c => { c with lockB := false })) 1 = false ∧ (clkAs id).clk.coreLock = true ∧
    parN (modClk (fun c => { c with coreLock := true }) (clkAs id)) bCSYN 0xF0 Par.ckCoreReturn = 0 ∧
    (clkAs id).clk.storeLock = true ∧ (clkAs id).clk.pcieLock = true ∧ (hdr (clkAs id) bSTORE).state ≠ .off ∧
    (clkAs id).clk.csynStopped = false ∧ withStore.storeTrained = true ∧ (clkAs id).clk.auxLock0 = true ∧
    (clkAs id).clk.auxLock1 = true := by decide

theorem wit_TIME_PLL_SWAPPED :
    govGranted { clkAs (fun c => { c with swapReq := true }) with hlth := { Hlth.reset with gov := { Hlth.reset.gov with
      grants := [⟨0, .timePllSwap, 1, 4, 50, 300, true, true, false, false⟩] } } } .timePllSwap = true := by decide

/-! ### SpareSliceSequence -/

theorem wit_SpareSliceSequence : (lane (laneAs (fun x => { x with spare := .training })) 5).spare = .training ∧
    (let t := govEnd (.spareTrain 5) (laneAs id); parN t (bQ 1) 1 Par.lnSpareFomMin ≤ (runAdapt none 0 (runAs 20 32)).2.2 ∧
      (runAdapt none 0 (runAs 20 0)).2.2 < parN t (bQ 1) 1 Par.lnSpareFomMin) ∧
    (lane (laneAs (fun x => { x with spare := .comparing })) 5).spare = .comparing ∧
    (lane (laneAs (fun x => { x with spare := .armed })) 5).spare ≠ .idle ∧
    (lane (laneAs (fun x => { x with cdrLock := true, fomLow := 9, txSpare := 4 })) 5).fomLow = 9 ∧
    eyeFom ⟨0, 16, 65536⟩ < parN (laneAs id) (bQ 1) 1 Par.lnFomWarn ∧ parN (laneAs id) (bQ 1) 1 Par.lnFomWarn ≤ eyeFom ⟨32, 16, 65536⟩ ∧
    (lane (laneAs id) 5).mode ≠ 0 ∧ (lane (laneAs id) 5).txSpare < 4 := by decide

/-! ### QuadPllRows -/

/-- The device in service with lane 5 in mode 3 and quad 1 paired, its PLLs as given. -/
def quadAs (f : Quad → Quad) : State :=
  { laneAs (fun x => { x with cdrLock := true }) with
    quads := [(1, f { Quad.reset with planA := 2, planB := 2, paired := true, lockA := true, lockB := true, ready := true })] }

theorem wit_QUAD_PLL_UNLOCK : pllLocked (quadAs id) 1 0 = true ∧
    (quad (raise 0x11 0 (modQuad 1 (fun x => { x with lockA := false }) (quadAs id))) 1).serving = 0 ∧
    (quad (raise 0x11 1 (modQuad 1 (fun x => { x with lockB := false }) (quadAs id))) 1).serving = 1 - 1 ∧
    hasServing (raise 0x11 1 (modQuad 1 (fun x => { x with lockB := false }) (quadAs id))) 1 = true ∧
    pllLocked (bistYield 0x11 9 (raise 0x11 0 (modQuad 1 (fun x => { x with lockA := false }) (quadAs id)))) 1 1 = true := by
  decide +kernel

theorem wit_QuadPllRows : (quad (quadAs (fun x => { x with failBusy := true })) 1).failBusy = true ∧
    blkRun (quadAs id) 0x11 = true ∧
    (quad (quadAs (fun x => { x with lockA := false })) 1).lockA = false ∧
    (quad (quadAs (fun x => { x with lockA := false })) 1).lockB = true ∧
    allServing (modQuad 1 (fun x => { x with lockA := true }) (quadAs (fun x => { x with lockA := false, serving := 1 }))) 1 = true ∧
    (lane (quadAs (fun x => { x with lockA := false })) 5).mode ≠ 0 ∧
    pllLocked (quadAs (fun x => { x with lockA := false })) 1 (lanePll (quadAs (fun x => { x with lockA := false })) 5) = false ∧
    allServing (quadAs id) 1 = true ∧ hasServing (quadAs id) 1 = true := by decide

/-! ### ReferenceRows -/

/-- The device in service with REF_IN 2 a candidate as given, and the main selector on it. -/
def refAs (f : Cand → Cand) (g : Selector → Selector) : State :=
  { inService core9 with
    refs := { Refs.reset with
      cands := [(2, f { Cand.reset with present := true, state := .qualified, edge := some 0, near := 1 })]
      sels := [(0, g { Selector.reset with sel := 2 })]
      valid := true }
    guh := { Guh.reset with state := .locked }
    params := [(pid bREFS 2 Par.rfRefQl, 0x10), (pid bREFS 2 Par.rfSelMask, 1)] }

/-- The same with two edges of 1 Hz marked one second apart. -/
def refitAs : State :=
  let s := refAs id id
  { s with
    ticks := 10 ^ 9
    params := (pid bREFS 2 Par.rfRefType, 1) :: s.params
    tic := { s.tic with mons := [(2, { Mon.reset with count := 2, marks := [(2, 131072000000000), (1, 65536000000000)] })] } }

theorem wit_REFIT_due : (5 * dueOf refitAs (65536 * 0 + 0) - refitAs.c5).toNat / 524288 = 0 := by decide

theorem wit_REFIT_now : passTo (dueOf refitAs (65536 * 0 + 0)) refitAs = refitAs := by
  unfold passTo; rw [wit_REFIT_due]; unfold passTicks; exact if_pos rfl

theorem wit_REFIT : rRefs refitAs = true ∧ measure refitAs 2 = some 0 ∧ measure (refAs id id) 2 = none ∧ (cand refitAs 2).present = true ∧ (cand refitAs 2).state ≠ .off := by
  decide +kernel

theorem wit_ReferenceRows : rRefs (refAs id id) = true ∧ (cand (refAs id id) 2).state ≠ .off ∧ (cand (refAs id id) 3).edge = none ∧
    candPar (refAs id id) 2 Par.rfRefType = 0 ∧
    withinLoss (refAs (fun x => { x with present := false }) id) 2 (9 * 6553600000000) = true ∧
    dueOf (refAs id id) 65536 = 65536 ∧ candExists 0x20 = true ∧ portPresent (refAs id id) 0x20 = false ∧
    candGood (refAs id id) 2 = true ∧ eligibles (refAs (fun x => { x with state := .off }) id) 0 = [] ∧
    eligibles (refAs id id) 1 = [] ∧ (selOf (refAs id id) 0).sel ≠ 0xFF ∧ (refAs id id).guh.refTime = false ∧
    moorRecords (refAs id id) = true ∧ (selOf (refAs id id) 0).hold = false ∧ Taken 0x0902 spiCmd (refAs id id) ∧
    eligible (refAs id id) 0 2 = true ∧ eligible (refAs id id) 0 3 = false ∧
    (selOf (refAs id (fun x => { x with force := some 2 })) 0).force.isSome = true := by
  unfold Taken; decide

/-- An edge port present as a SyncE candidate. -/
def synceAs : State :=
  { refAs id id with
    lanes := [(0, { Lane.reset with mode := 3 })]
    edges := [(0, { Edge.reset with link := .up })]
    params := [(pid (bP 0) 0 Par.epSynceRx, 1)] }

theorem wit_PRESENCE : portPresent synceAs 0x20 = true ∧ (cand synceAs 0x20).present = false ∧ rRefs synceAs = true := by
  decide

/-! ### OutputRows -/

/-- The device in service with clock output 3 and pulse output 2 as given. -/
def outAs (f : ClkOut → ClkOut) (g : PulseOut → PulseOut) (m : List (Nat × Armed)) : State :=
  { inService core9 with
    clk := { (inService core9).clk with outs := [(3, f { ClkOut.reset with mode := 1 })], pulses := [(2, g PulseOut.reset)] }
    guh := { Guh.reset with cmps := m } }

theorem wit_OUT : (clkOut (outAs (fun c => { c with pending := 2 }) id []) 3).pending = 2 ∧
    restartDue (outAs (fun c => { c with pending := 2 }) id []) 3 = false ∧ clockRuns (outAs (fun c => { c with pending := 2, stopped := false }) id []) 3 = true ∧
    restartDue (outAs (fun c => { c with pending := 10 ^ 12 }) id []) 3 = true ∧
    alignOf (outAs (fun c => { c with align := 12 }) id []) 3 = 12 ∧ 0 ≤ alignWindow (outAs id id []) 3 ∧
    (clkOut (setAlignLost 3 false (outAs (fun c => { c with align := 12 }) id [])) 3).mode = 1 ∧
    alignOf (outAs id (fun p => { p with set := { p.set with align := 1 } }) []) 0x22 = 1 ∧
    Taken 0x0A02 spiCmd (outAs id id []) ∧ rTimePll (outAs id id []) = true ∧ rTimePll (inService [0]) = false ∧
    Taken 0x0A02 spiCmd (inService [0]) := by
  unfold Taken; decide

theorem wit_PULSE_EDGE : ((fireCmp 30 (outAs id id [(30, ⟨0, 0, false, 0⟩)])).1).isSome = true ∧
    (pulse (fireCmp 30 (outAs id id [(30, ⟨0, 0, false, 0⟩)])).2 2).high = false ∧
    (pulse (fireCmp 30 (outAs id (fun p => { p with high := true }) [(30, ⟨0, 0, false, 0⟩)])).2 2).high = true ∧
    genOut (outAs (fun c => { c with gen := some 0 }) id [(52, ⟨0, 0, false, 0⟩)]) 0 = some 3 ∧
    (clkOut (fireCmp 52 (outAs (fun c => { c with gen := some 0 }) id [(52, ⟨0, 0, false, 0⟩)])).2 3).high = false := by
  decide +kernel

theorem wit_DLL_SWAPPED : govGranted { outAs id id [] with hlth := { Hlth.reset with gov := { Hlth.reset.gov with
      grants := [⟨0, .lineSwap 3, 1, 4, 0, 50, false, true, false, false⟩] } } } (.lineSwap 3) = true ∧
    (clkOut (outAs id id []) 3).onSpare = false := by decide

/-- Oscillator B declared, `o` in use. -/
def oscAs (o : Nat) (a b : Bool) : State :=
  { inService core9 with
    clk := { (inService core9).clk with osc := o, oscOkA := a, oscOkB := b }
    params := [(pid bCSYN 0xF0 Par.ckOscBFreq, 25)] }

theorem wit_OSC : oscActive (oscAs 0 true true) 0 = true ∧
    oscActive (raise bCSYN 0 (modClk (fun c => { c with oscOkA := false }) (oscAs 0 true true))) 1 = true ∧
    oscActive (oscAs 1 false true) 1 = true ∧ oscActive (oscAs 1 false true) 0 = false ∧
    parN (oscAs 1 false true) bCSYN 0xF0 Par.ckOscPref = 0 := by decide +kernel

/-! ### TimeRows -/

/-- The device in service with Guhild as given and REF_IN 2 selected. -/
def guhAs (f : Guh → Guh) : State :=
  { inService core9 with guh := f { Guh.reset with refTime := true, refId := 2, refQl := 0x10 } }

theorem wit_GUH_SAMPLE : rGuhRun (guhAs id) = true ∧ (guhAs id).guh.state = .free ∧ stepAllowed (guhAs id) 100 = true ∧
    stepAllowed (guhAs (fun g => { g with protect := true })) (10 ^ 18) = false ∧
    (guhAs (fun g => { g with state := .locked })).guh.state = .locked ∧
    |(1 : Int)| ≤ par (guhAs id) bGUH 0 Par.gtStepDetect ∧
    par (guhAs id) bGUH 0 Par.gtStepDetect < |(10 ^ 18 : Int)| ∧
    (guhAs (fun g => { g with state := .locked, held := some 5 })).guh.held ≠ none := by decide

theorem wit_TimeRows : Taken 0x0801 spiCmd (inService core9) ∧ Taken 0x0802 spiCmd (inService core9) ∧
    Taken 0x0803 spiCmd (guhAs (fun g => { g with state := .refused })) ∧ Taken 0x0805 spiCmd (inService core9) ∧
    Taken 0x0801 spiCmd (inService [0]) ∧ Taken 0x0805 spiCmd (inService [0]) ∧ Taken 0x0802 spiCmd (guhAs id) ∧
    mayTouchTime (inService core9) = true ∧ mayTouchTime (guhAs id) = false ∧ rGuhRun (inService [0]) = false ∧
    stepAllowed (inService core9) 0 = true ∧ (inService core9).guh.adjust = none ∧ 0 < nsAhead (inService core9) 65536 ∧
    parN { inService core9 with params := [(pid bGUH 0 Par.gtLeap, 1)] } bGUH 0 Par.gtLeap = 1 := by
  unfold Taken; decide

/-! ### RegisterRows -/

/-- The device in service with the header of block 6 as given. -/
def hdrAs (f : Hdr → Hdr) : State :=
  { inService core9 with hdrs := (inService core9).hdrs.set 6 (f { Hdr.reset with state := .run }) }

theorem wit_RegisterRows : (hdrAs id).boot.phase ≠ .heldInReset ∧
    clrMask 32 (hdr (hdrAs (fun h => { h with fltStatus := 3, causeActive := 1 })) 6).fltStatus (clrMask 32 3 1) ≠ 0 ∧
    clrMask 32 (hdr (hdrAs (fun h => { h with fltStatus := 3 })) 6).fltStatus (clrMask 32 3 0) = 0 ∧
    (hdr (modHdr 6 (fun x => { x with intStatus := clrMask 32 x.intStatus 1 })
      (hdrAs (fun h => { h with intStatus := 3, intEnable := 2 }))) 6).pending = true ∧
    (hdr (modHdr 6 (fun x => { x with intStatus := clrMask 32 x.intStatus 3 })
      (hdrAs (fun h => { h with intStatus := 3, intEnable := 2 }))) 6).pending = false ∧
    (hdr (modHdr 6 (fun x => { x with intEnable := 1 }) (hdrAs (fun h => { h with intStatus := 3 }))) 6).pending = true ∧
    0 < pcntCount 6 ∧ (hdr (hdrAs id) bGUH).state ≠ .off ∧ stateView (hdrAs id) bSHAFT ≠ .off ∧
    (stopped (some (1, 0))).host.nmi = some (1, 0) ∧ (hdr (stopped (some (1, 0))) 1).causeActive.testBit 0 = false := by
  decide

theorem wit_NMI_held : (hdr { stopped (some (6, 0)) with hdrs := (hdrAs (fun h => { h with causeActive := 1 })).hdrs } 6).causeActive.testBit 0
    = true := by decide

/-! ### PtpRows -/

/-- Port 1 in UP with a role in PTP. -/
def ptpAs (role : Int) (f : Edge → Edge) : State :=
  { edgeAs (fun e => f { e with link := .up }) with params := [(pid (bP 1) 0 Par.epPtpRole, role)] }

theorem wit_PtpRows : isEdge (ptpAs 1 id) 1 = true ∧ (edge (ptpAs 1 id) 1).link = .up ∧ rGuhRun (ptpAs 1 id) = true ∧
    ptpRole (ptpAs 1 id) 1 = 1 ∧ ptpRole (ptpAs 2 id) 1 = 2 ∧ parN (ptpAs 1 id) (bP 1) 0 Par.epPtpTransport ≤ 2 ∧
    (edge (ptpAs 1 (fun e => { e with ptp := { e.ptp with state := 6 } })) 1).ptp.state = 6 ∧
    ptpRole (ptpAs 3 id) 1 = 3 ∧ peerDelay (ptpAs 3 id) 1 = true ∧ peerDelay (ptpAs 1 id) 1 = false ∧
    (∀ k < 4, (edge (ptpAs 1 (fun e => { e with ptp := { e.ptp with waiting := [(k, 7)] } })) 1).ptp.waiting.find?
      (fun w => w.2 == 7) = some (k, 7)) ∧
    stampsWaiting (ptpAs 1 (fun e => { e with ptp := { e.ptp with waiting := [(0, 7)] } })) 0 ≤ 64 ∧
    parN { ptpAs 1 id with params := [(pid (bP 1) 0 Par.epEsmcEn, 1)] } (bP 1) 0 Par.epEsmcEn = 1 ∧
    (edge (ptpAs 1 id) 1).qlCand ≠ some 0xF ∧ ssmKnown 1 2 = true ∧ ssmKnown 1 5 = false := by decide

/-! ### FrameIntakeRows -/

/-- A head of 64 bytes for destination `d` (six bytes), from a source, untagged. -/
def headTo (d : List Byte) (st : Option StartInfo) : FrameHead :=
  { bytes := d ++ [2, 0, 0, 0, 0, 1, 8, 0] ++ List.replicate 50 0, len := 64, stamp := 0, start := st, ended := false }

/-- Port 1 in UP, with VLAN 1 of ports 1 and 2. -/
def frameAs : State :=
  { edgeAs (fun e => { e with link := .up }) with
    core := { Core.reset with vlan := [(1, ⟨6, 0, 0, true⟩)] } }

/-- The frame that a head makes on port 1, still open, at number 0. -/
def openFrame (f : Frame → Frame) : State :=
  { frameAs with
    core := { frameAs.core with
              frames := [(0, f (mkFrame frameAs 1 (headTo [2, 0, 0, 0, 0, 2] none)))]
              next := 1
              open_ := [(1, 0)] } }

/-- A START of channel 5 that asks for a crossing. -/
def expressStart : StartInfo := ⟨5, 3, true, true, false, 0, 0⟩

theorem wit_FrameIntakeRows_head : portUp frameAs 1 = true ∧ rCore frameAs = true ∧
    consumed frameAs 1 (headTo [2, 0, 0, 0, 0, 2] none).bytes (parse (headTo [2, 0, 0, 0, 0, 2] none).bytes) = false ∧
    consumed frameAs 1 (headTo [1, 0x80, 0xC2, 0, 0, 1] none).bytes
      { dst := 0x0180C2000001, src := 1, tci := none, rtag := none, etype := 0x8808, off := 14 } = true ∧
    linkLocal 0x0180C2000002 = true ∧ linkLocal 0x020000000002 = false ∧
    (vlanOf frameAs 1 1).isSome = true ∧ vlanOf frameAs 1 2 = none := by decide +kernel

theorem wit_FrameIntakeRows_end : (openFrame id).core.open_.find 1 = some 0 ∧ (frameOf (openFrame id) 0).isSome = true ∧
    (frameOf (openFrame (fun f => { f with waits := false })) 0).map (·.waits) = some false ∧
    frameAs.core.open_.find 1 = none := by decide

theorem wit_FrameIntakeRows_miss : rStore { withStore with core := { Core.reset with missQ := [⟨0, 5, 4⟩] } } = true ∧
    ([⟨0, 5, 4⟩] : List MissWait).filter (fun w => w.ch == 5) ≠ [] ∧ rStore frameAs = false := by decide

/-- Trunk 48 in UP. -/
def upTrunk : State := trunkAs (fun t => { t with link := .up })

theorem wit_FrameIntakeRows_crossing : portUp upTrunk 48 = true ∧ isTrunk upTrunk 48 = true ∧ rCore upTrunk = true ∧
    crossingOk upTrunk 48 expressStart = none := by decide

/-- Trunk 48 and edge port 1 in UP, with a booking whose express entry is open on port 1. -/
def crossAs (tx : Option Sending) : State :=
  let e := edgeAs (fun e => { e with link := .up })
  { e with
    lanes := [(1, { Lane.reset with mode := 3 }), (48, { Lane.reset with mode := 6 })]
    trunks := [(48, { Trunk.reset with link := .up })]
    core := { Core.reset with bookings := [(0, ⟨5, 48, 1, 0, 64⟩)], chans := [(5, Chan.blank.setF 0 31 31 1)] }
    sched := { e.sched with ports := [(1, { PortSched.reset with gcl := some ⟨0, 0, 0, 0, [2 ^ 55]⟩, state := 2, next := some (2 ^ 40), tx := tx })] } }

theorem wit_FrameIntakeRows_booked : portUp (crossAs none) 48 = true ∧ rCore (crossAs none) = true ∧
    crossingOk (crossAs none) 48 expressStart = some ⟨5, 48, 1, 0, 64⟩ ∧
    crossingOk (crossAs (some (.crossing 3 1518))) 48 expressStart = some ⟨5, 48, 1, 0, 64⟩ ∧
    (portSched (crossAs none) 1).tx = none ∧ (portSched (crossAs (some (.crossing 3 1518))) 1).tx ≠ none ∧
    endOpen 48 3 (crossAs none) = crossAs none := by decide +kernel

/-! ### AdmissionAndEgressRows -/

/-- `s` with queue 3 of port 1 holding frame 0, and a transmitter. -/
def queueAs (tx : Option Sending) (ended : Bool) : State :=
  let s := openFrame (fun f => { f with ended := ended })
  { s with
    buf := { s.buf with outs := [(11, { OutQ.empty with frames := [(0, 1)] })], adm := [⟨0, 0, [1]⟩] }
    sched := { s.sched with ports := [(1, { PortSched.reset with tx := tx })] } }

theorem wit_AdmissionAndEgressRows : portUp (queueAs none false) 1 = true ∧ rSched (queueAs none false) = true ∧
    (queueAs none false).buf.adm.find? (fun w => w.pipe == 0) = some ⟨0, 0, [1]⟩ ∧
    (queueAs none false).buf.adm.find? (fun w => w.pipe == 1) = none ∧
    (queueAs none false).buf.adm.find? (fun w => w.pipe == 0 && canAdmit (queueAs none false) w) = some ⟨0, 0, [1]⟩ ∧
    (portSched (queueAs none false) 1).tx = none ∧ pauseDue (queueAs none false) 1 = false ∧ (portSched (queueAs (some (.crossing 0 1518)) true) 1).tx = some (.crossing 0 1518) ∧
    (portSched (queueAs (some (.queued 0 3 false 0 1518)) true) 1).tx = some (.queued 0 3 false 0 1518) ∧
    (portSched (queueAs (some (.slot 2 [] none)) true) 1).tx = some (.slot 2 [] none) ∧
    (frameOf (queueAs none false) 0).map (·.ended) = some false ∧ (frameOf (queueAs none true) 0).map (·.ended) = some true ∧
    (outQ (queueAs none false) 1 3).frames ≠ [] ∧ (outQ (queueAs none true) 1 3).escDue = false ∧ dwells (queueAs none true) 1 3 = true ∧ dwells (queueAs none false) 1 4 = false ∧
    fdbFind { queueAs none false with core := { Core.reset with fdb := [⟨1, 2, false, 3, false, 0⟩] } } 1 2 = some ⟨1, 2, false, 3, false, 0⟩ ∧
    secTicks (parN (queueAs none false) bLKP 0 Par.lkAgeTime) ≠ 0 ∧
    (parN { queueAs none false with params := [(pid (bP 1) 0 Par.sdGatedMask, 0)] } (bP 1) 0 Par.sdGatedMask).testBit 3 = false ∧
    parN { queueAs none false with params := [(pid (bP 1) 3 Par.sdEscDwell, 50)] } (bP 1) 3 Par.sdEscDwell ≠ 0 := by decide +kernel

/-- `withChan` with channel 7 besides. -/
def chanAs (c : Chan) : State := { withChan with core := { withChan.core with chans := [(7, c)] } }

theorem wit_AdmissionAndEgressRows_sweeps : (chanOf withChan 6) = none ∧
    (chanOf (chanAs { (Chan.blank.setF 0 31 31 1).setF 0 13 13 1 with idle := false }) 7).map (fun c => (c.rcvyEn, c.idle, c.takeAny)) = some (true, false, false) ∧
    parN (inService core9) bLKP 0 Par.lkAgeTime ≠ 0 ∧
    parN { inService core9 with params := [(pid bLKP 0 Par.lkAgeTime, 0)] } bLKP 0 Par.lkAgeTime = 0 := by decide +kernel

/-! ### BufferRows -/

/-- Port 1 in UP with flow control on class 3, whose queue holds a frame and is paused. -/
def blockedAs (f : Buf → Buf) : State :=
  let s := edgeAs (fun e => { e with link := .up, paused := [(3, 7)] })
  { s with
    params := [(pid (bP 1) 0 Par.epFlowMode, 1)]
    buf := f { s.buf with outs := [(11, { OutQ.empty with frames := [(0, 1)] })] } }

theorem wit_BufferRows_watchdog : rBuf (blockedAs id) = true ∧ parN (blockedAs id) bBUF 0 Par.bfWdEn ≠ 0 ∧
    demoted (blockedAs id) 3 = false ∧ wdRunning (blockedAs id) 1 3 = true ∧ wdRunning (blockedAs id) 1 4 = false ∧
    demoted (blockedAs (fun b => { b with demoted := 16 })) 4 = true := by decide +kernel

theorem wit_BufferRows_restored : demoted { inService core9 with buf := { Buf.reset with demoted := 16 } } 4 = true ∧
    ∀ p < 64, losslessEdge { inService core9 with buf := { Buf.reset with demoted := 16 } } p 4 = false := by
  refine ⟨by decide, fun p h => ?_⟩
  have e : portMode { inService core9 with buf := { Buf.reset with demoted := 16 } } p = 0 := rfl
  simp [losslessEdge, losslessG, e]

theorem wit_BufferRows_flush : flushDue (edgeAs (fun e => { e with flushed := false })) 1 = true ∧ (edgeAs id).buf.flushing.find 1 = none ∧
    flushDue (edgeAs (fun e => { e with flushed := true })) 1 = false ∧ (queued (edgeAs id) 1).1 = 0 ∧ (queued (blockedAs id) 1).1 ≠ 0 ∧
    (blockedAs (fun b => { b with flushing := [(1, 2, 2)] })).buf.flushing.find 1 = some (2, 2) ∧
    isTrunk (edgeAs id) 1 = false ∧ isTrunk upTrunk 48 = true := by decide

theorem wit_BufferRows_scrub : rBuf (inService core9) = true ∧ govGranted (inService core9) .bankScrub = false ∧
    (govRequest .bankScrub (inService core9)).1 = .queued ∧ rBuf (inService [0]) = false ∧
    (govRequest .bankScrub { inService core9 with params := [(pid bHLTH 0 Par.hlGovCoreHeadroom, 200)] }).1 = .tooLarge ∧
    govGranted { inService core9 with hlth := { Hlth.reset with gov := { Gov.reset with grants := [⟨0, .bankScrub, 3, bBUF, 400, 0, true, false, false, false⟩] } } } .bankScrub = true := by
  decide +kernel

theorem wit_BufferRows_capture : rStore withStore = true ∧
    ringBlocked withStore (parN withStore bBUF 0 Par.bfCapBase) (192 * parN withStore bBUF 0 Par.bfCapRecords) = false ∧
    Ring.empty.full (parN withStore bBUF 0 Par.bfCapRecords) = false ∧
    { Ring.empty with wr := 7 }.full 8 = true ∧ rStore (inService core9) = false := by decide +kernel

/-! ### HealthRows -/

/-- HLTH with a change. -/
def hlthAs (f : Hlth → Hlth) : State := { inService core9 with hlth := f Hlth.reset }

theorem wit_HealthRows_governor :
    let r : GovReq := ⟨3, .lineSwap 2, 1, bCSYN, 0, 50, false, true, true, false⟩
    let g := hlthAs (fun h => { h with gov := { h.gov with queue := [{ r with ending := false }], grants := [r] } })
    govFits g { r with ending := false } = true ∧
    govFits { g with params := [(pid bHLTH 0 Par.hlGovTimeHeadroom, 10)] } { r with ending := false } = false ∧
    g.hlth.gov.grants.find? (fun r => r.id == 3 && r.ending) = some r ∧ g.hlth.gov.grants.find? (fun r => r.id == 4 && r.ending) = none ∧
    oldestWaiting g.hlth.gov.queue = some { r with ending := false } ∧ oldestWaiting [{ r with starved := true }] = none := by decide

theorem wit_HealthRows_tests :
    let t : Bist := ⟨0x20, 1, 2, false, true, none, []⟩
    (hlthAs (fun h => { h with bist := [(bCSYN, t)] })).hlth.bist.find bCSYN = some t ∧ t.done + 1 ≤ t.total ∧ ({ t with total := 3 } : Bist).done + 1 < 3 ∧
    sliceVerdict (hlthAs id) bCSYN t true 0 = none ∧ sliceVerdict (hlthAs id) bCSYN t false 7 = some 7 ∧
    ({ t with failed := some 5 } : Bist).failed = some 5 ∧ ({ t with done := 2 } : Bist).total ≤ 2 := by decide

theorem wit_HealthRows_rotation : rHlth (hlthAs id) = true ∧ (hlthAs id).boot.phase = .started ∧ (hlthAs id).boot.bootOk = true ∧
    nextRot { hlthAs id with params := [(pid bHLTH 0 Par.hlRotEn, 0)] } = none ∧
    (nextRot (hlthAs (fun h => { h with rotFirst := [unitKey bBUF 7] }))).map (·.1) = some (bBUF, 7) ∧
    rotSkip (hlthAs id) bBUF 7 = none ∧ unitClass bBUF 7 = some 4 ∧ unitClass bKEEP 1 = some 6 ∧ rotSkip (inService [0]) bBUF 7 = some 1 ∧
    (startSwap bBUF 7 2 (hlthAs id)).1 = stOk ∧ rHlth (inService [0]) = false := by decide +kernel

theorem wit_HealthRows_records : (hlthAs id).boot.flashOk = true ∧ State.reset.boot.flashOk = false ∧
    parN (hlthAs id) bHLTH 0 Par.hlAgeWarn < 2 ^ 20 ∧ 65535 < parN { hlthAs id with params := [(pid bHLTH 0 Par.hlTrendHorizon, 70000)] } bHLTH 0 Par.hlTrendHorizon ∧
    ((hlthAs (fun h => { h with logWait := [[1]] })).hlth.logWait = [[1]]) ∧ (hlthAs id).iso.running = false ∧
    (raise bKEEP 0 { hlthAs id with keep := { Keep.reset with spareReady := true } }).keep.spareReady = true ∧
    (pairSwap 5 (hlthAs id)).hlth.bist.find bKEEP = none := by decide +kernel

theorem wit_HealthRows_trace : rStore withStore = true ∧
    ringBlocked withStore (parN withStore bTRACE 0 Par.ctTraceBase) (64 * parN withStore bTRACE 0 Par.ctTraceRecords) = false ∧
    Ring.empty.full (parN withStore bTRACE 0 Par.ctTraceRecords) = false ∧ { Ring.empty with wr := 7 }.full 8 = true ∧
    8 ≤ 2 * Ring.level 8 { Ring.empty with wr := 7 } := by decide +kernel

theorem wit_HealthRows_fit : (lane (hlthAs id) 0).slice = 0 ∧ parN (hlthAs id) bHLTH 0 Par.hlTrendHorizon = 90 ∧
    trendDays 100 [110] = 65535 ∧ trendDays 100 [110, 112, 114] = 5 ∧
    fomProjected (hlthAs (fun h => { h with fomMeans := [(0, [(parN (hlthAs id) (bQ 0) 0 Par.lnFomWarn, 0),
      (parN (hlthAs id) (bQ 0) 0 Par.lnFomWarn + 1, 0)])] })) 0 = 0 := by decide

/-! ### ShaftRows -/

/-- Shaft 3 running in a segment at rest, with a change. -/
def shaftAs (f : Shaft → Shaft) (g : ShaftBlk → ShaftBlk) : State :=
  { inService core9 with
    shaft := g { ShaftBlk.reset with
      shafts := [(3, f { Shaft.reset with source := 1, state := .running, force := some { restSeg with flags := 10 * 256 } })] } }

/-- A target of slot 0 on shaft 3. -/
def planAs (kind : Nat) (cmp : Nat) : Planned := ⟨{ markAt0 with kind := kind, record := 1 }, cmp, 0, 3, kind, 0, true, 0, 0, 0, 0⟩

theorem wit_ShaftRows_segments : rShaft (shaftAs id id) = true ∧
    (shaft (shaftAs (fun h => { h with queue := [(restSeg, false)] }) id) 3).queue = [(restSeg, false)] ∧
    (shaft (shaftAs id id) 3).queue.any (fun x => decide (x.1.t0 ≤ 0)) = false ∧
    (shaft (shaftAs id id) 3).force ≠ none ∧ (shaft (shaftAs id id) 3).source = 1 ∧ (shaft (shaftAs id id) 3).state = .running ∧
    (shaft (shaftAs (fun h => { h with state := .late }) id) 3).state = .late ∧ (shaft (shaftAs id id) 4).force = none ∧
    (shaft (shaftAs (fun h => { h with source := 2 }) id) 3).source = 2 ∧ isMirror (shaftAs (fun h => { h with source := 2 }) id) 3 = false ∧
    (shaft (shaftAs (fun h => { h with claim := 5 }) id) 3).claim ≠ 0 ∧ (shaft (shaftAs id id) 3).claim = 0 ∧ rShaft (inService [0]) = false := by decide

theorem wit_ShaftRows_plans : (shaft (shaftAs (fun h => { h with changed := some (7, 1) }) id) 3).changed = some (7, 1) ∧
    (shaftAs id (fun b => { b with tq := [{ planAs 4 20 with slot := gearSlot 3 }] })).shaft.tq.find? (fun p => p.slot == gearSlot 3) =
      some { planAs 4 20 with slot := gearSlot 3 } ∧ (slotOf (shaftAs id id) 0).args.mode ≠ 3 ∧
    (planAs 3 20).own = true ∧ (planAs 0 0).own = false ∧ (planAs 2 0).own = false ∧ (pulse (shaftAs id id) 0).high = false ∧
    (shaftAs id (fun b => { b with tq := [planAs 3 20] })).shaft.tq[0]? = some (planAs 3 20) ∧ (shaftAs id id).shaft.tq[0]? = none ∧
    [planAs 3 20].find? (fun p => p.slot == 0) = some (planAs 3 20) ∧
    wantsRecord (planAs 3 20).arg 0 = true ∧ wantsRecord { markAt0 with kind := 1 } 0 = false ∧
    (shaftAs id (fun b => { b with owed := [⟨planAs 3 20, none⟩] })).shaft.owed[0]? = some ⟨planAs 3 20, none⟩ := by decide

/-! ### TicRows -/

/-- TIC in service with a measurement of a mode over channels 0 and 24. -/
def measAs (mode : Nat) (start : Option OpenStart) : State :=
  { inService core9 with tic := { Tic.reset with meas := [⟨spiCmd, { stampOn0 with mode := mode, channels := 2 ^ 24 + 1 }, [], 0, 0, start, 1⟩] } }

/-- TIC in service with encoder 0 in use. -/
def encAs (f : Enc → Enc) : State := { inService core9 with tic := { Tic.reset with encs := [(0, f { Enc.reset with on := true })] } }

theorem wit_TicRows_edges : rTic (measAs 0 none) = true ∧ parN (measAs 0 none) bTIC 0 Par.tcChEdge ≠ 1 ∧
    (measOf (measAs 0 none) 0).map (·.args.mode) = some 0 ∧ (measOf (measAs 1 none) 24).map (·.args.mode) = some 1 ∧
    (measOf (measAs 2 none) 0).map (fun m => (m.args.mode, m.live.testBit 0)) = some (2, true) ∧ measOf (measAs 0 none) 1 = none ∧
    (ticCh (measAs 0 none) 0).phase + 1 = 1 ∧ max 1 (parN (measAs 0 none) bTIC 0 Par.tcChPrescale) = 1 ∧
    inDeadTime (measAs 0 none) 0 7 = false ∧ inDeadTime { measAs 0 none with tic := { Tic.reset with interps := [(0, { Interp.reset with last := some 0 })] } } 0 7 = true ∧
    max 1 (parN { measAs 0 none with params := [(pid bTIC 0 Par.tcChPrescale, 4)] } bTIC 0 Par.tcChPrescale) = 4 ∧
    (measAs 1 (some ⟨0, 0, 0, 0⟩)).tic.meas.find? (fun m => m.start.isSome) ≠ none ∧
    (measAs 1 none).tic.meas.find? (fun m => m.start.isSome) = none := by decide +kernel

theorem wit_TicRows_encoders : (encOf (encAs id) 0).on = true ∧ (encOf (encAs id) 0).a = false ∧ (encOf (encAs id) 0).b = false ∧
    ((encOf (encAs id) 0).a ≠ true ↔ (encOf (encAs id) 0).b = false) ∧ acceptedLevel (encAs id) 0 false ⟨true, 2 ^ 32⟩ = true ∧ acceptedLevel (encAs id) 0 false ⟨false, 0⟩ = false ∧
    parN { encAs id with params := [(pid bTIC 0x40 Par.tcEncZMode, 0)] } bTIC 0x40 Par.tcEncZMode = 0 ∧
    parN { encAs id with params := [(pid bTIC 0x40 Par.tcEncZMode, 2)] } bTIC 0x40 Par.tcEncZMode = 2 ∧
    monitorOk (encAs id) 3 = true ∧ monitorOk (encAs id) 100 = false ∧ freeMonitor (encAs id) ⟨0, 600, none⟩ = some 25 ∧
    (mon (encAs id) 3).owed = false ∧ (mon (encAs id) 3).marks = [] ∧ encHolds (encAs id) 0 = true ∧ encHolds (encAs id) 3 = false ∧ rTic (inService [0]) = false := by decide +kernel

theorem wit_TicRows_swap :
    let w : TicSwap := { TicSwap.start 3 29 with cal := 0 }
    let s := { inService core9 with tic := { Tic.reset with swap := some w } }
    let t := { s with hlth := { Hlth.reset with gov := { Gov.reset with grants := [⟨0, .interpSwap 3, 1, bTIC, 0, 50, false, true, false, false⟩] } } }
    govGranted s (.interpSwap 3) = false ∧ servingUnit s 3 = 3 ∧ w.passed = false ∧ w.seen < 2 ^ 20 ∧
    2 ^ 20 ≤ ({ w with seen := 2 ^ 20 } : TicSwap).seen ∧ ({ w with passed := true } : TicSwap).passed = true ∧ govGranted t (.interpSwap 3) = true ∧
    (w.compare 0).diffs = [0] ∧ (w.compare 10000).diffs = [] := by
  decide

/-! ### SchedulerRows -/

/-- Edge port 1 in UP, a slot 0 that launches there, and comparators C0, C20 and C61 armed for now. -/
def slotAs (mode : Nat) (feed : Nat) (f : Slot → Slot) : State :=
  { edgeAs (fun e => { e with link := .up }) with
    guh := { Guh.reset with cmps := [(0, ⟨0, 0, false, 0⟩), (20, ⟨0, 0, false, 0⟩), (61, ⟨0, 0, false, 0⟩)] }
    core := { Core.reset with chans := [(5, (((Chan.blank.setF 0 31 31 1).setF 0 10 10 1).setF 11 21 18 4))] }
    sched := { Sched.reset with slots := [(0, f { Slot.reset 0 with
      args := { SlotArgs.reset 0 with mode := mode, feed := feed, port := 1 }, frame := List.replicate 64 0, next := some 0, deadline := some 0 })] } }

theorem wit_SchedulerRows_comparators : (slotAs 1 0 id).guh.cmps.find 0 = some ⟨0, 0, false, 0⟩ ∧ (slotAs 1 0 id).guh.cmps.find 20 ≠ none ∧
    (slotAs 1 0 id).guh.cmps.find 61 ≠ none ∧ (slotAs 1 0 id).guh.cmps.find 17 = none ∧ (slotAs 1 0 id).guh.cmps.find (1 / 4) ≠ none := by decide

theorem wit_SchedulerRows_launch : (slotOf (slotAs 1 0 id) 0).args.mode = 1 ∧ rSched (slotAs 1 0 id) = true ∧ launchTime (slotAs 1 0 id) 0 = some 0 ∧
    passTo 0 (slotAs 1 0 id) = slotAs 1 0 id ∧ portUp (slotAs 1 0 id) 1 = true ∧ launchKind (slotAs 1 0 id) 0 0 = 1 ∧
    launchBlocked (slotAs 1 0 id) 1 0 64 = false ∧ (launchPlanned 0 (slotAs 1 0 id)).1 = none ∧
    launchKind (slotAs 1 0 (fun x => { x with frame := [] })) 0 0 = 0 ∧ launchTime (slotAs 1 0 (fun x => { x with next := none })) 0 = none := by decide +kernel

theorem wit_SchedulerRows_lists :
    let g : Gcl := ⟨1, 3, 0, 1, [2 ^ 32 - 1]⟩
    let s := { withShaft (inService core9) with sched := { Sched.reset with ports := [(1, { PortSched.reset with gcl := some g, state := 2 })] } }
    (portSched s 1).gcl = some g ∧ (portSched s 1).state = 2 ∧ (portSched s 1).next = none ∧ rShaft s = true ∧
    (planned s).any (fun q => q.slot == gateSlot 1) = false ∧
    findCross s 3 true (onlyTarget true (laneTarget g (portSched s 1))) (cursorAt s 3 1) (planHorizon s) = none := by decide +kernel

theorem wit_SchedulerRows_repeat : (slotOf (slotAs 4 1 id) 0).args.mode = 4 ∧
    (repeatChan (slotAs 4 1 id) 0).map (fun c => (c.1, c.2.hrCount, c.2.hrLimit, sendClaimOk (slotAs 4 1 id) c.2)) = some (5, 0, 4, true) ∧
    (slotOf (slotAs 4 1 id) 0).deadline = some 0 ∧ (slotOf (slotAs 4 1 id) 0).committed = false ∧
    (slotOf (slotAs 4 1 (fun x => { x with committed := true })) 0).committed = true ∧ (slotOf (slotAs 4 1 id) 0).next = some 0 ∧
    launchBlocked (slotAs 4 1 id) 1 0 64 = false ∧ dueOf (slotAs 4 1 id) 0 = 0 ∧ portUp (inService core9) 1 = false ∧
    repeatChan (inService core9) 0 = none := by decide +kernel

/-! ### StepTakesTheFront -/

theorem wit_StepTakesTheFront : (inService core9).pending = [] := rfl

/-! ### EveryCommandGoesOn -/



/-! ### ReadyBitsStayTold -/

theorem wit_ReadyBitsStayTold : step State.reset = .next (finish (tick State.reset)) := rfl

/-! ### ResetState -/



/-! ### StandbyServesMarked -/

/-- The device in Standby Light mode. -/
def standbyLight : State := { inService core9 with boot := { (inService core9).boot with phase := .standbyLight } }

theorem wit_StandbyServesMarked :
    (∀ u, exec (.ident spiCmd) u = .next (finish (serve 0x0001 spiCmd bodyIdent u))) ∧
    (∀ u, exec (.nop spiCmd) u = .next (finish (serve 0x0002 spiCmd bodyNop u))) ∧
    standbyLight.boot.phase = .standbyLight ∧ isRemote spiCmd.origin = false ∧ transportOf spiCmd.origin ≠ 4 ∧
    opRow 0x0001 = some (0x0001, 0, false, true) ∧ opRow 0x0002 = some (0x0002, 0, false, false) ∧
    lockedFor 0x0001 spiCmd false standbyLight = false ∧ lockedFor 0x0002 spiCmd false standbyLight = false ∧
    classRank spiCmd.cls ≤ classRank 0 ∧ roleMatches spiCmd standbyLight = true :=
  ⟨fun _ => rfl, fun _ => rfl, by decide⟩

/-! ### NoReplySendsNone -/

/-- A NOP by SPI with NO_REPLY. -/
def quiet : CmdHdr := { spiCmd with noReply := true }

theorem wit_NoReplySendsNone : Answers (.nop quiet) quiet 0x0002 stOk [] (inService core9) (inService core9) ∧
    quiet.noReply = true ∧ transportOf quiet.origin = 1 :=
  ⟨answers_of (by unfold Taken; decide) (by decide) rfl rfl, rfl, rfl⟩

theorem wit_NoReplySendsNone_refused :
    Answers (.faultReactSet quiet 1 0 6) quiet 0x0E03 stOutOfRange [] (inService core9) (inService core9) :=
  answers_of (by unfold Taken; decide) (by decide) rfl rfl

/-! ### ClaimFormsAndRanks -/

/-- The device in service with PAIR in RUN, in a role, with a PRIO and an EPOCH. -/
def paired (r : PairRole) (prio : Int) (e : Nat) : State :=
  { inService (9 :: core9) with
    pair := { (inService core9).pair with started := true, state := some r, epoch := e }
    params := [(pid bPAIR 0 Par.prPrio, prio)] }

theorem wit_ClaimFormsAndRanks : rPair (paired .active 3 255) = true ∧ rPair (paired .standby 100 256) = true ∧
    ownClaim (paired .active 3 255) = 0x83FF ∧ ownClaim (paired .standby 100 256) = 0x6400 ∧
    grantConds (paired .active 3 255) = true := by decide

/-! ### RoleChecked -/

theorem wit_RoleChecked :
    (∀ u, exec (.switchover { spiCmd with trole := 1 } false) u =
      .next (finish (serve 0x0D02 { spiCmd with trole := 1 } (bodySwitchover { spiCmd with trole := 1 } false) u))) ∧
    keeperUp (paired .standby 1 4) = true ∧ stepRefusal 0x0D02 { spiCmd with trole := 1 } (paired .standby 1 4) = none ∧
    roleMatches { spiCmd with trole := 1 } (paired .standby 1 4) = false ∧
    roleMatches { spiCmd with trole := 2, epoch := 4 } (paired .standby 1 4) = true ∧
    roleMatches { spiCmd with trole := 1, epoch := 4 } (paired .active 1 4) = true :=
  ⟨fun _ => rfl, by decide⟩

/-! ### FaultLatched -/

theorem wit_FaultLatched : hasSource (stopped none) 1 0 = true ∧ reaction (stopped none) 1 0 ≤ rInterrupt ∧
    Taken 0x0E05 spiCmd (stopped none) ∧ (stopped none).keep.testUnlocked = true ∧ (hdr (stopped none) 1).first = none := by
  unfold Taken; decide

theorem wit_FaultLatched_later :
    (hdr (setHdr 1 { Hdr.reset with first := some ⟨0, 0, 0⟩ } (stopped none)) 1).first ≠ none ∧
    hasSource (setHdr 1 { Hdr.reset with first := some ⟨0, 0, 0⟩ } (stopped none)) 1 1 = true := by decide

/-! ### FlashBytes -/

theorem wit_FlashBytes : Memory.wf [(0, 1), (5, 2)] = true := by decide

/-! ### ReplyFrames -/

theorem wit_ReplyFrames : settled State.reset = true := by decide

/-! ### FaultRegistersClear -/

theorem wit_FaultRegistersClear : (1 : Nat) < nBlocks ∧ Taken 0x0E02 spiCmd (inService core9) ∧
    (inService core9).boot.phase ≠ .heldInReset := by
  unfold Taken; decide

end Sys2Proof.Tests
end

section
/-! SUPPORT. The ready words after any step (R23, R24): bits of a packed word, the prerequisites of Table AR-7, and
the report that every command ends with. -/

namespace Sys2Proof.Machine

/-- Every row ends with `finish`. -/
theorem exec_eq_done (i : Instr) (s : State) : ∃ u, exec i s = done u := by
  cases i <;> exact ⟨_, rfl⟩

/-- A packed word with one more bit. -/
theorem packBits_succ (n : Nat) (f : Nat → Bool) : packBits (n + 1) f = 2 ^ n * (f n).toNat + packBits n f := by
  have bit : b2n (f n) = (f n).toNat := by cases f n <;> rfl
  simp [packBits, List.range_succ, bit, Nat.mul_comm, Nat.add_comm]

theorem packBits_lt (n : Nat) (f : Nat → Bool) : packBits n f < 2 ^ n := by
  induction n with
  | zero => exact Nat.one_pos
  | succ n ih =>
    have top : 2 ^ n * (f n).toNat ≤ 2 ^ n := mul_le_of_le_one_right (Nat.zero_le _) (Bool.toNat_le _)
    rw [packBits_succ, pow_succ]
    omega

/-- A packed word's bits are the ones it was packed from. -/
theorem testBit_packBits (n : Nat) (f : Nat → Bool) (i : Nat) :
    (packBits n f).testBit i = (decide (i < n) && f i) := by
  induction n with
  | zero => exact Nat.zero_testBit i
  | succ n ih =>
    rw [packBits_succ, Nat.testBit_two_pow_mul_add _ (packBits_lt n f), Nat.testBit_bool_toNat, ih]
    obtain below | rfl | above := Nat.lt_trichotomy i n
    · simp [below, Nat.lt_succ_of_lt below]
    · simp
    · simp [above.not_gt, Nat.sub_eq_zero_iff_le, above.not_ge, Nat.not_lt.mpr above]

@[simp] theorem testBit_ready0 (s : State) (n : Nat) :
    (ready0 s).testBit n = (decide (n < 20) && ready0Bit s n) := testBit_packBits 20 _ n

/-- Each function's own condition in Table AR-7 includes that its prerequisites are ready. -/
theorem ready0Bit_prereqs (s : State) (n : Nat) (h : ready0Bit s n = true) :
    ∀ k ∈ prereqs n, k < 20 ∧ ready0Bit s k = true := by
  fun_cases prereqs n <;>
    simp_all [ready0Bit, rBootCal, rStore, rRefs, rGuhRun, rGuhLocked, rGuhCal, rShaft, rTic, rPair, rCore, rHlth]

/-- CORE needs a clock: the core PLL or a time PLL. -/
theorem clocked_of_rCore {s : State} (h : rCore s = true) : rCorePll s = true ∨ rTimePll s = true := by
  simp only [rCore, Bool.and_eq_true, Bool.or_eq_true] at h
  obtain ⟨⟨_, clocked⟩, _⟩ := h
  exact clocked

/-- READY_0 never has a bit without its prerequisites (R23). -/
theorem prereqsHold_ready0 (s : State) : PrereqsHold (ready0 s) := by
  simp only [PrereqsHold, testBit_ready0, Bool.and_eq_true, decide_eq_true_eq]
  exact ⟨fun n _ ⟨_, set⟩ => ready0Bit_prereqs s n set,
    fun ⟨_, core⟩ => (clocked_of_rCore core).imp (⟨by decide, ·⟩) (⟨by decide, ·⟩)⟩

/-- A report of the ready bits is said, and then the words stand as told (R24). -/
theorem reportReady_eq (s : State) :
    ∃ t, Talk s t ∧ reportReady s = { t with told := ready0 s, told1 := ready1 s } :=
  ⟨_, (talk_reportReadyBits s.told (ready0 s) (List.range 20) s).trans
    (talk_reportQuads s.told1 (ready1 s) (List.range 16) _), rfl⟩

/-- What was last told has no part in the ready words. -/
theorem readyTold_withTold {s : State} {a b : Nat} (ha : a = ready0 s) (hb : b = ready1 s) :
    ReadyTold { s with told := a, told1 := b } := ⟨ha, hb⟩

theorem readyTold_reportReady (s : State) : ReadyTold (reportReady s) := by
  obtain ⟨t, said, e⟩ := reportReady_eq s
  exact e ▸ readyTold_withTold said.ready0.symm said.ready1.symm

theorem readyTold_of_settled {s : State} (h : settled s = true) : ReadyTold s := by
  simp only [settled, Bool.and_eq_true, beq_iff_eq] at h
  obtain ⟨⟨⟨⟨_, told⟩, told1⟩, _⟩, _⟩ := h
  exact ⟨told, told1⟩

/-- Every way through what a command ends with leaves the ready words told: nothing was to follow, or the last pass
reported. -/
theorem readyTold_finish (s : State) : ReadyTold (finish s) := by
  unfold finish
  split
  case isTrue h => exact readyTold_of_settled h
  case isFalse =>
    dsimp only
    split
    case isTrue h => exact readyTold_of_settled h
    case isFalse => exact readyTold_reportReady _

/-- Every step ends with `finish`, a row and a time tick alike. -/
theorem step_eq_finish (s : State) : ∃ u, step s = .next (finish u) := by
  unfold step
  split
  case h_1 => exact ⟨_, rfl⟩
  case h_2 c rest _ => exact exec_eq_done c _

end Sys2Proof.Machine

namespace Sys2Proof

open Machine

/-- Settles O48: every step ends with `finish`, which leaves the ready words as told, and they carry their
prerequisites. -/
theorem readyBitsStayTold : Obligations.ReadyBitsStayTold := by
  intro s t hstep
  obtain ⟨u, hu⟩ := step_eq_finish s
  obtain rfl : finish u = t := Host.Outcome.next.inj (hu.symm.trans hstep)
  have told := readyTold_finish u
  exact ⟨told, told.1 ▸ prereqsHold_ready0 _⟩

end Sys2Proof
end

section
/-! SUPPORT. The shapes of an answer: a result, an acceptance, and a refusal that changes nothing (R319, R336). -/

namespace Sys2Proof.Machine

section
variable {i : Instr} {op : Nat} {h : CmdHdr} {body : State → Resp} {s : State} (taken : Taken op h s)
  (n : op ≠ 0x0105) (e : exec i s = .next (finish (serve op h body s)))
include taken n e

theorem answers_okWith {t : State} {w : List Word} (b : body s = okWith w t) : Answers i h op stOk w s t :=
  answers_of taken n e b

theorem answers_accepted {tag : Nat} {t : State} (b : body s = accepted op tag h t) :
    Answers i h op stAccepted [] s (accept op tag h t) := answers_of taken n e b

theorem answers_refuse {st : Nat} (b : body s = refuse st s) : Answers i h op st [] s s := answers_of taken n e b

end

end Sys2Proof.Machine
end

section
/-! SUPPORT. The counter and ring commands (R272, R407, R411, R415). -/

namespace Sys2Proof.Machine

/-- A filter and then a selection written to an existing counter are one write of the whole counter: both stored,
count and overflow bit 0 (R407). -/
theorem effPcntSelWrite_effPcntFiltWrite {b n : Nat} (filt : Word64) (sel : Word) (s : State) (hb : b < nBlocks)
    (hn : n < pcntCount b) :
    effPcntSelWrite b n sel (effPcntFiltWrite b n filt s) =
      modHdr b (fun x => { x with
        pcnt := x.pcnt.set n ⟨0, sel.toNat &&& selBits, filt.toNat &&& filtBits⟩
        pcntOvf := clrBit x.pcntOvf n }) s := by
  simp [effPcntSelWrite, effPcntFiltWrite, hb, hn, modHdr, setHdr, hdr, setPcnt]

/-- Pairs that all name a counter have no bad one. -/
theorem badCounter_eq_none {l : List (Nat × Nat)} (exist : ∀ e ∈ l, e.1 < nBlocks ∧ e.2 < pcntCount e.1)
    (k : Nat) : badCounter k l = none := by
  induction l generalizing k with
  | nil => rfl
  | cons e r ih =>
    obtain ⟨b, n⟩ := e
    obtain ⟨⟨hb, hn⟩, rest⟩ := List.forall_mem_cons.mp exist
    simp only [badCounter, if_neg hb.not_ge, if_neg hn.not_ge, ih rest]

end Sys2Proof.Machine

namespace Sys2Proof

open Machine

/-- Settles O24, command by command: each answers what its body answers in the case at hand. -/
theorem counterAndRingCommands : Obligations.CounterAndRingCommands := by
  intro h b n filt sel l s
  refine ⟨fun taken ready hb hn => ⟨fun good => ?config, fun on unlisted => ?badSelection⟩,
    fun taken unready hb _ _ => ?configNotReady, fun taken unready ne short => ?readNotReady,
    fun taken ready => ⟨fun ne short exist => ?read, fun long => ?readTooMany⟩,
    fun taken pos most => ⟨fun trace store => ?trace, fun unready => ?traceNotReady⟩,
    fun taken pos most => ⟨fun buf store => ?capture, fun unready => ?captureNotReady⟩⟩
  case config =>
    have listed : ¬ (pcntCount b ≤ n ∨ (sel.toNat.testBit 31 ∧ !pcntOk b sel.toNat filt.toNat)) := by
      rcases good with off | fits
      · simp [off, hn]
      · simp [fits, hn]
    exact answers_okWith taken (by decide) rfl (by
      rw [bodyCounterConfig, if_neg hb.not_ge, if_neg (by simp [ready]), if_neg listed,
        effPcntSelWrite_effPcntFiltWrite filt sel s hb hn]; rfl)
  case badSelection =>
    exact answers_refuse taken (by decide) rfl (by simp [bodyCounterConfig, hb.not_ge, ready, on, unlisted])
  case configNotReady => exact answers_refuse taken (by decide) rfl (by simp [bodyCounterConfig, hb.not_ge, unready])
  case readNotReady =>
    exact answers_refuse taken (by decide) rfl (by simp [bodyCounterRead, ne, short.not_gt, unready])
  case read =>
    have known : badCounter 0 l = none := badCounter_eq_none exist 0
    exact answers_okWith taken (by decide) rfl (w := l.flatMap (counterWords s))
      (by simp [bodyCounterRead, ne, short.not_gt, ready, known])
  case readTooMany => exact answers_refuse taken (by decide) rfl (by simp [bodyCounterRead, long])
  case trace =>
    exact answers_okWith taken (by decide) rfl (by
      rw [bodyTraceRead, if_neg (by omega), if_neg (by simp [trace, store])]; rfl)
  case traceNotReady =>
    exact answers_refuse taken (by decide) rfl (by
      rw [bodyTraceRead, if_neg (by omega), if_pos (by simpa using unready)])
  case capture =>
    exact answers_okWith taken (by decide) rfl (by
      rw [bodyCaptureRead, if_neg (by omega), if_neg (by simp [buf, store])]; rfl)
  case captureNotReady =>
    exact answers_refuse taken (by decide) rfl (by
      rw [bodyCaptureRead, if_neg (by omega), if_pos (by simpa using unready)])

end Sys2Proof
end

section
/-! SUPPORT. BIST_RUN, SPARE_SWAP and SERVICE_RECORD_READ (R255, R393, R396, R404, R406). -/

namespace Sys2Proof.Machine

theorem unitClass_bBUF {u : Nat} (hu : u ≤ 271) : unitClass bBUF u = some 4 := by
  have notQuad : isQuadB bBUF = false := by decide
  simp [unitClass, notQuad, hu]

theorem unitClass_bKEEP {u : Nat} (hu : u ≤ 1) : unitClass bKEEP u = some 6 := by
  have notQuad : isQuadB bKEEP = false := by decide
  simp [unitClass, notQuad, hu]

/-- A unit with a class is a unit of Table HL-2. -/
theorem unitOk_of_unitClass {b u c : Nat} (hc : unitClass b u = some c) : unitOk b u = true := by
  simp [unitOk, hc]

section
variable {h : CmdHdr} {b u : Nat} {s : State}

/-- SPARE_SWAP of a unit that exists. -/
theorem bodySpareSwap_of_unitOk (hb : b < nBlocks) (hu : unitOk b u = true) :
    bodySpareSwap h b u s =
      if !rHlth s then refuse stNotReady s
      else if unitClass b u = some 6 then
        if u = s.keep.pair ∧ s.keep.spareReady ∧ !s.keep.spareRetired then ok (pairSwap 1 s) else refuse stNoResource s
      else if (startSwap b u 1 s).1 = stOk then accepted 0x0F02 (unitKey b u) h (startSwap b u 1 s).2
      else refuse (startSwap b u 1 s).1 s := by
  rw [bodySpareSwap, if_neg (by simp [hb.not_ge, hu])]

/-- A Keeper pair is exchanged at once: the one in service for a spare that is ready. -/
theorem bodySpareSwap_bKEEP (ready : rHlth s = true) (hu : u ≤ 1) :
    bodySpareSwap h bKEEP u s =
      if u = s.keep.pair ∧ s.keep.spareReady ∧ !s.keep.spareRetired then ok (pairSwap 1 s)
      else refuse stNoResource s := by
  have hc := unitClass_bKEEP hu
  rw [bodySpareSwap_of_unitOk (by decide) (unitOk_of_unitClass hc), if_neg (by simp [ready]), if_pos hc]

/-- A unit of any other class is swapped as `startSwap` says. -/
theorem bodySpareSwap_of_startSwap {c st : Nat} {t : State} (hb : b < nBlocks) (ready : rHlth s = true)
    (hc : unitClass b u = some c) (notPair : c ≠ 6) (start : startSwap b u 1 s = (st, t)) :
    bodySpareSwap h b u s = if st = stOk then accepted 0x0F02 (unitKey b u) h t else refuse st s := by
  rw [bodySpareSwap_of_unitOk hb (unitOk_of_unitClass hc), if_neg (by simp [ready]),
    if_neg (by simp [hc, notPair]), start]

end

section
variable {u cause : Nat} {s : State} (hu : u ≤ 271) (buf : rBuf s = true) (still : s.buf.drain = none)
include hu buf still

/-- A bank in use begins to drain where some bank is spare (R255). -/
theorem startSwap_bank {x : Nat} (spare : spareBank s = some x) (active : bankState s u = 0) :
    startSwap bBUF u cause s = (stOk, beginDrain u x cause s) := by
  delta startSwap
  simp [unitClass_bBUF hu, buf, still, spare, active]

theorem startSwap_noBank (spareless : spareBank s = none) : startSwap bBUF u cause s = (stNoResource, s) := by
  delta startSwap
  simp [unitClass_bBUF hu, buf, still, spareless]

end

/-- An idle lane that carries a mode waits for the grant of its spare slice's training. -/
theorem startSwap_lane {b u cause : Nat} {s t : State} (hc : unitClass b u = some 0)
    (carries : (lane s (4 * (b - 0x10) + u)).mode ≠ 0) (runs : blkRun s b = true)
    (adapted : (lane s (4 * (b - 0x10) + u)).adapt = .none) (idle : (lane s (4 * (b - 0x10) + u)).spare = .idle)
    (untested : underTest s b u = false) (kept : (lane s (4 * (b - 0x10) + u)).retired = none)
    (queued : govRequest (.spareTrain (4 * (b - 0x10) + u)) s = (.queued, t)) :
    startSwap b u cause s = (stOk, modLane (4 * (b - 0x10) + u) (fun x => { x with spare := .waitGrant }) t) := by
  delta startSwap
  simp [hc, carries, runs, adapted, idle, untested, kept, queued]

end Sys2Proof.Machine

namespace Sys2Proof

open Machine

/-- Settles O23, command by command: each answers what its body answers in the case at hand. -/
theorem selfTestAndSpareCommands : Obligations.SelfTestAndSpareCommands := by
  intro h b u s
  refine ⟨fun taken hb hu phase ready untested away => ⟨fun t queued => ?test, fun t full => ?queueFull⟩,
    fun taken hb hu phase ready engaged => ?testBusy, fun taken hb hu unready => ?testNotReady,
    fun taken ready hu buf still => ⟨fun x spare active => ?bank, fun spareless => ?noBank⟩,
    fun taken hb hu unready => ?swapNotReady,
    fun taken ready hb _ hc carries runs adapted idle untested kept t queued => ?lane,
    fun taken ready hu serving => ⟨fun spare kept => ?pair, fun spareless => ?noPair⟩,
    fun taken unready start n inLog => ?recordNotReady,
    fun taken ready start n => ⟨fun inRegion => ?bytes, fun inLog => ?entries, ?noRegion⟩⟩
  case test =>
    exact answers_accepted taken (by decide) rfl (by
      simp [bodyBistRun, hb.not_ge, hu, phase, ready, untested, away, queued])
  case queueFull =>
    exact answers_refuse taken (by decide) rfl (by
      simp [bodyBistRun, hb.not_ge, hu, phase, ready, untested, away, full])
  case testBusy =>
    exact answers_refuse taken (by decide) rfl (by
      rw [bodyBistRun, if_neg (by simp [hb.not_ge, hu]), if_neg (by simp [phase, ready]),
        if_pos (by simpa using engaged)])
  case testNotReady => exact answers_refuse taken (by decide) rfl (by simp [bodyBistRun, hb.not_ge, hu, unready])
  case bank =>
    have start := startSwap_bank (cause := 1) hu buf still spare active
    exact answers_accepted taken (by decide) rfl
      (bodySpareSwap_of_startSwap (by decide) ready (unitClass_bBUF hu) (by decide) start)
  case noBank =>
    have start := startSwap_noBank (cause := 1) hu buf still spareless
    exact answers_refuse taken (by decide) rfl
      (bodySpareSwap_of_startSwap (by decide) ready (unitClass_bBUF hu) (by decide) start)
  case swapNotReady =>
    exact answers_refuse taken (by decide) rfl (by rw [bodySpareSwap_of_unitOk hb hu, if_pos (by simp [unready])])
  case lane =>
    have start := startSwap_lane (cause := 1) hc carries runs adapted idle untested kept queued
    exact answers_accepted taken (by decide) rfl (bodySpareSwap_of_startSwap hb ready hc (by decide) start)
  case pair =>
    exact answers_okWith taken (by decide) rfl (by
      rw [bodySpareSwap_bKEEP ready hu, if_pos (by simp [serving, spare, kept])]; rfl)
  case noPair =>
    exact answers_refuse taken (by decide) rfl (by rw [bodySpareSwap_bKEEP ready hu, if_neg (by simp [spareless])])
  case recordNotReady =>
    exact answers_refuse taken (by decide) rfl (by simp [bodyServiceRecordRead, inLog.not_ge, unready])
  case bytes =>
    exact answers_okWith taken (by decide) rfl (by simp [bodyServiceRecordRead, inRegion.not_ge, ready])
  case entries =>
    exact answers_okWith taken (by decide) rfl (by simp [bodyServiceRecordRead, inLog.not_ge, ready])
  case noRegion => exact answers_refuse taken (by decide) rfl (by simp [bodyServiceRecordRead])

end Sys2Proof
end

section
/-! SUPPORT. Adaptation of a lane and LANE_READ (R32, R36, R391, R450). -/

namespace Sys2Proof.Machine

theorem quadOf_lane (q : Nat) {n : Nat} (hn : n < 4) : (4 * q + n) / 4 = q := by omega

theorem placeOf_lane (q : Nat) {n : Nat} (hn : n < 4) : (4 * q + n) % 4 = n := by omega

section
variable {h : CmdHdr} {q n : Nat} {s t : State} (hq : q < 16) (hn : n < 4)
include hq hn

theorem bodyLaneRead_eq :
    bodyLaneRead q n s = okWith
      [w32 (laneStatus s (4 * q + n)), w32 (lane s (4 * q + n)).txLat, w32 (lane s (4 * q + n)).rxLat,
       w32 (measWord (lane s (4 * q + n)).txSeq (lane s (4 * q + n)).txMeas),
       w32 (measWord (lane s (4 * q + n)).rxSeq (lane s (4 * q + n)).rxMeas)] s := by
  rw [bodyLaneRead, if_neg (by omega)]

theorem bodyLaneAdapt_notReady (off : (lane s (4 * q + n)).mode = 0 ∨ blkRun s (bQ q) = false) :
    bodyLaneAdapt h q n s = refuse stNotReady s := by
  rw [bodyLaneAdapt, if_neg (by omega), if_pos (by simpa using off)]

variable (carries : (lane s (4 * q + n)).mode ≠ 0) (runs : blkRun s (bQ q) = true)
  (still : (lane s (4 * q + n)).adapt = .none) (idle : (lane s (4 * q + n)).spare = .idle)
include carries runs still idle

/-- With ADAPT_MODE = FIXED the settings are applied at once. -/
theorem bodyLaneAdapt_fixed (fixed : adaptFixed s (4 * q + n) = true) :
    bodyLaneAdapt h q n s = ok (modLane (4 * q + n) (fun x =>
      { x with ctle := parN s (bQ q) n Par.lnCtlePeak, dfe := x.dfeStored }) s) := by
  simp [bodyLaneAdapt, hq.not_ge, hn.not_ge, carries, runs, still, idle, fixed, applyStored, quadOf_lane q hn,
    placeOf_lane q hn]

/-- Otherwise the adaptation waits for the grant that is requested (R391). -/
theorem bodyLaneAdapt_queued (free : adaptFixed s (4 * q + n) = false)
    (queued : govRequest (.laneAdapt (4 * q + n)) s = (.queued, t)) :
    bodyLaneAdapt h q n s = accepted 0x0201 (4 * q + n) h (modLane (4 * q + n) (fun x =>
      { x with adapt := .waitGrant, adaptCmd := true, bgAdapt := false }) t) := by
  simp [bodyLaneAdapt, hq.not_ge, hn.not_ge, carries, runs, still, idle, free, queued]

theorem bodyLaneAdapt_full (free : adaptFixed s (4 * q + n) = false)
    (full : govRequest (.laneAdapt (4 * q + n)) s = (.full, t)) :
    bodyLaneAdapt h q n s = refuse stBusy t := by
  simp [bodyLaneAdapt, hq.not_ge, hn.not_ge, carries, runs, still, idle, free, full]

end

section
variable {l : Nat} {s : State}

/-- CDR_LOCK of a lane that its PLL serves. -/
theorem effCdrLock_of_unlocked {tx rx : LatMeas} (carries : (lane s l).mode ≠ 0)
    (unlocked : (lane s l).cdrLock = false) (runs : blkRun s (bQ (l / 4)) = true)
    (served : pllLocked s (l / 4) (lanePll s l) = true) :
    effCdrLock l tx rx s =
      startAdapt l (publishBoth l tx rx (modLane l (fun x => { x with cdrLock := true, sigDet := true }) s)) := by
  rw [effCdrLock, if_neg (by simp [carries, unlocked, runs, served])]

/-- ADAPT_TIMEOUT of a lane that adapts, or could be waiting to, without CDR lock. -/
theorem effAdaptTimeout_of_unlocked (waits : (lane s l).adapt = .running ∨ awaitsLock s l = true)
    (unlocked : (lane s l).cdrLock = false) :
    effAdaptTimeout l s = portAdaptFails l (adaptEnds l stNotReady 1 0 (laneFault l 2 s)) := by
  rw [effAdaptTimeout, if_pos ⟨waits, by simp [unlocked]⟩]

/-- What an adaptation came to is kept: CTLE_PEAK, the taps and the FOM; `bg` says whether background adaptation
follows (R32). -/
def storeAdapted (l peak : Nat) (taps : List Int) (fom : Nat) (bg : Bool) (s : State) : State :=
  setPar (bQ (l / 4)) (l % 4) Par.lnCtlePeak peak (modLane l (fun x =>
    { x with ctle := peak, dfe := taps, dfeStored := taps, fom := fom, fomLow := 0, bgAdapt := bg }) s)

/-- ADAPT_DONE of a locked lane that adapts: what it came to is kept, and FOM_FAIL decides whether the port goes on. -/
theorem effAdaptDone_of_running {sweep : List LmsPass} {last : LmsPass} {peak fom : Nat} {taps : List Int}
    (running : (lane s l).adapt = .running) (locked : (lane s l).cdrLock = true)
    (out : runAdapt (lane s l).peakGiven (lane s l).ctle ⟨sweep, last⟩ = (peak, taps, fom)) :
    effAdaptDone l sweep last s =
      if fom < parN s (bQ (l / 4)) (l % 4) Par.lnFomFail then
        portAdaptFails l (adaptEnds l stOk 0 fom (laneFault l 1 (storeAdapted l peak taps fom (laneCarries s l) s)))
      else portAdapted l (adaptEnds l stOk 0 fom (storeAdapted l peak taps fom true s)) := by
  rw [effAdaptDone, if_neg (by simp [running, locked]), out]
  by_cases fails : fom < parN s (bQ (l / 4)) (l % 4) Par.lnFomFail <;> simp [fails, storeAdapted]

end

end Sys2Proof.Machine

namespace Sys2Proof

open Machine

/-- Settles O11: the two commands by what their bodies answer, each row by what its effect comes to. -/
theorem laneAdaptation : Obligations.LaneAdaptation := by
  intro h q n l sweep last tx rx s hq hn
  refine ⟨fun taken carries runs still idle => ⟨fun fixed => ?fixed, fun free t queued => ?queued,
      fun free t full => ?full⟩,
    fun taken off => ?notReady, fun taken => ?read, fun carries unlocked runs served => ?cdrLock,
    fun waits unlocked => ?timeout, fun held => ?retry,
    fun running locked peak taps fom out => ⟨fun good => ?adapted, fun bad => ?adaptFails⟩⟩
  case fixed =>
    exact answers_okWith taken (by decide) rfl (bodyLaneAdapt_fixed hq hn carries runs still idle fixed)
  case queued =>
    exact answers_accepted taken (by decide) rfl (bodyLaneAdapt_queued hq hn carries runs still idle free queued)
  case full => exact answers_of taken (by decide) rfl (bodyLaneAdapt_full hq hn carries runs still idle free full)
  case notReady => exact answers_refuse taken (by decide) rfl (bodyLaneAdapt_notReady hq hn off)
  case read => exact answers_okWith taken (by decide) rfl (bodyLaneRead_eq hq hn)
  case cdrLock => exact leaves_of rfl (effCdrLock_of_unlocked carries unlocked runs served)
  case timeout => exact leaves_of rfl (effAdaptTimeout_of_unlocked waits unlocked)
  case retry => exact leaves_of rfl (if_pos held)
  case adapted => exact leaves_of rfl ((effAdaptDone_of_running running locked out).trans (if_neg good.not_gt))
  case adaptFails => exact leaves_of rfl ((effAdaptDone_of_running running locked out).trans (if_pos bad))

end Sys2Proof
end

section
/-! SUPPORT. The swap of a receive slice, the figure of merit, latency and loss of lock of a lane (R32 to R35, R38,
R39). -/

namespace Sys2Proof.Machine

section
variable {l : Nat} {s : State}

/-- SPARE_TRAINING_DONE while the spare is trained: what its adaptation came to is kept, and SPARE_FOM_MIN decides
between the comparison and an abort. -/
theorem effSpareTrainingDone_of_training {run : AdaptRun} {peak fom : Nat} {taps : List Int} {t : State}
    (training : (lane s l).spare = .training)
    (out : runAdapt (lane s l).sparePeak (lane s l).spareCtle run = (peak, taps, fom))
    (kept : t = modLane l (fun x => { x with spareCtle := peak, spareDfe := taps }) (govEnd (.spareTrain l) s)) :
    effSpareTrainingDone l run s =
      if parN t (bQ (l / 4)) (l % 4) Par.lnSpareFomMin ≤ fom then modLane l (fun x => { x with spare := .comparing }) t
      else sliceAborts l abLowFom t := by
  rw [effSpareTrainingDone, if_neg (by simp [training]), out, kept]

theorem effSpareComparePass_of_comparing {pass : Bool} (comparing : (lane s l).spare = .comparing) :
    effSpareComparePass l pass s =
      if pass then modLane l (fun x => { x with spare := .armed }) s else sliceAborts l abCompare s := by
  rw [effSpareComparePass, if_neg (by simp [comparing])]

/-- SLICE_SWAPPED of an armed swap: the slices exchange roles, and the swap completes. -/
theorem effSliceSwapped_of_armed {m : LatMeas} {t : State} (armed : (lane s l).spare = .armed)
    (swapped : t = completeWith 0x0F02 (unitKey (bQ (l / 4)) (l % 4)) (bQ (l / 4)) 0x13
      [w32 (l % 4), w32 (1 - (lane s l).slice)] stOk
      (publish l true m (modLane l (fun x =>
        { x with
          slice := 1 - (lane s l).slice, spare := .idle
          ctle := x.spareCtle, dfe := x.spareDfe, spareCtle := x.ctle, spareDfe := x.dfe }) s))) :
    effSliceSwapped l m s = rotSwapped (bQ (l / 4)) (l % 4)
      (substituted none (bQ (l / 4)) (l % 4) (l % 4) (swapCause t (bQ (l / 4)) (l % 4)) t) := by
  rw [effSliceSwapped, if_neg (by simp [armed]), swapped]

/-- A sequence that has begun aborts to IDLE, without its grant and with its cause. -/
theorem sliceAborts_of_begun {cause : Nat} (begun : (lane s l).spare ≠ .idle) :
    sliceAborts l cause s = rotFails (bQ (l / 4)) (l % 4)
      (completeWith 0x0F02 (unitKey (bQ (l / 4)) (l % 4)) (bQ (l / 4)) 0x14 [w32 (l % 4), w32 cause] stNotReady
        (modLane l (fun x => { x with spare := .idle }) (govCancel (.spareTrain l) s))) := by
  rw [sliceAborts, if_neg begun]

/-- FOM_REFRESH stores the FOM and the run of refreshes below FOM_WARN, and says FOM_WARN when the run is 10 (R33). -/
theorem effFomRefresh_of_mode {e : Eye} {fom low : Nat} (carries : (lane s l).mode ≠ 0)
    (seen : (if (lane s l).cdrLock then eyeFom e else 0) = fom)
    (run : (if fom < parN s (bQ (l / 4)) (l % 4) Par.lnFomWarn then (lane s l).fomLow + 1 else 0) = low) :
    effFomRefresh l e s =
      if low = 10 then laneEvent l 0x11 [w32 fom] (modLane l (fun x => { x with fom := fom, fomLow := min low 11 }) s)
      else modLane l (fun x => { x with fom := fom, fomLow := min low 11 }) s := by
  subst seen run
  rw [effFomRefresh, if_neg carries]

theorem effLatencyChanged_of_locked {rx : Bool} {m : LatMeas} (carries : (lane s l).mode ≠ 0)
    (locked : (lane s l).cdrLock = true) : effLatencyChanged l rx m s = publish l rx m s := if_pos ⟨carries, locked⟩

theorem effCdrLos_of_locked (locked : (lane s l).cdrLock = true) :
    effCdrLos l s = laneLost l (laneFault l 0 s) := if_pos locked

/-- TX_SEGMENT_SWAPPED raises its source, and a spare segment comes in while one remains. -/
theorem effTxSegmentSwapped_of_mode (carries : (lane s l).mode ≠ 0) :
    effTxSegmentSwapped l s =
      if 4 ≤ (lane s l).txSpare then laneFault l 4 s
      else laneEvent l 0x15 [w32 ((lane s l).txSpare + 1)]
        (modLane l (fun x => { x with txSpare := x.txSpare + 1 }) (laneFault l 4 s)) := by
  rw [effTxSegmentSwapped, if_neg carries]

/-- A temperature in the sensor's range is taken as it is. -/
theorem effLatencyTempUpdate_of_inRange {q : Nat} {temp : Int} (low : -128 ≤ temp) (high : temp ≤ 127) :
    effLatencyTempUpdate q temp s =
      if q = 16 then { s with tic := { s.tic with temp := temp } }
      else (List.range 4).foldl (fun s n =>
        if (lane s (4 * q + n)).mode ≠ 0 ∧ (lane s (4 * q + n)).latValid then
          publish (4 * q + n) true (lane s (4 * q + n)).rxMeas (publish (4 * q + n) false (lane s (4 * q + n)).txMeas s)
        else s) (modQuad q (fun x => { x with temp := temp }) s) := by
  have clamped : max (-128) (min 127 temp) = temp := by omega
  rw [effLatencyTempUpdate, clamped]

end

end Sys2Proof.Machine

namespace Sys2Proof

open Machine

/-- Settles O32, row by row: each leaves what its effect comes to in the case at hand. -/
theorem spareSliceSequence : Obligations.SpareSliceSequence := by
  intro l cause q run e rx temp m s
  refine ⟨fun training peak taps fom out t kept => ⟨fun good => ?compare, fun bad => ?lowFom⟩,
    fun comparing => ⟨?armed, ?differs⟩, fun armed t swapped => ?swapped, fun begun => ?abort,
    fun carries locked fom seen => ⟨fun good => ?fomGood, fun bad ninth => ?fomWarn, fun bad early => ?fomLow, ?latency,
      ?cdrLos⟩,
    fun carries unlocked t kept later => ?fomUnlocked, fun low high => ?pinTemp, fun low high isQuad => ?quadTemp,
    fun carries => ⟨fun spare => ?segment, fun spareless => ?noSegment⟩⟩
  case compare => exact leaves_of rfl ((effSpareTrainingDone_of_training training out kept).trans (if_pos good))
  case lowFom => exact leaves_of rfl ((effSpareTrainingDone_of_training training out kept).trans (if_neg bad.not_ge))
  case armed => exact leaves_of rfl (effSpareComparePass_of_comparing comparing)
  case differs => exact leaves_of rfl (effSpareComparePass_of_comparing comparing)
  case swapped => exact leaves_of rfl (effSliceSwapped_of_armed armed swapped)
  case abort => exact leaves_of rfl (sliceAborts_of_begun begun)
  case fomGood =>
    exact leaves_of rfl (effFomRefresh_of_mode carries ((if_pos locked).trans seen.symm) (if_neg good.not_gt))
  case fomWarn =>
    exact leaves_of rfl (effFomRefresh_of_mode carries ((if_pos locked).trans seen.symm)
      ((if_pos bad).trans (congrArg (· + 1) ninth)))
  case fomLow =>
    have capped : min ((lane s l).fomLow + 1) 11 = (lane s l).fomLow + 1 := by omega
    exact leaves_of rfl (by
      rw [effFomRefresh_of_mode carries ((if_pos locked).trans seen.symm) (if_pos bad), if_neg (by omega), capped])
  case latency => exact leaves_of rfl (effLatencyChanged_of_locked carries locked)
  case cdrLos => exact leaves_of rfl (effCdrLos_of_locked locked)
  case fomUnlocked =>
    have unseen : (if (lane s l).cdrLock then eyeFom e else 0) = 0 := by simp [unlocked]
    exact leaves_of rfl (by rw [effFomRefresh_of_mode carries unseen rfl, if_neg (by split <;> omega), kept])
  case pinTemp => exact leaves_of rfl ((effLatencyTempUpdate_of_inRange low high).trans (if_pos rfl))
  case quadTemp => exact leaves_of rfl ((effLatencyTempUpdate_of_inRange low high).trans (if_neg isQuad))
  case segment => exact leaves_of rfl ((effTxSegmentSwapped_of_mode carries).trans (if_neg spare.not_ge))
  case noSegment => exact leaves_of rfl ((effTxSegmentSwapped_of_mode carries).trans (if_pos spareless))

end Sys2Proof
end

section
/-! SUPPORT. Failover, re-lock and readiness of a quad (R28 to R31). -/

namespace Sys2Proof.Machine

section
variable {q pll : Nat} {s t : State} (hpll : pll < 2) (locked : pllLocked s q pll = true)
  (lost : t = beginCause (bQ q) pll
    (modQuad q (fun x => if pll = 0 then { x with lockA := false } else { x with lockB := false }) s))
include hpll locked lost

/-- QUAD_PLL_UNLOCK of the serving PLL fails over to the other one, which a test yields first (R28, R395). -/
theorem effQuadPllUnlock_of_serving {u v : State} (paired : (quad t q).paired = true)
    (serving : (quad t q).serving = pll)
    (yielded : u = bistYield (bQ q) (8 + (1 - pll)) t) (stillPaired : (quad u q).paired = true)
    (stillServing : (quad u q).serving = pll) (other : pllLocked u q (1 - pll) = true)
    (moved : v = substituted none (bQ q) (8 + pll) (8 + (1 - pll)) 3 (report (bQ q) 0x02 []
      (modQuad q (fun x => { x with
        serving := 1 - pll, failovers := min (x.failovers + 1) 255, failBusy := true, filterOff := true }) u))) :
    effQuadPllUnlock q pll s = (activeLanes v q).foldl (fun s l => failoverLane l s) v := by
  have serves : (quad t q).paired = true ∧ (quad t q).serving = pll := ⟨paired, serving⟩
  rw [effQuadPllUnlock, if_neg (by simp [locked, hpll])]
  dsimp only
  rw [← lost, if_pos serves, ← yielded, if_pos ⟨stillPaired, stillServing, other⟩, ← moved]

/-- QUAD_PLL_UNLOCK of a standby PLL only raises its source (R29). -/
theorem effQuadPllUnlock_of_standby (standby : (quad t q).serving = 1 - pll) (served : hasServing t q = true) :
    effQuadPllUnlock q pll s = t := by
  have away : ¬ ((quad t q).paired = true ∧ (quad t q).serving = pll) := by omega
  rw [effQuadPllUnlock, if_neg (by simp [locked, hpll])]
  dsimp only
  rw [← lost, if_neg away, if_neg (fun ⟨p, f, _⟩ => away ⟨p, f⟩), quadLoss, if_pos served]

end

section
variable {q : Nat} {s t : State}

/-- FAILOVER_DONE: the lanes that have CDR lock again publish what was measured anew. -/
theorem effFailoverDone_of_busy {meas : List (LatMeas × LatMeas)} (busy : (quad s q).failBusy = true)
    (ended : t = modQuad q (fun x => { x with failBusy := false }) s) :
    effFailoverDone q meas s = report (bQ q) 0x03 [] ((activeLanes t q).foldl (fun u l =>
      if (lane u l).cdrLock then
        publishBoth l (meas.getD (l % 4) ((lane u l).txMeas, (lane u l).rxMeas)).1
          (meas.getD (l % 4) ((lane u l).txMeas, (lane u l).rxMeas)).2 u
      else u) t) := by
  rw [effFailoverDone, if_neg (by simp [busy]), ended]
  dsimp only
  congr 2
  funext u l
  cases (lane u l).cdrLock <;> rfl

theorem effPllRelockFail_of_oneLocked (runs : blkRun s (bQ q) = true) (paired : (quad s q).paired = true)
    (one : (quad s q).lockA ≠ (quad s q).lockB) : effPllRelockFail q s = raise (bQ q) 3 s := by
  rw [effPllRelockFail, if_pos ⟨runs, paired, by simpa using one⟩]

/-- QUAD_PLL_RELOCKED of PLL A while B is locked: A locks as the standby, and the squelch of the lanes with a locked
PLL ends (R29, R30). -/
theorem effQuadPllRelocked_of_otherLocked {u : State} (runs : blkRun s (bQ q) = true)
    (unlocked : (quad s q).lockA = false) (other : (quad s q).lockB = true) (plan : (quad s q).planA ≠ 0)
    (relocked : t = endCause (bQ q) 0 (modQuad q (fun x => { x with lockA := true }) s))
    (serves : allServing t q = true) (ended : u = endCause (bQ q) 2 t) :
    effQuadPllRelocked q 0 s = driveLines q ((activeLanes u q).foldl (fun v l =>
      if pllLocked v q (lanePll v l) then modLane l (fun x => { x with squelched := false }) v else v) u) := by
  subst relocked
  simp [effQuadPllRelocked, runs, unlocked, other, plan, pllLocked, serves, ended]

/-- NO_SERVING_PLL squelches the lane and takes it down (R30). -/
theorem effNoServingPll_of_unlocked {n : Nat} (hn : n < 4) (carries : (lane s (4 * q + n)).mode ≠ 0)
    (unlocked : pllLocked s q (lanePll s (4 * q + n)) = false) :
    effNoServingPll q n s = quadLoss q (driveLines q (laneLost (4 * q + n)
      (modLane (4 * q + n) (fun x => { x with squelched := true }) (beginCause (bQ q) 2 s)))) := by
  simp [effNoServingPll, Nat.mod_eq_of_lt hn, carries, unlocked]

/-- QUAD_READY with the PLL of every lane locked sets READY_1 and ends the squelch (R31). -/
theorem effQuadReady_of_allServing (runs : blkRun s (bQ q) = true) (locked : (quad s q).lockA = true)
    (plan : (quad s q).planA ≠ 0) (serves : allServing s q = true)
    (one : hasServing s q = true) :
    effQuadReady q s = driveLines q ((activeLanes s q).foldl
      (fun s l => modLane l (fun x => { x with squelched := false }) s)
      (modQuad q (fun x => { x with ready := true }) s)) := by
  simp [effQuadReady, runs, locked, plan, serves, one]

end

end Sys2Proof.Machine

namespace Sys2Proof

open Machine

/-- Settles O33, row by row: each leaves what its effect comes to in the case at hand. -/
theorem quadPllRows : Obligations.QuadPllRows := by
  intro q pll n meas s hpll
  refine ⟨fun locked t lost => ⟨fun paired serving u yielded stillPaired stillServing other v moved => ?failover,
      fun _ standby served => ?standby⟩,
    fun busy t ended => ?failoverDone, ?filterEnd, fun runs paired one => ?relockFail,
    fun runs unlocked other plan t relocked serves u ended => ?relocked, fun hn carries unlocked => ?noServing,
    fun runs locked plan serves one => ?ready⟩
  case failover =>
    exact leaves_of rfl
      (effQuadPllUnlock_of_serving hpll locked lost paired serving yielded stillPaired stillServing other moved)
  case standby => exact leaves_of rfl (effQuadPllUnlock_of_standby hpll locked lost standby served)
  case failoverDone => exact leaves_of rfl (effFailoverDone_of_busy busy ended)
  case filterEnd => exact leaves_of rfl rfl
  case relockFail => exact leaves_of rfl (effPllRelockFail_of_oneLocked runs paired one)
  case relocked =>
    exact leaves_of rfl (effQuadPllRelocked_of_otherLocked runs unlocked other plan relocked serves ended)
  case noServing => exact leaves_of rfl (effNoServingPll_of_unlocked hn carries unlocked)
  case ready => exact leaves_of rfl (effQuadReady_of_allServing runs locked plan serves one)

end Sys2Proof
end

section
/-! SUPPORT. The line code of a block: bits of a number, the header's check, scrambler and stuffing (R43, R44, R46 to
R49). -/

namespace Sys2Proof.Machine

theorem bitsMsb_zero (v : Nat) : bitsMsb 0 v = [] := rfl

theorem bitsMsb_succ (n v : Nat) : bitsMsb (n + 1) v = v.testBit n :: bitsMsb n v := rfl

@[simp] theorem length_bitsMsb (n v : Nat) : (bitsMsb n v).length = n := by
  induction n with
  | zero => rfl
  | succ n ih => simp [bitsMsb_succ, ih]

theorem scramble_cons (seed : Nat) (b : Bool) (r : List Bool) :
    scramble seed (b :: r) = (b != (seed.testBit 30 != seed.testBit 27)) ::
      scramble ((seed * 2 + b2n (seed.testBit 30 != seed.testBit 27)) % 2 ^ 31) r := rfl

@[simp] theorem length_scramble (seed : Nat) (l : List Bool) : (scramble seed l).length = l.length := by
  induction l generalizing seed with
  | nil => rfl
  | cons b r ih => simp [scramble_cons, ih]

@[simp] theorem length_wordBits (w : Bool × Word64) : (wordBits w).length = 66 := by simp [wordBits]

/-- A number read from the bits of another, behind the number already read. -/
theorem foldl_bitsMsb (n v a : Nat) :
    (bitsMsb n v).foldl (fun a b => a * 2 + b2n b) a = a * 2 ^ n + v % 2 ^ n := by
  induction n generalizing a with
  | zero => simp [bitsMsb_zero, Nat.mod_one]
  | succ n ih =>
    have top : b2n (v.testBit n) = v / 2 ^ n % 2 := by
      rw [Nat.testBit_eq_decide_div_mod_eq, b2n]; split <;> simp_all
    have low : v % 2 ^ (n + 1) = v % 2 ^ n + 2 ^ n * (v / 2 ^ n % 2) := by rw [pow_succ, Nat.mod_mul]
    rw [bitsMsb_succ, List.foldl_cons, ih, top, low]
    ring

/-- The bits of a number that fits spell it. -/
theorem natMsb_bitsMsb {n v : Nat} (fits : v < 2 ^ n) : natMsb (bitsMsb n v) = v := by
  rw [natMsb, foldl_bitsMsb, Nat.mod_eq_of_lt fits, Nat.zero_mul, Nat.zero_add]

theorem crcMsbBit_lt {w p : Nat} (poly : p < 2 ^ w) (c : Nat) (b : Bool) : crcMsbBit w p c b < 2 ^ w := by
  have shifted : c * 2 % 2 ^ w < 2 ^ w := Nat.mod_lt _ (Nat.two_pow_pos w)
  unfold crcMsbBit
  dsimp only
  split
  · exact Nat.xor_lt_two_pow shifted poly
  · exact shifted

/-- A CRC is as wide as it is said to be. -/
theorem crcMsb_lt {w p i : Nat} (poly : p < 2 ^ w) (start : i < 2 ^ w) (l : List Bool) : crcMsb w p i l < 2 ^ w := by
  induction l generalizing i with
  | nil => exact start
  | cons b r ih => exact ih (crcMsbBit_lt poly i b)

theorem headerChk_lt (v : Nat) : headerChk v < 8 := crcMsb_lt (by decide) (by decide) _

section
variable {slot seq : Nat} (hslot : slot < 16) (hseq : seq < 256)
include hslot hseq

theorem mkHeader_eq : mkHeader slot seq = (slot * 256 + seq) * 8 + headerChk (slot * 256 + seq) := by
  simp [mkHeader, Nat.mod_eq_of_lt hslot, Nat.mod_eq_of_lt hseq]

/-- A header leaves bit ZERO clear (Table DF-3). -/
theorem mkHeader_lt : mkHeader slot seq < 2 ^ 15 := by
  have chk := headerChk_lt (slot * 256 + seq)
  rw [mkHeader_eq hslot hseq]
  generalize headerChk (slot * 256 + seq) = c at chk ⊢
  omega

theorem readHeader_mkHeader : readHeader (mkHeader slot seq) = some (slot, seq) := by
  have fits := mkHeader_lt hslot hseq
  have made := mkHeader_eq hslot hseq
  have chk := headerChk_lt (slot * 256 + seq)
  generalize mkHeader slot seq = h at fits made ⊢
  have front : h / 8 = slot * 256 + seq := by
    generalize headerChk (slot * 256 + seq) = c at chk made
    omega
  have check : h % 8 = headerChk (h / 8) := by
    rw [front]
    generalize headerChk (slot * 256 + seq) = c at chk made ⊢
    omega
  have slotBack : h / 2 ^ 11 % 16 = slot := by omega
  have seqBack : h / 8 % 256 = seq := by omega
  rw [readHeader, if_pos ⟨fits, check⟩, slotBack, seqBack]

end

/-- The scrambler's key stream does not depend on the bits, so that it undoes itself (R46). -/
theorem scramble_scramble (seed : Nat) (l : List Bool) : scramble seed (scramble seed l) = l := by
  induction l generalizing seed with
  | nil => rfl
  | cons b r ih => simp [scramble_cons, ih]

/-- The run of equal carried bits that `b` makes, where `last` ended a run of `run` (R47). -/
def runOf (run : Nat) (last : Option Bool) (b : Bool) : Nat := if last = some b then run + 1 else 1

theorem runOf_le (run : Nat) (last : Option Bool) (b : Bool) : runOf run last b ≤ run + 1 := by
  rw [runOf]
  split <;> omega

section
variable {run : Nat} {last : Option Bool} {b : Bool}

theorem stuff_cons (r : List Bool) :
    stuff (b :: r) run last =
      if runOf run last b = 24 then (b :: (!b) :: (stuff r 0 none).1, (stuff r 0 none).2 + 1)
      else (b :: (stuff r (runOf run last b) (some b)).1, (stuff r (runOf run last b) (some b)).2) := rfl

theorem stuff_cons_of_full (full : runOf run last b = 24) (r : List Bool) :
    (stuff (b :: r) run last).1 = b :: (!b) :: (stuff r 0 none).1 := by
  rw [stuff_cons, if_pos full]

theorem stuff_cons_of_short (short : runOf run last b ≠ 24) (r : List Bool) :
    (stuff (b :: r) run last).1 = b :: (stuff r (runOf run last b) (some b)).1 := by
  rw [stuff_cons, if_neg short]

theorem destuff_cons_of_full (full : runOf run last b = 24) (n : Nat) (s : Bool) (r : List Bool) :
    destuff (n + 1) (b :: s :: r) run last = (b :: (destuff n r 0 none).1, (destuff n r 0 none).2 || s == b) :=
  if_pos full

theorem destuff_cons_of_short (short : runOf run last b ≠ 24) (n : Nat) (r : List Bool) :
    destuff (n + 1) (b :: r) run last =
      (b :: (destuff n r (runOf run last b) (some b)).1, (destuff n r (runOf run last b) (some b)).2) := if_neg short

end

/-- Destuffing reads back the carried bits, and each stuff bit is the complement of the bit before it (R47, R48). -/
theorem destuff_stuff (l rest : List Bool) (run : Nat) (last : Option Bool) (below : run < 24) :
    destuff l.length ((stuff l run last).1 ++ rest) run last = (l, false) := by
  induction l generalizing run last with
  | nil => rfl
  | cons b r ih =>
    by_cases full : runOf run last b = 24
    · rw [stuff_cons_of_full full, List.length_cons, List.cons_append, List.cons_append, destuff_cons_of_full full,
        ih 0 none (by decide)]
      simp
    · have next : runOf run last b < 24 := Nat.lt_of_le_of_ne ((runOf_le run last b).trans below) full
      rw [stuff_cons_of_short full, List.length_cons, List.cons_append, destuff_cons_of_short full,
        ih (runOf run last b) (some b) next]

/-- No stuff bit comes before the run of 24 is full. -/
theorem stuff_append (l r : List Bool) (run : Nat) (last : Option Bool) (below : run + l.length < 24) :
    ∃ o, (stuff (l ++ r) run last).1 = l ++ o := by
  induction l generalizing run last with
  | nil => exact ⟨_, rfl⟩
  | cons b l ih =>
    have grows : runOf run last b + l.length ≤ run + (l.length + 1) := by
      rw [Nat.add_comm l.length, ← Nat.add_assoc]
      exact Nat.add_le_add_right (runOf_le run last b) _
    have next : runOf run last b + l.length < 24 := Nat.lt_of_le_of_lt grows below
    have short : runOf run last b ≠ 24 := Nat.ne_of_lt (Nat.lt_of_le_of_lt (Nat.le_add_right _ _) next)
    obtain ⟨o, rest⟩ := ih (runOf run last b) (some b) next
    exact ⟨o, by rw [List.cons_append, stuff_cons_of_short short, rest, List.cons_append]⟩

/-- The carried bits of a block behind its header, before scrambling (R49). -/
def blockBody (sig : Nat) (ws : List (Bool × Word64)) : List Bool := bitsMsb 64 sig ++ ws.flatMap wordBits

/-- The carried bits of a block, header first (R43, R46). -/
def carriedBits (slot seq sig : Nat) (ws : List (Bool × Word64)) : List Bool :=
  bitsMsb 16 (mkHeader slot seq) ++ scramble (scrSeed slot seq) (blockBody sig ws)

theorem length_blockBody (sig : Nat) {ws : List (Bool × Word64)} (full : ws.length = 28) :
    (blockBody sig ws).length = 1912 := by
  delta blockBody
  simp [List.length_flatMap, full]

theorem length_carriedBits (slot seq sig : Nat) {ws : List (Bool × Word64)} (full : ws.length = 28) :
    (carriedBits slot seq sig ws).length = 1928 := by
  delta carriedBits
  rw [List.length_append, length_bitsMsb, length_scramble, length_blockBody sig full]

section
variable {slot seq : Nat} (hslot : slot < 16) (hseq : seq < 256) (sig : Nat) (ws : List (Bool × Word64))
include hslot hseq

/-- Behind the comma of a block stand its stuffed bits and the pad (R43, R47). -/
theorem drop_comma_buildBlock : ∃ rest, (buildBlock slot seq sig ws).drop 32 =
    (stuff (carriedBits slot seq sig ws) 0 none).1 ++ rest := by
  have eq : buildBlock slot seq sig ws = comma ++ (stuff (carriedBits slot seq sig ws) 0 none).1 ++
      pad (88 - (stuff (carriedBits slot seq sig ws) 0 none).2) := by
    simp [buildBlock, carriedBits, blockBody, Nat.mod_eq_of_lt hslot, Nat.mod_eq_of_lt hseq]
  exact ⟨_, by rw [eq, List.append_assoc]; exact List.drop_left (l₁ := comma)⟩

theorem take_header_buildBlock :
    ((buildBlock slot seq sig ws).drop 32).take 16 = bitsMsb 16 (mkHeader slot seq) := by
  obtain ⟨rest, region⟩ := drop_comma_buildBlock hslot hseq sig ws
  obtain ⟨o, front⟩ : ∃ o, (stuff (carriedBits slot seq sig ws) 0 none).1 = bitsMsb 16 (mkHeader slot seq) ++ o :=
    stuff_append (bitsMsb 16 (mkHeader slot seq)) (scramble (scrSeed slot seq) (blockBody sig ws)) 0 none
      (by rw [length_bitsMsb]; decide)
  rw [region, front, List.append_assoc]
  exact List.take_left' (length_bitsMsb 16 _)

theorem destuff_buildBlock (full : ws.length = 28) :
    destuff 1928 ((buildBlock slot seq sig ws).drop 32) 0 none = (carriedBits slot seq sig ws, false) := by
  obtain ⟨rest, region⟩ := drop_comma_buildBlock hslot hseq sig ws
  rw [region, ← length_carriedBits slot seq sig full]
  exact destuff_stuff _ rest 0 none (by decide)

end

end Sys2Proof.Machine

namespace Sys2Proof

open Machine

/-- Settles O29: header, scrambler and stuffing are each undone, and so is the block that they make. -/
theorem lineCodeRoundTrip : Obligations.LineCodeRoundTrip := by
  refine ⟨fun _ _ => readHeader_mkHeader, scramble_scramble, destuff_stuff, ?block⟩
  case block =>
    intro slot seq sig ws hslot hseq _ full region made
    subst made
    have header : natMsb (bitsMsb 16 (mkHeader slot seq)) = mkHeader slot seq :=
      natMsb_bitsMsb ((mkHeader_lt hslot hseq).trans (by decide))
    have body : (carriedBits slot seq sig ws).drop 16 = scramble (scrSeed slot seq) (blockBody sig ws) :=
      List.drop_left' (length_bitsMsb 16 _)
    rw [take_header_buildBlock hslot hseq, header, destuff_buildBlock hslot hseq sig ws full, body, scramble_scramble]
    exact ⟨readHeader_mkHeader hslot hseq, rfl, rfl⟩

end Sys2Proof
end

section
/-! SUPPORT. The link states of a trunk: signal, training, time check, hold-off, loss and the exchange window (R62, R63,
R65, R66, R68, R81, R116). -/

namespace Sys2Proof.Machine

@[simp] theorem trunk_setTrunk_same (p : Nat) (v : Trunk) (s : State) : trunk (setTrunk p v s) p = v :=
  Tab.get_set_same Trunk.reset s.trunks p v

@[simp] theorem trunk_modTrunk_same (p : Nat) (f : Trunk → Trunk) (s : State) :
    trunk (modTrunk p f s) p = f (trunk s p) := trunk_setTrunk_same p _ s

@[simp] theorem lane_modLane_same (l : Nat) (f : Lane → Lane) (s : State) : lane (modLane l f s) l = f (lane s l) :=
  Tab.get_set_same Lane.reset s.lanes l _

/-- A lane's signal has no part in what its port runs as. -/
theorem portMode_withSignal (p : Nat) (s : State) :
    portMode (modLane p (fun x => { x with sigDet := true }) s) p = portMode s p := by
  rw [portMode, lane_modLane_same]
  rfl

theorem isTrunk_withSignal (p : Nat) (s : State) :
    isTrunk (modLane p (fun x => { x with sigDet := true }) s) p = isTrunk s p := by
  rw [isTrunk, portMode_withSignal]
  rfl

section
variable {p : Nat} {s : State} (isT : isTrunk s p = true)
include isT

/-- A trunk has its own lane alone. -/
theorem portLanes_of_isTrunk : portLanes s p = [p] := by
  have mode : portMode s p = 6 ∨ portMode s p = 7 := by
    delta isTrunk at isT
    simpa using isT
  rw [portLanes, if_neg (by rcases mode with e | e <;> simp [e])]

/-- SIGNAL_DETECTED on a trunk: the lane has a signal, the port is tested for LOCKING, and a lane that is not adapted
adapts where its port is in LOCKING. -/
theorem effSignalDetected_of_isTrunk {t u : State} (signal : t = modLane p (fun x => { x with sigDet := true }) s)
    (after : trunkSignal p t = u) :
    effSignalDetected p s = if portLocking u p && !laneAdapted u p then startAdapt p u else u := by
  have stays : isTrunk t p = true := by rw [signal, isTrunk_withSignal, isT]
  have port : portSignal p s = u := by
    simp only [portSignal, isT, Bool.true_or, if_true, portLanes_of_isTrunk isT, List.foldl_cons, List.foldl_nil,
      ← signal, stays, after]
  rw [effSignalDetected, portLanes_of_isTrunk isT, port, List.foldl_cons, List.foldl_nil]

theorem effLockTimeout_of_isTrunk :
    effLockTimeout p s = if (trunk s p).link = .locking then raise (bP p) 1 s else s := by
  simp [effLockTimeout, isT]

section
variable {g : Training} (aligned : (trunk s p).link = .aligned) (trains : (trunk s p).training = some g)
include aligned trains

theorem effTrainingDone_of_training (fom : Nat) :
    effTrainingDone p fom s = if g.finished then endTraining p fom g s else s := by
  simp [effTrainingDone, trains, isT, aligned]

theorem effTrainingRequestTimeout_of_training :
    effTrainingRequestTimeout p s = if g.finished then s else endTraining p (lane s p).fom g s := by
  cases ends : g.finished <;> simp [effTrainingRequestTimeout, trains, isT, aligned, ends]

end

theorem effTrunkTrained_of_aligned (aligned : (trunk s p).link = .aligned) (adapted : (trunk s p).adaptDone = true)
    (trained : (trunk s p).txTrained = true ∨ parN s (bP p) 0 Par.dfTxTrain = 0) (clean : (trunk s p).rx.clean = 1024)
    (far : 2 ≤ (trunk s p).rx.alarm / 2 ^ 57 % 8) :
    effTrunkTrained p s = farEndRule p (allocateCredits p (enterTrained p s)) :=
  if_pos ⟨isT, aligned, adapted, trained, clean, far⟩

/-- The check of R65 passes in TRAINED: TIME_OK sets and the link enters TIMED. -/
theorem effTimeCheckPassed_of_trained (trained : (trunk s p).link = .trained)
    (unset : (trunk s p).time.timeOk = false) (pass : timeCheck s p = true) :
    effTimeCheckPassed p s = setLink p .timed (report (bP p) 0x41 [1, 0]
      (setTrunk p { trunk s p with time := { (trunk s p).time with timeOk := true, stepRun := 0 } } s)) := by
  have above : 3 ≤ (trunk s p).link.code := by rw [trained]; decide
  rw [effTimeCheckPassed, if_pos ⟨isT, above, by simp [unset], pass⟩]
  exact if_pos trained

theorem effExchangeLoss_of_isTrunk :
    effExchangeLoss p s = if 64 ≤ (trunk s p).time.lost then clearTimeOk p 1 s else s := by
  simp [effExchangeLoss, isT]

theorem effTrunkHoldoffExpired_of_above (above : (trunk s p).link = .timed ∨ (trunk s p).link = .trained) :
    effTrunkHoldoffExpired p s = reachUp p (setTrunk p { trunk s p with heldOff := true } s) := if_pos ⟨isT, above⟩

theorem effLinkAdminDown_of_isTrunk :
    effLinkAdminDown p s = if parN s (bP p) 0 Par.dfLinkAdmin = 1
      then adminDown p (setPar (bP p) 0 Par.dfLinkAdmin 0 s) else s := by
  simp [effLinkAdminDown, isT]

end

section
variable {p : Nat} {s : State}

/-- A running trunk with LINK_ADMIN 1, a signal and CDR lock leaves DOWN for LOCKING (Table DF-16). -/
theorem trunkSignal_of_down (runs : blkRun s (bP p) = true) (down : (trunk s p).link = .down)
    (admin : parN s (bP p) 0 Par.dfLinkAdmin = 1) (signal : (lane s p).sigDet = true)
    (locked : (lane s p).cdrLock = true) :
    trunkSignal p s = setLink p .locking (modTrunk p (fun x =>
      { x with adaptDone := laneAdapted s p, txTrained := false, rx := { x.rx with commas := 0, lastSlot := none } }) s) :=
  if_pos ⟨runs, down, admin, signal, locked⟩

theorem trunkSignal_of_notDown (above : (trunk s p).link ≠ .down) : trunkSignal p s = s :=
  if_neg fun ⟨_, down, _⟩ => above down

theorem effTrainingDone_of_none (untrained : (trunk s p).training = none) (fom : Nat) :
    effTrainingDone p fom s = s := by
  delta effTrainingDone
  rw [untrained]

theorem effTrainingRequestTimeout_of_none (untrained : (trunk s p).training = none) :
    effTrainingRequestTimeout p s = s := by
  delta effTrainingRequestTimeout
  rw [untrained]

/-- The check of R65 is not passed and nothing changes, the link entering no TIMED. -/
theorem effTimeCheck_of_fails (fails : timeCheck s p = false) (away : (trunk (presence p s) p).link ≠ .timed) :
    effTimeCheck p s = presence p s := by
  have same : effTimeCheckPassed p s = s := if_neg fun ⟨_, _, _, pass⟩ => by simp [fails] at pass
  rw [effTimeCheck, same]
  exact if_neg fun ⟨_, timed⟩ => away timed

/-- Entry to TIMED by TIME_CHECK_PASSED checks the credits and tests for UP. -/
theorem effTimeCheck_of_entersTimed {t : State} (before : (trunk s p).link ≠ .timed)
    (passed : t = presence p (effTimeCheckPassed p s)) (timed : (trunk t p).link = .timed) :
    effTimeCheck p s = reachUp p (checkCredit p t) := by
  subst passed
  exact if_pos ⟨before, timed⟩

theorem reachUp_of_ready (timed : (trunk s p).link = .timed) (held : (trunk s p).heldOff = true)
    (flushed : (trunk s p).flushed = true) (far : 4 ≤ (trunk s p).rx.alarm / 2 ^ 57 % 8) :
    reachUp p s = setLink p .up s := if_pos ⟨timed, held, flushed, far⟩

theorem reachUp_of_notReady
    (lacks : (trunk s p).link = .trained ∨ (trunk s p).flushed = false ∨ (trunk s p).rx.alarm / 2 ^ 57 % 8 < 4) :
    reachUp p s = s := by
  refine if_neg fun ⟨timed, _, flushed, far⟩ => ?_
  rcases lacks with trained | unflushed | below
  · simp [timed] at trained
  · simp [flushed] at unflushed
  · exact below.not_ge far

/-- TRUNK_LINK_DOWN_FILTER in ALIGNED or above, not suspended by a failover (R63). -/
theorem effTrunkLinkDownFilter_of_above (above : 2 ≤ (trunk s p).link.code)
    (counts : (quad s (p / 4)).filterOff = false) :
    effTrunkLinkDownFilter p s =
      if 3 ≤ (trunk (lossMisses p s) p).rx.missRun then linkDown p (lossMisses p s) else lossMisses p s :=
  if_pos ⟨above, by simp [counts]⟩

theorem effTrunkLinkDownFilter_of_off (off : (trunk s p).link.code < 2 ∨ (quad s (p / 4)).filterOff = true) :
    effTrunkLinkDownFilter p s = s := by
  refine if_neg fun ⟨above, counts⟩ => ?_
  rcases off with below | suspended
  · exact below.not_ge above
  · simp [suspended] at counts

/-- A window with enough exchanges yields the negated mean offset (R116). -/
theorem windowEnd_of_enough {m : TrunkTime} (time : m = (trunk s p).time) (kept : m.discarded ≤ m.winEx.length)
    (enough : 2 ^ m.win.log2 ≤ 4 * (m.winEx.length + m.discarded)) :
    windowEnd p s = (some (-(meanOf (m.winEx.map (·.2.2)))), setTrunk p { trunk s p with
      time := newWindow s p { m with
        emptyRun := 0, prevMean := some (meanOf (m.winEx.map (·.1))), meanDelay := meanOf (m.winEx.map (·.1))
        asym := meanOf (m.winEx.map (·.2.1)), offset := meanOf (m.winEx.map (·.2.2)) } } s) := by
  subst time
  exact if_neg (not_or.mpr ⟨by rw [two_mul, Nat.add_lt_add_iff_right]; exact kept.not_gt, enough.not_gt⟩)

theorem windowEnd_of_short {m : TrunkTime} (time : m = (trunk s p).time)
    (short : m.winEx.length < m.discarded ∨ 4 * (m.winEx.length + m.discarded) < 2 ^ m.win.log2) :
    windowEnd p s = (none, raise bGUH 4 (setTrunk p { trunk s p with time := newWindow s p { m with
      emptyRun := m.emptyRun + 1, prevMean := if 2 ≤ m.emptyRun + 1 then none else m.prevMean } } s)) := by
  subst time
  exact if_pos (short.imp_left fun few => by rwa [two_mul, Nat.add_lt_add_iff_right])

/-- The window's sample, if it yields one, goes to Guhild and to the phase monitor (R116, R139, R141). -/
theorem effExchangeWindowEnd_of_isTrunk (isT : isTrunk s p = true) :
    effExchangeWindowEnd p s = (windowEnd p s).1.elim (windowEnd p s).2 fun e =>
      phaseSample (0x20 + p) e (effGuhSample (0x20 + p) e (windowEnd p s).2) := by
  rw [effExchangeWindowEnd, if_neg (by simp [isT])]
  rcases windowEnd p s with ⟨sample, t⟩
  cases sample <;> rfl

end

end Sys2Proof.Machine

namespace Sys2Proof

open Machine

/-- Settles O27, row by row: each leaves what its effect comes to in the case at hand. -/
theorem trunkLinkRows : Obligations.TrunkLinkRows := by
  intro p fom s isT
  refine ⟨fun t signal => ⟨fun runs down admin sig locked u entered locking => ⟨fun adapted => ?adapted,
      fun unadapted => ?adapts⟩, fun above away => ?signalAbove⟩,
    fun locking => ?lockTimeout, fun away => ?noLockTimeout,
    fun aligned g trains x tx t ended => ⟨fun ends => ⟨?trainingDone, ?overNoTimeout⟩,
      fun goesOn => ⟨?requestTimeout, ?goesOnNotDone⟩⟩,
    fun untrained => ⟨?noTrainingDone, ?noRequestTimeout⟩,
    fun aligned adapted trained clean far => ?trained, fun away => ?notTrained,
    fun trained unset pass t checked timed => ?timeCheck, fun fails away => ?noTimeCheck,
    fun lost => ?exchangeLoss, fun few => ?noExchangeLoss,
    fun above t elapsed => ⟨fun timed flushed far => ?holdoffUp, fun lacks => ?holdoffStays⟩,
    fun above counts => ⟨fun third => ?filterDown, fun fewer => ?filterStays⟩, fun off => ?filterOff,
    fun admin => ?adminDown, fun unset => ?adminStays,
    fun m time => ⟨fun kept enough e t mean taken => ?window, fun short => ?windowEmpty⟩⟩
  case adapted =>
    have after : trunkSignal p t = u := (trunkSignal_of_down runs down admin sig locked).trans entered.symm
    exact leaves_of rfl ((effSignalDetected_of_isTrunk isT signal after).trans (if_neg (by simp [adapted])))
  case adapts =>
    have after : trunkSignal p t = u := (trunkSignal_of_down runs down admin sig locked).trans entered.symm
    exact leaves_of rfl ((effSignalDetected_of_isTrunk isT signal after).trans (if_pos (by simp [locking, unadapted])))
  case signalAbove =>
    exact leaves_of rfl ((effSignalDetected_of_isTrunk isT signal (trunkSignal_of_notDown above)).trans
      (if_neg (by simp [away])))
  case lockTimeout => exact leaves_of rfl ((effLockTimeout_of_isTrunk isT).trans (if_pos locking))
  case noLockTimeout => exact leaves_of rfl ((effLockTimeout_of_isTrunk isT).trans (if_neg away))
  case trainingDone =>
    subst tx ended
    exact leaves_of rfl ((effTrainingDone_of_training isT aligned trains fom).trans (if_pos ends))
  case overNoTimeout =>
    exact leaves_of rfl ((effTrainingRequestTimeout_of_training isT aligned trains).trans (if_pos ends))
  case requestTimeout =>
    subst tx ended
    exact leaves_of rfl ((effTrainingRequestTimeout_of_training isT aligned trains).trans (if_neg (by simp [goesOn])))
  case goesOnNotDone =>
    exact leaves_of rfl ((effTrainingDone_of_training isT aligned trains fom).trans (if_neg (by simp [goesOn])))
  case noTrainingDone => exact leaves_of rfl (effTrainingDone_of_none untrained fom)
  case noRequestTimeout => exact leaves_of rfl (effTrainingRequestTimeout_of_none untrained)
  case trained => exact leaves_of rfl (effTrunkTrained_of_aligned isT aligned adapted trained clean far)
  case notTrained => exact leaves_of rfl (if_neg fun ⟨_, aligned, _⟩ => away aligned)
  case timeCheck =>
    exact leaves_of rfl (effTimeCheck_of_entersTimed (by simp [trained])
      (checked.trans (by rw [effTimeCheckPassed_of_trained isT trained unset pass])) timed)
  case noTimeCheck => exact leaves_of rfl (effTimeCheck_of_fails fails away)
  case exchangeLoss =>
    exact leaves_of rfl (congrArg (presence p) ((effExchangeLoss_of_isTrunk isT).trans (if_pos lost)))
  case noExchangeLoss =>
    exact leaves_of rfl (congrArg (presence p) ((effExchangeLoss_of_isTrunk isT).trans (if_neg few.not_ge)))
  case holdoffUp =>
    subst elapsed
    exact leaves_of rfl (congrArg (presence p) ((effTrunkHoldoffExpired_of_above isT above).trans
      (reachUp_of_ready (by simp [timed]) (by simp) (by simp [flushed]) (by simpa using far))))
  case holdoffStays =>
    subst elapsed
    exact leaves_of rfl (congrArg (presence p) ((effTrunkHoldoffExpired_of_above isT above).trans
      (reachUp_of_notReady (by simpa using lacks))))
  case filterDown =>
    exact leaves_of rfl (congrArg (presence p) ((effTrunkLinkDownFilter_of_above above counts).trans (if_pos third)))
  case filterStays =>
    exact leaves_of rfl (congrArg (presence p)
      ((effTrunkLinkDownFilter_of_above above counts).trans (if_neg fewer.not_ge)))
  case filterOff => exact leaves_of rfl (congrArg (presence p) (effTrunkLinkDownFilter_of_off off))
  case adminDown => exact leaves_of rfl ((effLinkAdminDown_of_isTrunk isT).trans (if_pos admin))
  case adminStays => exact leaves_of rfl ((effLinkAdminDown_of_isTrunk isT).trans (if_neg unset))
  case window =>
    subst mean taken
    exact leaves_of rfl (by
      rw [effExchangeWindowEnd_of_isTrunk isT, windowEnd_of_enough time kept enough]; rfl)
  case windowEmpty => exact leaves_of rfl (by
    rw [effExchangeWindowEnd_of_isTrunk isT, windowEnd_of_short time short]; rfl)

end Sys2Proof
end

section
/-! SUPPORT. A block received on a trunk and a block sent (R43 to R48, R54 to R56, R62, R71, R73, R79, R81). -/

namespace Sys2Proof.Machine

/-- What a block without a stuff error does: the scrambler is undone, and the signal word and the 28 words are taken
(R46, R54, R56). -/
def goodBlock (p slot seq stamp : Nat) (bits : List Bool) (s : State) : State :=
  let body := scramble (scrSeed slot seq) (bits.drop 16)
  takeWords p stamp (body.drop 64) (rxSignal p slot seq stamp (natMsb (body.take 64))
    (modTrunk p (fun x => { x with rx := { x.rx with clean := min (x.rx.clean + 1) 1024 } }) s))

/-- The words of frames that a block carries: the ABORT that LINK_ADMIN owes, or in UP those waiting (R54, R81). -/
def blockWords (t : Trunk) : List (Bool × Word64) :=
  if t.tx.ending = true then [abortWord 3] else if t.link = .up then t.tx.words.take 28 else []

/-- The trunk after the block of `slot` in superblock `seq`: its words are gone, slot and superblock go on (R44). -/
def afterBlock (slot seq : Nat) (t : Trunk) : Trunk :=
  { t with tx := { t.tx with
      ending := false
      words := if t.link = .up ∧ t.tx.ending = false then t.tx.words.drop 28 else t.tx.words
      slot := (slot + 1) % 16
      superNo := if slot = 15 then (seq + 1) % 4096 else seq } }

/-- What a block does in ALIGNED or above: with a comma, a header that passes and a slot that follows it is good or has
a stuff error, otherwise it is missing (R45, R48). -/
def blockAligned (p : Nat) (found : Bool) (header : Option (Nat × Nat)) (region : List Bool) (stamp : Nat)
    (s : State) : State :=
  match found, header with
  | true, some (slot, seq) =>
    if (trunk s p).rx.lastSlot.map (fun k => (k + 1) % 16) = some slot ∨ (trunk s p).rx.lastSlot.isNone then
      let t := setTrunk p { trunk s p with rx := { (trunk s p).rx with missRun := 0, lastSlot := some slot } } s
      if (destuff 1928 region 0 none).2 then stuffBlock p t
      else goodBlock p slot seq stamp (destuff 1928 region 0 none).1 t
    else missBlock p stamp s
  | _, _ => missBlock p stamp s

theorem blockAligned_of_unread {p stamp : Nat} {found : Bool} {header : Option (Nat × Nat)} {region : List Bool}
    {s : State} (unread : found = false ∨ header = none) :
    blockAligned p found header region stamp s = missBlock p stamp s := by
  rcases unread with rfl | rfl
  · cases header <;> rfl
  · cases found <;> rfl

section
variable {p slot seq stamp : Nat} {region : List Bool} {s : State}

theorem blockAligned_of_gap {k : Nat} (last : (trunk s p).rx.lastSlot = some k) (gap : (k + 1) % 16 ≠ slot) :
    blockAligned p true (some (slot, seq)) region stamp s = missBlock p stamp s :=
  if_neg (by simp [last, gap])

/-- A slot that follows: a wrong stuff bit alone discards the block. -/
theorem blockAligned_of_follows {bits : List Bool} {bad : Bool} {t : State}
    (follows : (trunk s p).rx.lastSlot.map (fun k => (k + 1) % 16) = some slot ∨ (trunk s p).rx.lastSlot = none)
    (marked : t = setTrunk p { trunk s p with rx := { (trunk s p).rx with missRun := 0, lastSlot := some slot } } s)
    (line : destuff 1928 region 0 none = (bits, bad)) :
    blockAligned p true (some (slot, seq)) region stamp s =
      if bad then stuffBlock p t else goodBlock p slot seq stamp bits t := by
  have bitsRead : (destuff 1928 region 0 none).1 = bits := congrArg Prod.fst line
  have badRead : (destuff 1928 region 0 none).2 = bad := congrArg Prod.snd line
  subst marked bitsRead badRead
  exact if_pos (by simpa using follows)

end

section
variable {p stamp : Nat} {bits : List Bool} {s : State} {n : TrunkRx}
  (words : n = rxWords (parN s (bP p) 0 Par.dfTrunkMtu) stamp 28 bits (trunk s p).rx)
include words

theorem takeWords_eq : takeWords p stamp bits s = setTrunk p { trunk s p with
    rx := if (trunk s p).link = .up then n
      else if (trunk s p).link.code < 2 then (trunk s p).rx
      else { n with ended := (trunk s p).rx.ended } } s := by
  subst words
  rfl

theorem takeWords_of_up (up : (trunk s p).link = .up) :
    takeWords p stamp bits s = setTrunk p { trunk s p with rx := n } s := by
  rw [takeWords_eq words, if_pos up]

/-- Below UP the words are checked and counted, and no frame is delivered (R67). -/
theorem takeWords_of_belowUp (below : (trunk s p).link ≠ .up) (above : 2 ≤ (trunk s p).link.code) :
    takeWords p stamp bits s = setTrunk p { trunk s p with rx := { n with ended := (trunk s p).rx.ended } } s := by
  rw [takeWords_eq words, if_neg below, if_neg above.not_gt]

theorem takeWords_of_down (down : (trunk s p).link.code < 2) :
    takeWords p stamp bits s = setTrunk p (trunk s p) s := by
  have notUp : (trunk s p).link ≠ .up := by
    intro up
    rw [up] at down
    exact absurd down (by decide)
  rw [takeWords_eq words, if_neg notUp, if_pos down]

end

section
variable {p raw : Nat} {found : Bool} {region : List Bool} {s : State}

/-- Each block received ends with what follows from it (R62, R142, R148). -/
theorem leaves_blockReceived {t : State} (effect : effDifiviBlockReceived p found region raw s = t) :
    Leaves (.difiviBlockReceived p found region raw) s (blockHeard p (trunk s p).rx t) :=
  leaves_of rfl (congrArg (blockHeard p (trunk s p).rx) effect)

/-- On a port that runs as no trunk, and on a stopped one, a block received or sent does nothing. -/
theorem effDifiviBlockReceived_of_noTrunk (off : isTrunk s p = false ∨ blkRun s (bP p) = false) :
    effDifiviBlockReceived p found region raw s = s := if_pos (by simpa using off)

theorem effDifiviBlockTransmit_of_silent
    (silent : isTrunk s p = false ∨ blkRun s (bP p) = false ∨ (lane s p).squelched = true) :
    effDifiviBlockTransmit p raw s = s := if_pos (by simpa [or_assoc] using silent)

variable (isT : isTrunk s p = true) (runs : blkRun s (bP p) = true)
include isT runs

/-- A block received on a running trunk, by the link state (R45, R62). -/
theorem effDifiviBlockReceived_of_running :
    effDifiviBlockReceived p found region raw s =
      if (trunk s p).link = .down then s
      else if (trunk s p).link = .locking then searchComma p found (readHeader (natMsb (region.take 16))) s
      else blockAligned p found (readHeader (natMsb (region.take 16))) region (rxPin s p raw) s := by
  rw [effDifiviBlockReceived, if_neg (by simp [isT, runs])]
  delta blockAligned
  generalize destuff 1928 region 0 none = line
  obtain ⟨bits, bad⟩ := line
  dsimp only
  cases (trunk s p).link <;> rfl

theorem effDifiviBlockReceived_of_aligned (above : 2 ≤ (trunk s p).link.code) :
    effDifiviBlockReceived p found region raw s =
      blockAligned p found (readHeader (natMsb (region.take 16))) region (rxPin s p raw) s := by
  have notDown : (trunk s p).link ≠ .down := fun down => absurd (down ▸ above) (by decide)
  have notLocking : (trunk s p).link ≠ .locking := fun locking => absurd (locking ▸ above) (by decide)
  rw [effDifiviBlockReceived_of_running isT runs, if_neg notDown, if_neg notLocking]

/-- A good block: its header passes, its slot follows, and no stuff bit is wrong. -/
theorem effDifiviBlockReceived_of_good {slot seq : Nat} {bits : List Bool} {bad : Bool} {t : State}
    (above : 2 ≤ (trunk s p).link.code) (header : readHeader (natMsb (region.take 16)) = some (slot, seq))
    (follows : (trunk s p).rx.lastSlot.map (fun k => (k + 1) % 16) = some slot ∨ (trunk s p).rx.lastSlot = none)
    (marked : t = setTrunk p { trunk s p with rx := { (trunk s p).rx with missRun := 0, lastSlot := some slot } } s)
    (line : destuff 1928 region 0 none = (bits, bad)) (right : bad = false) :
    effDifiviBlockReceived p true region raw s = goodBlock p slot seq (rxPin s p raw) bits t := by
  rw [effDifiviBlockReceived_of_aligned isT runs above, header, blockAligned_of_follows follows marked line,
    if_neg (by simp [right])]

/-- A block is sent: queued packets, the superblock's number and tick come first, then the signal word and the words,
filled up with IDLE (R43, R44, R55, R79); after slots 3, 9 and 15 the credits are looked at (R73). -/
theorem effDifiviBlockTransmit_of_sending {s1 s2 u : State} {sig : Nat} {t : Trunk} {slot seq : Nat}
    {ws : List (Bool × Word64)} (sounds : (lane s p).squelched = false)
    (began : s1 = beginSuper p (loadMgmt p ((s.keep.mgmtTx.get [] p).length) s))
    (ticked : s2 = if (trunk s1 p).tx.slot = 0 then superTick p s1 else s1)
    (signal : txSignal s2 p (txPin s2 p raw) (trunk s2 p) = (sig, t))
    (atSlot : slot = (trunk s2 p).tx.slot) (atSeq : seq = (trunk s2 p).tx.superNo) (frames : ws = blockWords t)
    (sent : u = emit (.block p (buildBlock slot seq sig (ws ++ List.replicate (28 - ws.length) idleWord)))
      (setTrunk p (afterBlock slot seq t) s2)) :
    effDifiviBlockTransmit p raw s = if slot = 3 ∨ slot = 9 ∨ slot = 15 then creditWatch p u else u := by
  subst sent frames atSlot atSeq
  rw [effDifiviBlockTransmit, if_neg (by simp [isT, runs, sounds])]
  dsimp only
  rw [← began, ← ticked, signal]
  simp [blockWords, afterBlock]

end

end Sys2Proof.Machine

namespace Sys2Proof

open Machine

/-- Settles O28: a block received and a block sent, by the link state and by what the block shows. -/
theorem trunkBlockRows : Obligations.TrunkBlockRows := by
  intro p raw found region s r before
  subst before
  refine ⟨fun isT runs => ⟨fun down => ?down, fun locking => ?search,
      fun above => ⟨fun slot seq header => ⟨fun follows t marked bits bad line => ⟨fun wrong => ?stuffError,
          fun right body undone u signal n words =>
            ⟨fun up => ?up, fun below aligned => ?belowUp, fun fallen => ?fallen⟩⟩,
        fun ⟨k, last, gap⟩ => ?gap⟩, fun unread => ?unread⟩,
      fun sounds s1 s2 began ticked sig t signal slot seq ws atSlot atSeq frames u sent =>
        ⟨fun watched => ?watched, fun n3 n9 n15 => ?unwatched⟩⟩,
    fun off => ⟨?offReceived, ?offSent⟩, fun squelched => ?squelched⟩
  case down => exact leaves_blockReceived ((effDifiviBlockReceived_of_running isT runs).trans (if_pos down))
  case search =>
    exact leaves_blockReceived ((effDifiviBlockReceived_of_running isT runs).trans
      ((if_neg (by simp [locking])).trans (if_pos locking)))
  case stuffError =>
    exact leaves_blockReceived (by
      rw [effDifiviBlockReceived_of_aligned isT runs above, header, blockAligned_of_follows follows marked line,
        if_pos wrong]
      rfl)
  case up =>
    subst signal undone
    exact leaves_blockReceived
      ((effDifiviBlockReceived_of_good isT runs above header follows marked line right).trans
        (takeWords_of_up words up))
  case belowUp =>
    subst signal undone
    exact leaves_blockReceived
      ((effDifiviBlockReceived_of_good isT runs above header follows marked line right).trans
        (takeWords_of_belowUp words below aligned))
  case fallen =>
    subst signal undone
    exact leaves_blockReceived
      ((effDifiviBlockReceived_of_good isT runs above header follows marked line right).trans
        (takeWords_of_down words fallen))
  case gap =>
    exact leaves_blockReceived (by
      rw [effDifiviBlockReceived_of_aligned isT runs above, header, blockAligned_of_gap last gap])
  case unread =>
    exact leaves_blockReceived
      ((effDifiviBlockReceived_of_aligned isT runs above).trans (blockAligned_of_unread unread))
  case watched =>
    have effect := effDifiviBlockTransmit_of_sending isT runs sounds began ticked signal atSlot atSeq frames sent
    exact leaves_of rfl (effect.trans (if_pos watched))
  case unwatched =>
    have effect := effDifiviBlockTransmit_of_sending isT runs sounds began ticked signal atSlot atSeq frames sent
    exact leaves_of rfl (effect.trans (if_neg (by simp [n3, n9, n15])))
  case offReceived => exact leaves_blockReceived (effDifiviBlockReceived_of_noTrunk off)
  case offSent => exact leaves_of rfl (effDifiviBlockTransmit_of_silent (off.imp_right .inl))
  case squelched => exact leaves_of rfl (effDifiviBlockTransmit_of_silent (.inr (.inr squelched)))

end Sys2Proof
end

section
/-! SUPPORT. The link states of an edge port and its pauses (R85 to R87, R90 to R93, R96). -/

namespace Sys2Proof.Machine

section
variable {p : Nat} {s : State}

theorem effEdgeLocked_of_notReady {abilities : Nat}
    (lacks : (edge s p).link = .down ∨ (edge s p).adaptDone = false ∨ anOk s p abilities = false) :
    effEdgeLocked p abilities s = s := if_pos (by rcases lacks with down | adapts | unfit <;> simp [*])

theorem effEdgeHoldoffExpired_of_notOver
    (lacks : (edge s p).link ≠ .holdoff ∨ (edge s p).flushed = false ∨
      (portLanes s p).all (fun l => (lane s l).wordLock) = false ∨
      s.ticks < (edge s p).holdFrom + parN s (bP p) 0 Par.epHoldoff * 625000) :
    effEdgeHoldoffExpired p s = s := by
  refine if_pos ?_
  rcases lacks with elsewhere | flushes | unlocked | early
  · simp [elsewhere]
  · simp [flushes]
  · rw [unlocked]
    simp
  · have running : holdoffOver s p = false := decide_eq_false early.not_ge
    simp [running]

theorem effWordLockLost_of_down (down : (edge s p).link = .down) (cond : LinkCond) :
    effWordLockLost ⟨p, cond⟩ s = s := if_pos (by simp [down])

theorem effEdgeLinkDownFilter_of_off (off : (edge s p).filter = false ∨ (quad s (p / 4)).filterOff = true) :
    effEdgeLinkDownFilter p s = s := if_neg (by rcases off with idle | suspended <;> simp [*])

theorem effAnFail_of_locking (runs : anRuns s p = true) (locking : (edge s p).link = .locking) :
    effAnFail p s = raise (bP p) 1 (report (bP p) 0x21 [0, 0] s) := if_pos (by simp [runs, locking])

theorem effAnFail_of_noNegotiation (silent : anRuns s p = false) : effAnFail p s = s := if_neg (by simp [silent])

/-- A pause frame that is due leaves at a frame boundary (R92, R93). -/
theorem effPfcSend_of_due (due : pauseDue s p = true) (free : (portSched s p).tx = none) :
    effPfcSend p s = sendPause p (edge s p).due s := if_pos (by simp [due, free])

theorem effPfcSend_of_waits (waits : pauseDue s p = false ∨ (portSched s p).tx ≠ none) : effPfcSend p s = s := by
  refine if_neg fun sends => ?_
  rw [Bool.and_eq_true] at sends
  obtain ⟨due, free⟩ := sends
  rcases waits with nothing | busy
  · rw [nothing] at due
    contradiction
  · exact busy (Option.isNone_iff_eq_none.mp free)

theorem effPfcRefresh_of_notAsserted (released : (edge s p).asserted = 0) : effPfcRefresh p s = s :=
  if_pos (by simp [released])

section
variable {c : Nat} (free : (edge s p).paused.find c = none)
include free

theorem effPauseExpired_of_notPaused : effPauseExpired p c s = s := if_neg (by simp [free])

theorem effPfcStorm_of_notPaused : effPfcStorm p c s = s := if_neg (by simp [free])

end

end

section
variable {p : Nat} {s : State} (isE : isEdge s p = true)
include isE

/-- EDGE_LOCKED on a port that is ready for it: word lock, negotiation, the conditions of R86 ended, and from LOCKING
to HOLDOFF, whose time runs from here (R85, R87). -/
theorem effEdgeLocked_of_ready {abilities : Nat} {t u : State} (above : (edge s p).link ≠ .down)
    (adapted : (edge s p).adaptDone = true) (fits : anOk s p abilities = true) (held : t = wordLockHeld p s)
    (cleared : u = clearLinkFaults p (if anRuns t p = true ∧ (edge t p).anDone = false then
      report (bP p) 0x21 [1, w32 abilities] (modEdge p (fun e => { e with anDone := true }) t) else t)) :
    effEdgeLocked p abilities s = if (edge u p).link = .locking then
      setEdgeLink p .holdoff (modEdge p (fun e => { e with holdFrom := u.ticks }) u) else u := by
  have justRan : (anRuns t p = true ∧ (edge t p).anDone = false) ↔ (anRuns t p && !(edge t p).anDone) = true := by simp
  rw [if_congr justRan rfl rfl] at cleared
  subst held cleared
  exact if_neg (by simp [isE, above, adapted, fits])

/-- The hold-off is over with the flush complete and word lock held: the port enters UP, a boundary clock port
INITIALIZING (log 41), and is judged anew (R85, R87). -/
theorem effEdgeHoldoffExpired_of_over (holds : (edge s p).link = .holdoff) (flushed : (edge s p).flushed = true)
    (locked : (portLanes s p).all (fun l => (lane s l).wordLock) = true)
    (elapsed : (edge s p).holdFrom + parN s (bP p) 0 Par.epHoldoff * 625000 ≤ s.ticks) :
    effEdgeHoldoffExpired p s = presence p (if ptpRole (setEdgeLink p .up s) p = 1
      then setPtpState p 1 (setEdgeLink p .up s) else setEdgeLink p .up s) := by
  have ended : holdoffOver s p = true := decide_eq_true elapsed
  exact if_neg (by rw [locked]; simp [isE, holds, flushed, ended])

section
variable {t : State} (above : (edge s p).link ≠ .down)
  (counts : t = modEdge p (fun e => { e with filter := e.link == .holdoff || e.link == .up }) s)
include above counts

/-- WORD_LOCK_LOST above DOWN, condition by condition (R86): the link-down filter counts in HOLDOFF and UP. -/
theorem effWordLockLost_wordLock :
    effWordLockLost ⟨p, .wordLock⟩ s = if (edge (wordLockGone p t) p).link = .holdoff then
      modEdge p (fun e => { e with holdFrom := (wordLockGone p t).ticks }) (wordLockGone p t) else wordLockGone p t := by
  subst counts
  exact if_neg (by simp [isE, above])

theorem effWordLockLost_hiBer :
    effWordLockLost ⟨p, .hiBer⟩ s =
      if 3 ≤ portMode s p then beginCause (bP p) 4 (modEdge p (fun e => { e with hiBer := true }) t) else s := by
  subst counts
  exact if_neg (by simp [isE, above])

theorem effWordLockLost_localFault :
    effWordLockLost ⟨p, .localFault⟩ s = modEdge p (fun e => { e with locFault := true }) t := by
  subst counts
  exact if_neg (by simp [isE, above])

theorem effWordLockLost_remoteFault :
    effWordLockLost ⟨p, .remoteFault⟩ s = beginCause (bP p) 2 (modEdge p (fun e => { e with rxFault := true }) t) := by
  subst counts
  exact if_neg (by simp [isE, above])

theorem effWordLockLost_anRestart :
    effWordLockLost ⟨p, .anRestart⟩ s =
      if anRuns s p = true then modEdge p (fun e => { e with anRestart := true, anDone := false }) t else s := by
  subst counts
  exact if_neg (by simp [isE, above])

end

/-- EDGE_LINK_DOWN_FILTER with the filter running and no failover of the quad (R86, R28). -/
theorem effEdgeLinkDownFilter_of_runs (runs : (edge s p).filter = true) (counts : (quad s (p / 4)).filterOff = false) :
    effEdgeLinkDownFilter p s = edgeDown p s := if_pos (by simp [isE, runs, counts])

section
variable (up : (edge s p).link = .up)
include up

theorem effPfcFrameReceived_of_up (pfc : Bool) (enable : Nat) (quanta : List Nat) :
    effPfcFrameReceived p pfc enable quanta s = modEdge p (fun e =>
      { e with
        pfcRx := (e.pfcRx + 1) % 2 ^ 32
        paused := (pauseActs s p pfc enable quanta).foldl
          (fun m a => if a.2 = 0 then m.del a.1 else m.set a.1 (a.2 % 65536)) e.paused }) (shapePort p s) :=
  if_neg (by simp [isE, up])

/-- PFC_REFRESH with pause asserted: a frame is due and leaves at a frame boundary (R92). -/
theorem effPfcRefresh_of_asserted {t : State} (asserts : (edge s p).asserted ≠ 0)
    (due : t = modEdge p (fun e => { e with due := e.asserted ||| e.due }) s) :
    effPfcRefresh p s = if (portSched t p).tx = none then sendPause p (edge t p).due t else t := by
  subst due
  exact (if_neg (by simp [isE, up, asserts])).trans (if_congr Option.isNone_iff_eq_none rfl rfl)

end

section
variable {c : Nat} (paused : (edge s p).paused.find c ≠ none)
include paused

/-- A class is paused: the guard of the rows that end its pause or report its storm (R91, R96). -/
theorem pausedClass_of_paused : (isEdge s p && ((edge s p).paused.find c).isSome) = true :=
  Bool.and_eq_true_iff.mpr ⟨isE, Option.isSome_iff_ne_none.mpr paused⟩

theorem effPauseExpired_of_paused :
    effPauseExpired p c s = modEdge p (fun e => { e with paused := e.paused.del c }) (shapePort p s) :=
  if_pos (pausedClass_of_paused isE paused)

theorem effPfcStorm_of_paused : effPfcStorm p c s = raise (bP p) 5 (report (bP p) 0x22 [w32 c] s) :=
  if_pos (pausedClass_of_paused isE paused)

end

end

end Sys2Proof.Machine

namespace Sys2Proof

open Machine

/-- Settles O30, row by row: each leaves what its effect comes to in the case at hand. -/
theorem edgeLinkRows : Obligations.EdgeLinkRows := by
  intro p ab c en pfc quanta s isE
  refine ⟨fun above adapted fits t held u cleared => ⟨fun locking => ?entersHoldoff, fun away => ?stays⟩,
    fun lacks => ?notReady,
    fun holds flushed locked elapsed t entered => ⟨fun other => ?up, fun boundary => ?upBoundary⟩,
    fun lacks => ?notOver,
    fun above t counts => ⟨fun u gone => ⟨fun holds => ?holdoffRestarts, fun away => ?wordLock⟩,
      fun fast => ?hiBer, ?localFault, ?remoteFault, fun runs => ?anRestart, fun slow => ?noHiBer,
      fun silent => ?noAnRestart⟩,
    fun down cond => ?lossInDown,
    fun runs counts => ?filterDown, fun off => ?filterOff,
    fun runs locking => ?anFails, fun silent => ?noAnFail,
    fun up => ⟨?pauseReceived, fun due free => ?pauseSent, fun waits => ?pauseWaits,
      fun asserts t due => ⟨fun free => ?refreshSent, fun busy => ?refreshDue⟩, fun released => ?noRefresh⟩,
    fun paused => ⟨?pauseEnds, ?storm⟩, fun free => ⟨?noPauseEnds, ?noStorm⟩⟩
  case entersHoldoff =>
    exact leaves_of rfl ((effEdgeLocked_of_ready isE above adapted fits held cleared).trans (if_pos locking))
  case stays =>
    exact leaves_of rfl ((effEdgeLocked_of_ready isE above adapted fits held cleared).trans (if_neg away))
  case notReady => exact leaves_of rfl (effEdgeLocked_of_notReady lacks)
  case up =>
    subst entered
    exact leaves_of rfl ((effEdgeHoldoffExpired_of_over isE holds flushed locked elapsed).trans
      (congrArg (presence p) (if_neg other)))
  case upBoundary =>
    subst entered
    exact leaves_of rfl ((effEdgeHoldoffExpired_of_over isE holds flushed locked elapsed).trans
      (congrArg (presence p) (if_pos boundary)))
  case notOver => exact leaves_of rfl (effEdgeHoldoffExpired_of_notOver lacks)
  case holdoffRestarts =>
    subst gone
    exact leaves_of rfl ((effWordLockLost_wordLock isE above counts).trans (if_pos holds))
  case wordLock =>
    subst gone
    exact leaves_of rfl ((effWordLockLost_wordLock isE above counts).trans (if_neg away))
  case hiBer => exact leaves_of rfl ((effWordLockLost_hiBer isE above counts).trans (if_pos fast))
  case noHiBer => exact leaves_of rfl ((effWordLockLost_hiBer isE above counts).trans (if_neg slow.not_ge))
  case localFault => exact leaves_of rfl (effWordLockLost_localFault isE above counts)
  case remoteFault => exact leaves_of rfl (effWordLockLost_remoteFault isE above counts)
  case anRestart => exact leaves_of rfl ((effWordLockLost_anRestart isE above counts).trans (if_pos runs))
  case noAnRestart =>
    exact leaves_of rfl ((effWordLockLost_anRestart isE above counts).trans (if_neg (by simp [silent])))
  case lossInDown => exact leaves_of rfl (effWordLockLost_of_down down cond)
  case filterDown => exact leaves_of rfl (effEdgeLinkDownFilter_of_runs isE runs counts)
  case filterOff => exact leaves_of rfl (effEdgeLinkDownFilter_of_off off)
  case anFails => exact leaves_of rfl (effAnFail_of_locking runs locking)
  case noAnFail => exact leaves_of rfl (effAnFail_of_noNegotiation silent)
  case pauseReceived => exact leaves_of rfl (effPfcFrameReceived_of_up isE up pfc en quanta)
  case pauseSent => exact leaves_of rfl (effPfcSend_of_due due free)
  case pauseWaits => exact leaves_of rfl (effPfcSend_of_waits waits)
  case refreshSent => exact leaves_of rfl ((effPfcRefresh_of_asserted isE up asserts due).trans (if_pos free))
  case refreshDue => exact leaves_of rfl ((effPfcRefresh_of_asserted isE up asserts due).trans (if_neg busy))
  case noRefresh => exact leaves_of rfl (effPfcRefresh_of_notAsserted released)
  case pauseEnds => exact leaves_of rfl (effPauseExpired_of_paused isE paused)
  case storm => exact leaves_of rfl (effPfcStorm_of_paused isE paused)
  case noPauseEnds => exact leaves_of rfl (effPauseExpired_of_notPaused free)
  case noStorm => exact leaves_of rfl (effPfcStorm_of_notPaused free)

end Sys2Proof
end

section
/-! SUPPORT. PTP messages and stamps and ESMC on an edge port (R98, R99, R102 to R104, R133). -/

namespace Sys2Proof.Machine

section
variable {p : Nat} {s : State}

/-- On a port that is not in UP, and with Guhild stopped, the PTP rows do nothing. -/
theorem effPtpMessageReceived_of_idle (idle : (edge s p).link ≠ .up ∨ rGuhRun s = false) (m : PtpMsg) :
    effPtpMessageReceived p m s = s := if_pos (by rcases idle with notUp | stopped <;> simp [*])

theorem effPtpSyncSend_of_idle (idle : (edge s p).link ≠ .up ∨ rGuhRun s = false) (kind : Nat) :
    effPtpSyncSend p kind s = s := if_pos (by rcases idle with notUp | stopped <;> simp [*])

theorem effPtpEgressStamp_of_noWaiting {seqId : Nat} (raw : Nat)
    (unknown : (edge s p).ptp.waiting.find? (fun w => w.2 == seqId) = none) :
    effPtpEgressStamp p seqId raw s = s := by
  delta effPtpEgressStamp
  rw [unknown]

/-- ESMC does not run on a port that is not in UP or has it switched off. -/
theorem esmcOn_of_off (off : (edge s p).link ≠ .up ∨ parN s (bP p) 0 Par.epEsmcEn ≠ 1) : esmcOn s p = false := by
  delta esmcOn
  rcases off with notUp | unset <;> simp [*]

theorem effEsmcPduSend_of_off (off : (edge s p).link ≠ .up ∨ parN s (bP p) 0 Par.epEsmcEn ≠ 1) :
    effEsmcPduSend p s = s := if_neg (by simp [esmcOn_of_off off])

theorem effEsmcEventPdu_of_off (off : (edge s p).link ≠ .up ∨ parN s (bP p) 0 Par.epEsmcEn ≠ 1) :
    effEsmcEventPdu p s = s := if_neg (by simp [esmcOn_of_off off])

theorem effEsmcPduReceived_of_notUp (notUp : (edge s p).link ≠ .up) (ssm : Nat) : effEsmcPduReceived p ssm s = s :=
  if_pos (by simp [notUp])

end

section
variable {p : Nat} {s : State} (isE : isEdge s p = true)
include isE

section
variable (up : (edge s p).link = .up)
include up

section
variable (runs : rGuhRun s = true)
include runs

/-- PTP_MESSAGE_RECEIVED in UP with Guhild running, by the port's role (R98, R99). -/
theorem effPtpMessageReceived_of_running (m : PtpMsg) :
    effPtpMessageReceived p m s =
      if ptpRole s p = 1 then
        if m.transport = parN s (bP p) 0 Par.epPtpTransport ∧ m.domain = parN s (bP p) 0 Par.epPtpDomain then
          engineTakes p m s else s
      else if ptpRole s p = 3 ∧ (m.msgType = 2 ∨ m.msgType = 3 ∨ m.msgType = 10) then
        peerTakes p m (dueOf s (rxPin s p m.stamp)) s
      else if 64 ≤ m.outPort then s
      else clockPasses p m s := if_neg (by simp [isE, up, runs])

/-- A boundary clock port takes the messages of its transport and domain (R98). -/
theorem effPtpMessageReceived_of_boundary (boundary : ptpRole s p = 1) (m : PtpMsg) :
    effPtpMessageReceived p m s =
      if m.transport = parN s (bP p) 0 Par.epPtpTransport ∧ m.domain = parN s (bP p) 0 Par.epPtpDomain then
        engineTakes p m s else s := (effPtpMessageReceived_of_running isE up runs m).trans (if_pos boundary)

/-- The peer delay messages of a peer-to-peer transparent clock port are the engine's (R99). -/
theorem effPtpMessageReceived_of_peer {m : PtpMsg} (peer : ptpRole s p = 3)
    (delay : m.msgType = 2 ∨ m.msgType = 3 ∨ m.msgType = 10) :
    effPtpMessageReceived p m s = peerTakes p m (dueOf s (rxPin s p m.stamp)) s := by
  rw [effPtpMessageReceived_of_running isE up runs, if_neg (by simp [peer]), if_pos ⟨peer, delay⟩]

/-- Any other message leaves by the port it names (R99). -/
theorem effPtpMessageReceived_of_passing {m : PtpMsg} (notBoundary : ptpRole s p ≠ 1)
    (other : ¬(ptpRole s p = 3 ∧ (m.msgType = 2 ∨ m.msgType = 3 ∨ m.msgType = 10))) (inRange : m.outPort < 64) :
    effPtpMessageReceived p m s = clockPasses p m s := by
  rw [effPtpMessageReceived_of_running isE up runs, if_neg notBoundary, if_neg other, if_neg inRange.not_ge]

/-- A MASTER sends a Sync, which waits for its stamp with two-step or over IPv6, and plans the next one (R102, R126). -/
theorem effPtpSyncSend_sync {n : Nat} {t u : State} (boundary : ptpRole s p = 1) (master : (edge s p).ptp.state = 6)
    (drawn : nextSeq p 0 (planSync p s) = (n, t)) (sent : u = emit (.ptp p 0 n (units t) (ptpStampOk t p) 0) t) :
    effPtpSyncSend p 0 s =
      if parN u (bP p) 0 Par.epPtpStep = 0 ∨ parN u (bP p) 0 Par.epPtpTransport = 2 then
        modPtp p (fun x => { x with waiting := x.waiting ++ [(0, n)] }) u else u := by
  subst sent
  refine (if_neg (by simp [isE, up, runs])).trans ?_
  dsimp only
  rw [if_pos ⟨boundary, master, rfl⟩, drawn]

/-- A MASTER sends an Announce with what it serves (R133). -/
theorem effPtpSyncSend_announce {n : Nat} {t : State} (boundary : ptpRole s p = 1) (master : (edge s p).ptp.state = 6)
    (drawn : nextSeq p 11 s = (n, t)) :
    effPtpSyncSend p 11 s =
      emit (.announce p n (sentClass t p) (par t bGUH 0 Par.gtUtcOffset + t.guh.leapAdj) (announceFlags t)) t := by
  refine (if_neg (by simp [isE, up, runs])).trans ?_
  dsimp only
  rw [if_neg (by simp), if_pos ⟨boundary, master, rfl⟩, drawn]

/-- A Delay_Req of a time receiver or a Pdelay_Req leaves less delayAsymmetry and waits for its stamp (R98, R100). -/
theorem effPtpSyncSend_request {kind n : Nat} {t : State}
    (asks : (ptpRole s p = 1 ∧ ((edge s p).ptp.state = 8 ∨ (edge s p).ptp.state = 9) ∧ kind = 1 ∧ peerDelay s p = false) ∨
      ((ptpRole s p = 1 ∨ ptpRole s p = 3) ∧ kind = 2 ∧ peerDelay s p = true))
    (drawn : nextSeq p kind s = (n, t)) :
    effPtpSyncSend p kind s = emit (.ptp p kind n (units t) (ptpStampOk t p) (-(ptpAsym t p)))
      (modPtp p (fun x => { x with waiting := x.waiting ++ [(kind, n)] }) t) := by
  have request : kind = 1 ∨ kind = 2 := asks.imp (fun delay => delay.2.2.1) (fun peer => peer.2.1)
  refine (if_neg (by simp [isE, up, runs])).trans ?_
  dsimp only
  have notSync : kind ≠ 0 := by rcases request with rfl | rfl <;> simp
  have notAnnounce : kind ≠ 11 := by rcases request with rfl | rfl <;> simp
  rw [if_neg fun sync => notSync sync.2.2, if_neg fun announce => notAnnounce announce.2.2,
    if_pos (by simpa using asks), drawn]

end

section
variable (esmc : parN s (bP p) 0 Par.epEsmcEn = 1)
include esmc

theorem esmcOn_of_set : esmcOn s p = true := by
  delta esmcOn
  simp [isE, up, esmc]

theorem effEsmcPduSend_of_on : effEsmcPduSend p s = sendEsmc p false s := if_pos (esmcOn_of_set isE up esmc)

theorem effEsmcEventPdu_of_on :
    effEsmcEventPdu p s = if (edge s p).qlSent = ssmSent s p then s else sendEsmc p true s :=
  (if_congr (by simp [esmcOn_of_set isE up esmc]) rfl rfl).trans (ite_not _ _ _)

end

/-- An ESMC PDU ends the timeout; a level, an unknown one as QL-DNU, is accepted with its second PDU (R104). -/
theorem effEsmcPduReceived_of_up {ssm k : Nat} {t : State}
    (level : k = if ssmKnown (refPar s Par.rfEecOption) ssm then ssm else 0xF) (heard : t = endCause (bP p) 7 s) :
    effEsmcPduReceived p ssm s =
      if (edge t p).qlCand = some k then setQlRx p k t else modEdge p (fun e => { e with qlCand := some k }) t := by
  subst level heard
  exact if_neg (by simp [isE, up])

end

theorem effEsmcTimeout_of_isEdge :
    effEsmcTimeout p s = beginCause (bP p) 7 (setQlRx p 0xFF (modEdge p (fun e => { e with qlCand := none }) s)) :=
  if_neg (by simp [isE])

/-- PTP_EGRESS_STAMP of a message that waits: it serves that message, or is lost with the pipeline's FIFO full (R102). -/
theorem effPtpEgressStamp_of_waiting {seqId : Nat} {w : Nat × Nat} {t : State} (raw : Nat)
    (found : (edge s p).ptp.waiting.find? (fun w => w.2 == seqId) = some w)
    (taken : t = modPtp p (fun x => { x with waiting := x.waiting.erase w }) s) :
    effPtpEgressStamp p seqId raw s =
      if 64 < stampsWaiting s (pipeOf p) then raise (bP p) 6 (report (bP p) 0x25 [w32 seqId]
        (modEdge p (fun e => { e with ptpDrop := (e.ptpDrop + 1) % 2 ^ 32 }) t))
      else stampServes p w.1 seqId (txPin t p raw) t := by
  subst taken
  delta effPtpEgressStamp
  rw [found]
  dsimp only
  rw [if_neg (by simp [isE])]
  exact if_congr decide_eq_true_iff rfl rfl

/-- With room in the FIFO the stamp, taken to the pin, serves the message of kind `kind` that waited (R102). -/
theorem effPtpEgressStamp_of_room {seqId raw at_ kind : Nat} {w : Nat × Nat} {t : State}
    (found : (edge s p).ptp.waiting.find? (fun w => w.2 == seqId) = some w)
    (taken : t = modPtp p (fun x => { x with waiting := x.waiting.erase w }) s)
    (room : stampsWaiting s (pipeOf p) ≤ 64) (pin : at_ = txPin t p raw) (waited : w.1 = kind) :
    effPtpEgressStamp p seqId raw s = stampServes p kind seqId at_ t := by
  subst pin waited
  exact (effPtpEgressStamp_of_waiting isE raw found taken).trans (if_neg room.not_gt)

end

/-- A message on its way through leaves the transparent clock port it names, corrected and stamped (R99). -/
theorem clockPasses_eq {p out : Nat} {m : PtpMsg} {d : Int} {s t : State} (pin : out = txPin s m.outPort m.outStamp)
    (added : tcAdds m.outPort p m.msgType m.domain m.seqId
      (parN s (bP m.outPort) 0 Par.epPtpStep == 0 || m.transport == 2) (signed48 out (rxPin s p m.stamp)) s = (d, t)) :
    clockPasses p m s = if ptpRole s m.outPort = 2 ∨ ptpRole s m.outPort = 3 then
      emit (.ptp m.outPort m.msgType m.seqId out (portLatOk s p && portLatOk s m.outPort) (m.correction + d)) t
    else s := by
  subst pin
  delta clockPasses
  dsimp only
  rw [added]

end Sys2Proof.Machine

namespace Sys2Proof

open Machine

/-- Settles O38, row by row: each leaves what its effect comes to in the case at hand. -/
theorem ptpRows : Obligations.PtpRows := by
  intro p seqId stamp ssm m s isE
  refine ⟨fun up => ⟨fun runs => ⟨fun boundary => ⟨fun transport domain => ?engine, fun foreign => ?ignored,
        fun master n t drawn u sent => ⟨fun waits => ?syncWaits, fun oneStep overOther => ?sync⟩,
        fun master n t drawn => ?announce⟩,
      fun kind asks n t drawn => ?request, fun peer delay => ?peer,
      fun notBoundary other inRange out pin d t added => ⟨fun clock => ?passes, fun noTwo noThree => ?noClock⟩⟩,
    fun stopped => ⟨?stoppedReceived, ?stoppedSend⟩,
    fun esmc => ⟨?esmcSent, fun changed => ?esmcEvent, fun same => ?esmcSame⟩, fun unset => ?esmcOff,
    fun k t level heard => ⟨fun second => ?accepted, fun first => ?candidate⟩⟩,
    ?esmcTimeout,
    fun w found t taken => ⟨fun room at_ pin => ⟨fun sync => ?followUp, fun request => ?departure,
        fun peerRequest => ?peerDeparture, fun response => ?responseFollowUp⟩, fun full => ?lost⟩,
    fun unknown => ?noStamp,
    fun notUp => ⟨?downReceived, ?downSend, ?downEsmc, ?downEvent, ?downEsmcReceived⟩⟩
  case engine =>
    exact leaves_of rfl ((effPtpMessageReceived_of_boundary isE up runs boundary m).trans (if_pos ⟨transport, domain⟩))
  case ignored =>
    exact leaves_of rfl ((effPtpMessageReceived_of_boundary isE up runs boundary m).trans
      (if_neg fun accepted => foreign accepted.right))
  case syncWaits =>
    exact leaves_of rfl ((effPtpSyncSend_sync isE up runs boundary master drawn sent).trans (if_pos waits))
  case sync =>
    exact leaves_of rfl ((effPtpSyncSend_sync isE up runs boundary master drawn sent).trans
      (if_neg (not_or.mpr ⟨oneStep, overOther⟩)))
  case announce => exact leaves_of rfl (effPtpSyncSend_announce isE up runs boundary master drawn)
  case request => exact leaves_of rfl (effPtpSyncSend_request isE up runs asks drawn)
  case peer => exact leaves_of rfl (effPtpMessageReceived_of_peer isE up runs peer delay)
  case passes =>
    exact leaves_of rfl ((effPtpMessageReceived_of_passing isE up runs notBoundary other inRange).trans
      ((clockPasses_eq pin added).trans (if_pos clock)))
  case noClock =>
    exact leaves_of rfl ((effPtpMessageReceived_of_passing isE up runs notBoundary other inRange).trans
      ((clockPasses_eq pin added).trans (if_neg (not_or.mpr ⟨noTwo, noThree⟩))))
  case stoppedReceived => exact leaves_of rfl (effPtpMessageReceived_of_idle (.inr stopped) m)
  case stoppedSend => exact leaves_of rfl (effPtpSyncSend_of_idle (.inr stopped) 0)
  case esmcSent => exact leaves_of rfl (effEsmcPduSend_of_on isE up esmc)
  case esmcEvent => exact leaves_of rfl ((effEsmcEventPdu_of_on isE up esmc).trans (if_neg changed))
  case esmcSame => exact leaves_of rfl ((effEsmcEventPdu_of_on isE up esmc).trans (if_pos same))
  case esmcOff => exact leaves_of rfl (effEsmcPduSend_of_off (.inr unset))
  case accepted => exact leaves_of rfl ((effEsmcPduReceived_of_up isE up level heard).trans (if_pos second))
  case candidate => exact leaves_of rfl ((effEsmcPduReceived_of_up isE up level heard).trans (if_neg first))
  case esmcTimeout => exact leaves_of rfl (effEsmcTimeout_of_isEdge isE)
  case followUp => exact leaves_of rfl (effPtpEgressStamp_of_room isE found taken room pin sync)
  case departure => exact leaves_of rfl (effPtpEgressStamp_of_room isE found taken room pin request)
  case peerDeparture => exact leaves_of rfl (effPtpEgressStamp_of_room isE found taken room pin peerRequest)
  case responseFollowUp => exact leaves_of rfl (effPtpEgressStamp_of_room isE found taken room pin response)
  case lost => exact leaves_of rfl ((effPtpEgressStamp_of_waiting isE stamp found taken).trans (if_pos full))
  case noStamp => exact leaves_of rfl (effPtpEgressStamp_of_noWaiting stamp unknown)
  case downReceived => exact leaves_of rfl (effPtpMessageReceived_of_idle (.inl notUp) m)
  case downSend => exact leaves_of rfl (effPtpSyncSend_of_idle (.inl notUp) 0)
  case downEsmc => exact leaves_of rfl (effEsmcPduSend_of_off (.inl notUp))
  case downEvent => exact leaves_of rfl (effEsmcEventPdu_of_off (.inl notUp))
  case downEsmcReceived => exact leaves_of rfl (effEsmcPduReceived_of_notUp notUp ssm)

end Sys2Proof
end

section
/-! SUPPORT. Guhild: samples of the time reference, the timers of its states and the commands that touch time (R118,
R119, R121 to R125, R131, R353). -/

namespace Sys2Proof.Machine

section
variable {e v : Int} {s : State}

/-! ### Samples (R118, R119, R121, R122) -/

/-- A sample of the selected time reference is taken in, that of the local oscillator as 0 (Table GT-5). -/
theorem effGuhSample_of_selected (runs : rGuhRun s = true) (time : s.guh.refTime = true) :
    effGuhSample s.guh.refId e s = sampleBody (if s.guh.refId = 0xFE then 0 else e) s := if_pos ⟨runs, time, rfl⟩

theorem effGuhSample_of_other {ref : Nat} (other : ref ≠ s.guh.refId) : effGuhSample ref e s = s :=
  if_neg fun ⟨_, _, selected⟩ => other selected

/-- A sample in FREE or HOLDOVER asks for a step to ACQUIRING (R119, R121). -/
theorem sampleBody_of_stepping {t : State} (state : s.guh.state = .free ∨ s.guh.state = .holdover)
    (sampled : t = { s with guh := { s.guh with phaseErr := v, switching := false } }) :
    sampleBody v s = if stepAllowed s v then enterG .acquiring (takeStep v 1 t) else refuseJump v t := by
  subst sampled
  delta sampleBody
  rcases state with state | state <;> simp only [state] <;> rfl

/-- A sample in ACQUIRING or LOCKED with no switch pending is tracked (R118). -/
theorem sampleBody_of_steady {t : State} (state : s.guh.state = .acquiring ∨ s.guh.state = .locked)
    (steady : s.guh.switching = false) (sampled : t = { s with guh := { s.guh with phaseErr := v } }) :
    sampleBody v s = trackLock v (steadySample v t) := by
  subst sampled
  delta sampleBody
  rcases state with state | state <;> simp only [state, steady] <;> rfl

/-- The phase error of a sample has no part in how the sample is judged. -/
theorem judged_of_sampled {t : State} (sampled : t = { s with guh := { s.guh with phaseErr := v } }) :
    par t bGUH 0 Par.gtStepDetect = par s bGUH 0 Par.gtStepDetect ∧ t.guh.held = s.guh.held ∧
      stepAllowed t v = stepAllowed s v := by
  subst sampled
  exact ⟨rfl, rfl, rfl⟩

section
variable {sd : Int} (limit : par s bGUH 0 Par.gtStepDetect = sd)
include limit

theorem steadySample_of_within (within : |v| ≤ sd) (held : s.guh.held = none) : steadySample v s = sampleIn v s := by
  delta steadySample
  rw [limit, if_pos within, held]

theorem steadySample_of_within_held (within : |v| ≤ sd) {x : Int} (held : s.guh.held = some x) :
    steadySample v s = sampleIn v (sampleIn (clampTo sd x) { s with guh := { s.guh with held := none } }) := by
  delta steadySample
  rw [limit, if_pos within, held]

theorem steadySample_of_beyond (beyond : sd < |v|) (held : s.guh.held = none) :
    steadySample v s = { s with guh := { s.guh with held := some v } } := by
  delta steadySample
  rw [limit, if_neg beyond.not_ge, held]

theorem steadySample_of_beyond_held (beyond : sd < |v|) (held : s.guh.held ≠ none) :
    steadySample v s = if stepAllowed s v
      then propReset 0 (takeStep v 3 { s with guh := { s.guh with held := none } }) else refuseJump v s := by
  obtain ⟨x, first⟩ := Option.ne_none_iff_exists'.mp held
  delta steadySample
  rw [limit, if_neg beyond.not_ge, first]

end

/-! ### Timers (R119, R122, R131) -/

theorem effSwitchSampleTimeout_of_switching (switching : s.guh.switching = true) :
    effSwitchSampleTimeout s = if s.guh.state = .acquiring ∨ s.guh.state = .locked
      then guhLoss (modSel 0 (fun x => { x with hold := false }) s) else guhLoss s := if_neg (by simp [switching])

theorem effHoldoverHour_of_notLocked (away : s.guh.state ≠ .locked) :
    effHoldoverHour s = { s with guh := { s.guh with
      sinceLock := true, holdHour := s.guh.holdHour || s.guh.state == .holdover } } := if_neg away

/-! ### Commands that touch time (R123 to R125, R353) -/

theorem bodyTimeSet_of_stopped (stopped : rGuhRun s = false) (sec ns frac : Nat) :
    bodyTimeSet sec ns frac s = refuse stNotReady s := if_pos (by simp [stopped])

theorem bodyTimeRead_of_stopped (stopped : rGuhRun s = false) : bodyTimeRead s = refuse stNotReady s :=
  if_pos (by simp [stopped])

theorem guhTimeOk_iff {sec ns frac : Nat} :
    guhTimeOk sec ns frac = true ↔ ns ≤ 999999999 ∧ sec < 2 ^ 48 ∧ frac < 2 ^ 16 := by
  simp only [guhTimeOk, Bool.and_eq_true, decide_eq_true_eq, and_assoc]

section
variable (runs : rGuhRun s = true)
include runs

theorem bodyTimeSet_of_runs {sec ns frac : Nat} (form : guhTimeOk sec ns frac = true) (may : mayTouchTime s = true)
    {new : Nat} (set : new = (sec * 1000000000 + ns) * 65536 + frac) {d : Int} (diff : d = new - (units s : Int)) :
    bodyTimeSet sec ns frac s = ok (enterG .free (report bGUH 0x02 (w64i d ++ [6])
      { moveCounter d true { cancelTargets s with
          guh := { (cancelTargets s).guh with protect := false, refusedDiff := 0, timeSet := true } } with
        c5 := 5 * new })) := by
  subst set diff
  exact (if_neg (by simp [runs])).trans ((if_neg (by simp [form])).trans (if_neg (by simp [may])))

/-- While a time reference is selected, TIME_ADJUST of either form is BUSY. -/
theorem bodyTimeAdjust_of_busy {when_ : Nat} (known : when_ < 2) (busy : mayTouchTime s = false) (h : CmdHdr)
    (target : Nat) : bodyTimeAdjust h when_ e target s = refuse stBusy s :=
  (if_neg (by simp [runs])).trans ((if_neg known.not_ge).trans (if_pos (by simp [busy])))

/-- A TIME_ADJUST by a step that may be taken steps at once, or waits for its target on C61. -/
theorem bodyTimeAdjust_of_allowed {when_ : Nat} (known : when_ < 2) (may : mayTouchTime s = true)
    (allowed : stepAllowed s e = true) (h : CmdHdr) (target : Nat) :
    bodyTimeAdjust h when_ e target s =
      if when_ = 0 then ok (takeStep e 7 s)
      else if s.guh.adjust.isSome then refuse stBusy s
      else if nsAhead s target ≤ 0 then refuse stOutOfRange s
      else accepted 0x0802 0 h (arm 61 target { s with guh := { s.guh with adjust := some ⟨h, e, target⟩ } }) := by
  have fits : ¬ (s.guh.protect ∧ jumpThreshold s < |e|) := fun ⟨guarded, large⟩ => by
    simp [stepAllowed, guarded, large.not_ge] at allowed
  exact (if_neg (by simp [runs])).trans ((if_neg known.not_ge).trans ((if_neg (by simp [may])).trans (if_neg fits)))

theorem bodyTimeAcceptJump_of_runs :
    bodyTimeAcceptJump s = if s.guh.state ≠ .refused then refuse stBusy s
      else okWith (w64i s.guh.refusedDiff) (enterG .acquiring
        (takeStep s.guh.refusedDiff 5 { s with guh := { s.guh with refusedDiff := 0 } })) :=
  if_neg (by simp [runs])

theorem bodyTimeRead_of_runs :
    bodyTimeRead s = okWith (guhWords s ++ w64 (rolling s) ++ w64 s.guh.state.code) s := if_neg (by simp [runs])

end

end

end Sys2Proof.Machine

namespace Sys2Proof

open Machine

/-- Settles O36, row by row: each leaves, or answers, what its effect comes to in the case at hand. -/
theorem timeRows : Obligations.TimeRows := by
  intro h e sec ns frac target s
  refine ⟨fun runs time v value sd detect t sampled => ⟨fun state allowed => ?stepTaken,
      fun state barred => ?stepRefused, fun state steady => ?tracked⟩,
    fun ref other => ?otherReference, fun acquiring run => ?locks, fun locked run => ?unlocks,
    fun switching => ⟨fun state => ?timeoutTracking, fun notAcquiring notLocked => ?timeoutElse⟩,
    fun holdover => ?hourInHoldover, fun notHoldover notLocked => ?hourElse, fun locked => ?hourLocked,
    fun l leap announced t disarmed => ?leapDone, ?countersAgree, ?countersDisagree,
    fun taken => ⟨fun runs nsOk secOk fracOk may d diff t cancelled => ?timeSet, fun stopped => ?timeSetStopped⟩,
    fun taken runs may allowed => ⟨?adjustNow, fun unset ahead => ?adjustLater⟩,
    fun taken runs busy => ?adjustBusy,
    fun taken runs => ⟨fun refused => ?jumpAccepted, fun notRefused => ?noJump⟩,
    fun taken => ⟨fun runs => ?timeRead, fun stopped => ?timeReadStopped⟩⟩
  case stepTaken =>
    subst value sampled
    exact leaves_of rfl ((effGuhSample_of_selected runs time).trans
      ((sampleBody_of_stepping state rfl).trans (if_pos allowed)))
  case stepRefused =>
    subst value sampled
    exact leaves_of rfl ((effGuhSample_of_selected runs time).trans
      ((sampleBody_of_stepping state rfl).trans (if_neg (by simp [barred]))))
  case tracked =>
    obtain ⟨sameLimit, sameHeld, sameAllowed⟩ := judged_of_sampled sampled
    have limit : par t bGUH 0 Par.gtStepDetect = sd := sameLimit.trans detect.symm
    have tracks {u : State} (steps : steadySample v t = u) : Leaves (.guhSample s.guh.refId e) s (trackLock v u) := by
      refine leaves_of rfl ((effGuhSample_of_selected runs time).trans ?_)
      rw [← value, sampleBody_of_steady state steady sampled, steps]
    exact ⟨fun within held => tracks (steadySample_of_within limit within (sameHeld.trans held)),
      fun within x held => tracks (steadySample_of_within_held limit within (sameHeld.trans held)),
      fun beyond held => tracks (steadySample_of_beyond limit beyond (sameHeld.trans held)),
      fun beyond held allowed => tracks ((steadySample_of_beyond_held limit beyond (sameHeld.trans_ne held)).trans
        (if_pos (sameAllowed.trans allowed))),
      fun beyond held barred => tracks ((steadySample_of_beyond_held limit beyond (sameHeld.trans_ne held)).trans
        (if_neg (by simp [sameAllowed, barred])))⟩
  case otherReference => exact leaves_of rfl (effGuhSample_of_other other)
  case locks => exact leaves_of rfl (if_pos ⟨acquiring, run⟩)
  case unlocks => exact leaves_of rfl (if_pos ⟨locked, run⟩)
  case timeoutTracking => exact leaves_of rfl ((effSwitchSampleTimeout_of_switching switching).trans (if_pos state))
  case timeoutElse =>
    exact leaves_of rfl ((effSwitchSampleTimeout_of_switching switching).trans
      (if_neg (not_or.mpr ⟨notAcquiring, notLocked⟩)))
  case hourInHoldover =>
    exact leaves_of rfl ((effHoldoverHour_of_notLocked (by simp [holdover])).trans (by simp [holdover]))
  case hourElse =>
    have elsewhere : (s.guh.state == .holdover) = false := beq_false_of_ne notHoldover
    exact leaves_of rfl ((effHoldoverHour_of_notLocked notLocked).trans (by simp [elsewhere]))
  case hourLocked => exact leaves_of rfl (if_pos locked)
  case leapDone =>
    subst leap disarmed
    exact leaves_of rfl (if_neg announced)
  case countersAgree => exact leaves_of rfl (if_pos rfl)
  case countersDisagree => exact leaves_of rfl (if_neg Bool.false_ne_true)
  case timeSet =>
    subst cancelled
    have form : guhTimeOk sec ns frac = true := guhTimeOk_iff.mpr ⟨nsOk, secOk, fracOk⟩
    exact answers_of taken (by decide) rfl (bodyTimeSet_of_runs runs form may rfl diff)
  case timeSetStopped => exact answers_refuse taken (by decide) rfl (bodyTimeSet_of_stopped stopped sec ns frac)
  case adjustNow =>
    exact answers_of taken (by decide) rfl
      ((bodyTimeAdjust_of_allowed runs two_pos may allowed h target).trans (if_pos rfl))
  case adjustLater =>
    exact answers_accepted taken (by decide) rfl ((bodyTimeAdjust_of_allowed runs one_lt_two may allowed h target).trans
      (by simp [unset, ahead.not_ge]))
  case adjustBusy => exact answers_refuse taken (by decide) rfl (bodyTimeAdjust_of_busy runs two_pos busy h target)
  case jumpAccepted =>
    exact answers_okWith taken (by decide) rfl ((bodyTimeAcceptJump_of_runs runs).trans (if_neg (by simp [refused])))
  case noJump =>
    exact answers_refuse taken (by decide) rfl ((bodyTimeAcceptJump_of_runs runs).trans (if_pos notRefused))
  case timeRead => exact answers_okWith taken (by decide) rfl (bodyTimeRead_of_runs runs)
  case timeReadStopped => exact answers_refuse taken (by decide) rfl (bodyTimeRead_of_stopped stopped)

end Sys2Proof
end

section
/-! SUPPORT. Candidates, the selectors and the mooring record: refits, presence, loss, acquisition, the seconds recorded
and REF_FORCE (R136, R139, R140, R147, R148, R150, R155 to R157). -/

namespace Sys2Proof.Machine

section
variable {c : Nat} {s : State}

/-! ### Refits (R139, R148) -/

section
variable (runs : rRefs s = true) (present : (cand s c).present = true) (on : (cand s c).state ≠ .off)
include runs present on

/-- What a refit stores precedes its steps: band and phase, the dispute step of each selector, steering, selection. -/
theorem refitNow_of_measured {f : Int} (fit : measure s c = some f) {t : State} (stored : t = modCand c (fun x =>
      { x with
        freq := f, refits := x.refits + 1, tol := par s bREFS c Par.rfPhaseTol
        clock := x.clock + candPar s c Par.rfMonWindow }) s) :
    refitNow c s =
      evaluate (steerByFreq c (disputeStep c 2 (disputeStep c 1 (disputeStep c 0 (bandPhase c t))))) := by
  delta refitNow
  rw [if_neg (by simp [runs, present, on]), fit]
  simp only [← stored, List.foldl_cons, List.foldl_nil]

theorem refitNow_of_unmeasured (unfit : measure s c = none) : refitNow c s = s := by
  delta refitNow
  rw [if_neg (by simp [runs, present, on]), unfit]

end

/-! ### Edges and presence (R136, R140) -/

section
variable (runs : rRefs s = true) {k : Nat} (known : k < 12)
include runs known

theorem effRefEdge_of_first (first : (cand s k).edge = none) (stamp : Nat) :
    effRefEdge k stamp s = modCand k (fun x => { x with edge := some (dueOf s stamp), near := 0 }) s := by
  delta effRefEdge
  rw [if_neg (by simp [runs, known.not_ge])]
  dsimp only
  rw [first]

section
variable {e : Int} (last : (cand s k).edge = some e) {stamp : Nat}
include last

/-- A PPS edge less than 0.9 s after the last is counted and otherwise ignored. -/
theorem effRefEdge_of_early (pps : candPar s k Par.rfRefType = 0)
    (early : 10 * (dueOf s stamp - e) < 9 * 65536000000000) :
    effRefEdge k stamp s = modRefs (fun r => { r with ppsExtra := (r.ppsExtra + 1) % 2 ^ 32 }) s := by
  delta effRefEdge
  rw [if_neg (by simp [runs, known.not_ge])]
  dsimp only
  rw [last]
  exact if_pos ⟨pps, early⟩

/-- An edge that follows another within the loss interval brings an absent input as a candidate. -/
theorem effRefEdge_of_within (late : 9 * 65536000000000 ≤ 10 * (dueOf s stamp - e))
    (within : withinLoss s k (dueOf s stamp - e) = true) (absent : (cand s k).present = false) :
    effRefEdge k stamp s = evaluate (candArrives k (modCand k (fun x =>
      { x with edge := some (dueOf s stamp), near := (cand s k).near + 1 }) s)) := by
  delta effRefEdge
  rw [if_neg (by simp [runs, known.not_ge])]
  dsimp only
  rw [last]
  dsimp only
  rw [if_neg fun ⟨_, early⟩ => late.not_gt early, within, absent]
  rfl

end

theorem effRefLost_of_present (present : (cand s k).present = true) : effRefLost k s = evaluate (candLost k s) :=
  if_neg (by simp [runs, known.not_ge, present])

end

section
variable (runs : rRefs s = true)
include runs

section
variable (port : 0x20 ≤ c) (exist : candExists c = true)
include port exist

theorem effCandidatePresenceChange_of_arrival (here : portPresent s c = true) (absent : (cand s c).present = false) :
    effCandidatePresenceChange c true s = evaluate (candArrives c s) := by
  simp [effCandidatePresenceChange, runs, port, exist, here, absent]

theorem effCandidatePresenceChange_of_departure (gone : portPresent s c = false) (present : (cand s c).present = true) :
    effCandidatePresenceChange c false s = evaluate (candLost c s) := by
  simp [effCandidatePresenceChange, runs, port, exist, gone, present]

end

/-! ### Monitors, loss and acquisition (R148, R150, R156, R157) -/

theorem effMonitorFail_of_good (good : candGood s c = true) :
    effMonitorFail c s = evaluate (disqualify c 5 0xFF 0 (raise bREFS 6 s)) := if_neg (by simp [runs, good])

theorem effMainLost_of_none (bare : eligibles s 0 = []) : effMainLost s = evaluate s :=
  if_neg (by simp [runs, bare])

theorem effAuxDpllLost_of_none {i : Nat} (known : i < 2) (bare : eligibles s (i + 1) = []) :
    effAuxDpllLost i s = evaluate s := if_neg (by simp [runs, known.not_ge, bare])

theorem effAcquisitionEnd_of_selected {i : Nat} (known : i < 3) (selected : (selOf s i).sel ≠ 0xFF)
    (free : i ≠ 0 ∨ s.guh.refTime = false) :
    effAcquisitionEnd i s = modSel i (fun x => { x with acquired := true }) s :=
  if_neg (by rcases free with aux | frequency <;> simp [known.not_ge, *])

/-! ### The mooring record (R155, R157) -/

/-- A second recorded inside the hour, not in holdover and with the record valid: the record takes it, then the outputs
of the auxiliary DPLLs. -/
theorem effMooringSecond_of_recording {freq : Int} (records : moorRecords s = true) (steers : (selOf s 0).hold = false)
    (valid : s.refs.valid = true) (still : s.refs.hourSec < 3599) {t u : State}
    (recorded : t = modRefs (fun r =>
      { r with
        secs := (some freq :: r.secs).take (refPar s Par.rfMoorAvg + refPar s Par.rfMoorGuard)
        hourSum := r.hourSum + freq, hourN := r.hourN + 1, hourSec := r.hourSec + 1, recorded := r.recorded + 1 }) s)
    (aux : u = modSel 1 (fun x => { x with hist := (dpllNow t 1 :: x.hist).take 11 }) t) :
    effMooringSecond freq s = modSel 2 (fun x => { x with hist := (dpllNow u 2 :: x.hist).take 11 }) u := by
  have stored : modRefs (fun r => closeHour
      { r with
        secs := (some freq :: r.secs).take (refPar s Par.rfMoorAvg + refPar s Par.rfMoorGuard)
        hourSum := r.hourSum + freq, hourN := r.hourN + 1, hourSec := r.hourSec + 1, recorded := r.recorded + 1 }) s = t := by
    rw [recorded]
    exact congrArg (fun r => modRefs (fun _ => r) s) (if_pos (Nat.add_lt_add_right still 1))
  have keeps : (modSel 2 (fun x => { x with hist := (dpllNow u 2 :: x.hist).take 11 }) u).refs.valid = true := by
    rw [aux, recorded]
    exact valid
  simp only [effMooringSecond, runs, records, steers, Bool.not_true, Bool.false_eq_true, if_false, if_true, stored,
    List.foldl_cons, List.foldl_nil, ← aux, keeps, false_and]

/-! ### REF_FORCE (R147) -/

section
variable {i : Nat} (known : i < 3)
include known

theorem bodyRefForce_of_eligible (named : c ≠ 0xFF) (on : selOn s i = true) (may : eligible s i c = true) :
    bodyRefForce i c s = ok (evaluate (modSel i (fun x => { x with force := some c }) s)) := by
  simp [bodyRefForce, runs, known.not_ge, named, on, may]

theorem bodyRefForce_of_notEligible (named : c ≠ 0xFF) (barred : eligible s i c = false) :
    bodyRefForce i c s = refuse stNotReady s := by
  simp [bodyRefForce, runs, known.not_ge, named, barred]

/-- ID 0xFF makes a force lapse. -/
theorem bodyRefForce_of_lapse (forced : (selOf s i).force.isSome = true) :
    bodyRefForce i 0xFF s = ok (evaluate (modSel i (fun x => { x with force := some 0xFF }) s)) := by
  simp [bodyRefForce, runs, known.not_ge, forced]

end

end

end

end Sys2Proof.Machine

namespace Sys2Proof

open Machine

/-- Settles O34, row by row: each leaves, or answers, what its effect comes to in the case at hand. -/
theorem referenceRows : Obligations.ReferenceRows := by
  intro h c i k stamp ns frac freq s runs
  refine ⟨fun v passed runs' present on => ⟨fun f fit t stored => ?refit, fun unfit => ?noPoints⟩,
    fun known t due => ⟨fun first => ?firstEdge, fun e last pps early => ?earlyEdge,
      fun e last late within absent n near => ?secondEdge⟩,
    fun known present => ?lost,
    fun port exist => ⟨fun here absent => ?arrives, fun gone present => ?departs⟩,
    fun good => ?monitorFails, fun bare => ?mainLost, fun known bare => ?auxLost,
    fun known selected free => ?acquired,
    fun records steers valid still t recorded u aux => ?recorded,
    fun taken known => ⟨fun named on may => ?forced, fun named barred => ?barred, fun forced => ?lapses⟩⟩
  case refit =>
    subst passed
    exact leaves_of rfl (refitNow_of_measured runs' present on fit stored)
  case noPoints =>
    subst passed
    exact leaves_of rfl (refitNow_of_unmeasured runs' present on unfit)
  case firstEdge =>
    subst due
    exact leaves_of rfl (effRefEdge_of_first runs known first stamp)
  case earlyEdge =>
    subst due
    exact leaves_of rfl (effRefEdge_of_early runs known last pps early)
  case secondEdge =>
    subst due near
    exact leaves_of rfl (effRefEdge_of_within runs known last late within absent)
  case lost => exact leaves_of rfl (effRefLost_of_present runs known present)
  case arrives => exact leaves_of rfl (effCandidatePresenceChange_of_arrival runs port exist here absent)
  case departs => exact leaves_of rfl (effCandidatePresenceChange_of_departure runs port exist gone present)
  case monitorFails => exact leaves_of rfl (effMonitorFail_of_good runs good)
  case mainLost => exact leaves_of rfl (effMainLost_of_none runs bare)
  case auxLost => exact leaves_of rfl (effAuxDpllLost_of_none runs known bare)
  case acquired => exact leaves_of rfl (effAcquisitionEnd_of_selected runs known selected free)
  case recorded => exact leaves_of rfl (effMooringSecond_of_recording runs records steers valid still recorded aux)
  case forced => exact answers_of taken (by decide) rfl (bodyRefForce_of_eligible runs known named on may)
  case barred => exact answers_refuse taken (by decide) rfl (bodyRefForce_of_notEligible runs known named barred)
  case lapses => exact answers_of taken (by decide) rfl (bodyRefForce_of_lapse runs known forced)

end Sys2Proof
end

section
/-! SUPPORT. The loops of CSYN and Store's interface: time PLLs, what feeds the core, Store, PCIe and auxiliary loops
(R21, R24, R159, R162, R163, R166 to R168). -/

namespace Sys2Proof.Machine

section
variable {s t : State}

/-! ### Time PLLs (R162, R163) -/

section
variable {pll : Nat} (known : pll < 2) (locked : timeLocked s pll = true)
  (lost : t = timeSwapFails (beginCause bCSYN (1 + pll)
    (modClk (fun c => if pll = 0 then { c with lockA := false, relockA := true }
      else { c with lockB := false, relockB := true }) s)))
include known locked lost

/-- TIME_PLL_UNLOCK of the spare only raises its source. -/
theorem effTimePllUnlock_of_spare (spare : t.clk.timeServing ≠ pll) : effTimePllUnlock pll s = t := by
  subst lost
  exact (if_neg (by simp [known.not_ge, locked])).trans (if_pos spare)

/-- TIME_PLL_UNLOCK of the serving PLL hands over to the other, which a test yields first (R162, R395). -/
theorem effTimePllUnlock_of_serving (serving : t.clk.timeServing = pll) (other : timeLocked t (1 - pll) = true) :
    effTimePllUnlock pll s = substituted none bCSYN 0 0 3 (report bCSYN 0x02 [w32 (1 - pll), 0]
      (modClk (fun c => { c with timeServing := 1 - pll }) (bistYield bCSYN 0 t))) := by
  subst lost
  exact (if_neg (by simp [known.not_ge, locked])).trans ((if_neg (not_not_intro serving)).trans (if_pos other))

end

theorem effTimePllRelockFail_of_relocking (relocks : s.clk.relockA = true ∨ s.clk.relockB = true) :
    effTimePllRelockFail s = raise bCSYN 3 (modClk (fun c => { c with relockA := false, relockB := false }) s) :=
  if_pos (by simpa using relocks)

/-- TIME_PLL_RELOCKED of PLL B while the serving PLL is locked: B locks as the spare. -/
theorem effTimePllRelocked_of_spare (runs : csynRuns s = true) (unlocked : timeLocked s 1 = false)
    (serves : timeLocked s s.clk.timeServing = true) :
    effTimePllRelocked 1 s = coreFollows (endCause bCSYN 4 (endCause bCSYN 2
      (modClk (fun c => { c with lockB := true, relockB := false }) s))) := by
  delta effTimePllRelocked
  rw [if_neg (by simp [runs, unlocked])]
  simp only [serves, Bool.not_true, Bool.false_eq_true, if_false, one_ne_zero]

theorem effTimePllBoth_of_runs (runs : csynRuns s = true) :
    effTimePllBoth s = coreFollows (beginCause bCSYN 4 (timeSwapFails
      (modClk (fun c => { c with lockA := false, lockB := false }) s))) := if_neg (by simp [runs])

/-- TIME_PLL_SWAPPED of a granted swap exchanges the PLLs and completes SPARE_SWAP. -/
theorem effTimePllSwapped_of_granted (asked : s.clk.swapReq = true) (granted : govGranted s .timePllSwap = true)
    (lockA : s.clk.lockA = true) (lockB : s.clk.lockB = true)
    (completed : t = completeWith 0x0F02 (unitKey bCSYN 0) bCSYN 0x02 [w32 (1 - s.clk.timeServing), 1] stOk
      (govEnd .timePllSwap (modClk (fun c => { c with timeServing := 1 - s.clk.timeServing, swapReq := false }) s))) :
    effTimePllSwapped s = rotSwapped bCSYN 0 (substituted none bCSYN 0 0 (swapCause t bCSYN 0) t) := by
  subst completed
  exact if_neg (by simp [asked, granted, lockA, lockB])

/-! ### What feeds the core (R166, R167) -/

theorem effCorePllUnlock_of_locked (locked : s.clk.coreLock = true)
    (lost : t = beginCause bCSYN 5 (modClk (fun c => { c with coreLock := false }) s)) :
    effCorePllUnlock s = coreFrom (fallback s) t := by
  subst lost
  exact if_neg (by simp [locked])

theorem fallback_of_timeLocked (locked : timeLocked s s.clk.timeServing = true) : fallback s = 1 := if_pos locked

theorem fallback_of_timeUnlocked (unlocked : timeLocked s s.clk.timeServing = false) : fallback s = 2 :=
  if_neg (by simp [unlocked])

/-- CORE_RETURN where CORE_RETURN = 0 moves the core back to the core PLL. -/
theorem effCoreReturn_of_automatic (runs : csynRuns s = true)
    (relocked : t = endCause bCSYN 5 (modClk (fun c => { c with coreLock := true }) s))
    (automatic : parN t bCSYN 0xF0 Par.ckCoreReturn = 0) : effCoreReturn s = coreFrom 0 t := by
  subst relocked
  exact (if_pos runs).trans (if_pos ⟨rfl, automatic⟩)

/-! ### Store, PCIe and auxiliary loops (R21, R24, R159, R168) -/

theorem effStorePllUnlock_of_locked (locked : s.clk.storeLock = true) :
    effStorePllUnlock s =
      { beginCause bCSYN 6 (modClk (fun c => { c with storeLock := false }) s) with storeTrained := false } :=
  if_neg (by simp [locked])

theorem effPciePllUnlock_of_locked (locked : s.clk.pcieLock = true) :
    effPciePllUnlock s = pcieDown (beginCause bCSYN 7 (modClk (fun c => { c with pcieLock := false }) s)) :=
  if_neg (by simp [locked])

section
variable (on : (hdr s bSTORE).state ≠ .off) (clocked : s.clk.csynStopped = false)
include on clocked

theorem effStoreTrained_of_success {size : Nat} (least : 1 ≤ size) (most : size ≤ 4) :
    effStoreTrained true size s =
      { modClk (fun c => { c with storeLock := true }) (endCause bCSYN 6 (endCause bSTORE 2 s)) with
        storeTrained := true, storeSize := size } := by
  delta effStoreTrained
  rw [if_neg (by simp [on, clocked]), if_neg (by decide), if_pos ⟨least, most⟩]

theorem effStoreTrained_of_failure (size : Nat) :
    effStoreTrained false size s = raise bSTORE 2 { s with storeTrained := false } :=
  (if_neg (by simp [on, clocked])).trans (if_pos rfl)

end

theorem effStoreRetrain_of_trained (trained : s.storeTrained = true)
    (counted : t = { s with storeRetrains := min (s.storeRetrains + 1) 255 }) (ok : Bool) :
    effStoreRetrain ok s = if ok then report bSTORE 0x02 [] t else raise bSTORE 2 { t with storeTrained := false } := by
  subst counted
  exact if_neg (by simp [trained])

theorem effAuxUnlock_of_locked {k : Nat} (known : k < 2) (lock0 : s.clk.auxLock0 = true)
    (lock1 : s.clk.auxLock1 = true) : effAuxUnlock k s = beginCause bCSYN 8
      (modClk (fun c => if k = 0 then { c with auxLock0 := false } else { c with auxLock1 := false }) s) :=
  if_neg (by simp [known.not_ge, lock0, lock1])

end

end Sys2Proof.Machine

namespace Sys2Proof

open Machine

/-- Settles O31, row by row: each leaves what its effect comes to in the case at hand. -/
theorem clockLoopRows : Obligations.ClockLoopRows := by
  intro pll size k o s known
  refine ⟨fun locked t lost => ⟨fun spare => ?spareUnlocks, fun serving other => ?servingUnlocks⟩,
    fun relocks => ?relockFails, fun runs unlocked serves => ?relocked, fun runs => ?bothLost,
    fun asked granted lockA lockB t completed => ?swapped,
    fun locked t lost => ⟨fun timed => ?toHarbour, fun untimed => ?toOscillator⟩,
    fun runs t relocked automatic => ?coreReturns, fun locked => ?storeUnlocks, fun locked => ?pcieUnlocks,
    fun on clocked least most => ⟨?storeTrains, ?storeFailsTraining⟩, fun trained => ⟨?retrains, ?failsRetraining⟩,
    fun known lock0 lock1 => ?auxUnlocks, fun known runs => ?dllFails⟩
  case spareUnlocks => exact leaves_of rfl (effTimePllUnlock_of_spare known locked lost spare)
  case servingUnlocks => exact leaves_of rfl (effTimePllUnlock_of_serving known locked lost serving other)
  case relockFails => exact leaves_of rfl (effTimePllRelockFail_of_relocking relocks)
  case relocked => exact leaves_of rfl (effTimePllRelocked_of_spare runs unlocked serves)
  case bothLost => exact leaves_of rfl (effTimePllBoth_of_runs runs)
  case swapped => exact leaves_of rfl (effTimePllSwapped_of_granted asked granted lockA lockB completed)
  case toHarbour =>
    exact leaves_of rfl (fallback_of_timeLocked timed ▸ effCorePllUnlock_of_locked locked lost)
  case toOscillator =>
    exact leaves_of rfl (fallback_of_timeUnlocked untimed ▸ effCorePllUnlock_of_locked locked lost)
  case coreReturns => exact leaves_of rfl (effCoreReturn_of_automatic runs relocked automatic)
  case storeUnlocks => exact leaves_of rfl (effStorePllUnlock_of_locked locked)
  case pcieUnlocks => exact leaves_of rfl (effPciePllUnlock_of_locked locked)
  case storeTrains => exact leaves_of rfl (effStoreTrained_of_success on clocked least most)
  case storeFailsTraining => exact leaves_of rfl (effStoreTrained_of_failure on clocked size)
  case retrains => exact leaves_of rfl (effStoreRetrain_of_trained trained rfl true)
  case failsRetraining => exact leaves_of rfl (effStoreRetrain_of_trained trained rfl false)
  case auxUnlocks => exact leaves_of rfl (effAuxUnlock_of_locked known lock0 lock1)
  case dllFails => exact leaves_of rfl (if_pos ⟨known, runs⟩)

end Sys2Proof
end

section
/-! SUPPORT. Clock outputs, pulse outputs, alignment lines and oscillators (R160, R171, R173, R175, R177 to R179). -/

namespace Sys2Proof.Machine

@[simp] theorem clkOut_modOut_same (o : Nat) (f : ClkOut → ClkOut) (s : State) :
    clkOut (modOut o f s) o = f (clkOut s o) := Tab.get_set_same ..

/-- Two changes of an output are one. -/
theorem modOut_modOut (o : Nat) (f g : ClkOut → ClkOut) (s : State) :
    modOut o g (modOut o f s) = modOut o (fun c => g (f c)) s := by
  refine congrArg (fun outs => { s with clk := { s.clk with outs } }) ?_
  rw [clkOut_modOut_same]
  exact Tab.set_set ..

section
variable {o : Nat} {d : Int} {s t : State}

/-! ### Steps and restarts of a CLOCK output (R173, R175) -/

section
variable (runs : clockRuns s o = true) (below : restartDue s o = false)
include runs below

/-- A step towards zero of a count that it leaves above zero. -/
theorem effOutStep_of_above (above : 1 < (clkOut s o).pending) :
    effOutStep o s = modOut o (fun c => { c with
      pending := (clkOut s o).pending - 1
      line := if (clkOut s o).line + 1 = 100 then 0 else (clkOut s o).line + 1 }) s := by
  have positive : 0 < (clkOut s o).pending := by omega
  have more : (clkOut s o).pending - 1 ≠ 0 := by omega
  delta effOutStep
  rw [if_neg (by simp [runs, below, positive.ne'])]
  simp only [positive, more, if_true, if_false]

/-- The last step of a negative count is reported. -/
theorem effOutStep_of_last (last : (clkOut s o).pending = -1) :
    effOutStep o s = report bCSYN 0x05 [w32 o] (modOut o (fun c => { c with
      pending := 0
      line := if (clkOut s o).line = 0 then 99 else (clkOut s o).line - 1 }) s) := by
  have negative : ¬ 0 < (clkOut s o).pending := by omega
  have noneLeft : (clkOut s o).pending + 1 = 0 := by omega
  delta effOutStep
  rw [if_neg (by simp [runs, below, last])]
  simp only [negative, noneLeft, if_true, if_false]

end

theorem effOutRestarted_of_due {x : ClkSet} (clock : (clkOut s o).mode = 1) (due : restartDue s o = true)
    (now : x = ⟨1, (clkOut s o).source, (clkOut s o).div, (clkOut s o).period, (clkOut s o).width,
      (clkOut s o).align⟩) :
    effOutRestarted o s = report bCSYN 0x04 ([w32 o] ++ w64i (clkOut s o).pending)
      (emit (.pin (.clk o) false) (modOut o (fun c => { c with
        pending := 0
        resume := clockRise (clkBase s o) (clockFall s o x + fsU (x.periodFs s) - 1) (x.periodFs s) }) s)) := by
  subst now
  delta effOutRestarted
  rw [if_pos ⟨clock, due⟩, clock]

/-! ### Alignment to an input (R178) -/

section
variable (least : 1 ≤ alignOf s o) (most : alignOf s o ≤ 12)
include least most

theorem effOutAlignEdge_of_within (within : |d| ≤ alignWindow s o) :
    effOutAlignEdge o d s =
      if o < 16 ∧ (clkOut (setAlignLost o false s) o).mode = 1 then addPending o (toPs d) (setAlignLost o false s)
      else moveEdge o d (setAlignLost o false s) :=
  (if_neg (by omega)).trans (if_pos within)

theorem effOutAlignEdge_of_beyond (beyond : alignWindow s o < |d|) : effOutAlignEdge o d s = setAlignLost o true s :=
  (if_neg (by omega)).trans (if_neg beyond.not_ge)

end

/-! ### Pulse and FRAME edges (R171, R179) -/

/-- An edge that is no rising edge of a sector event does nothing beyond the edge. -/
theorem effPulseEdgeOf_of_noEvent {n : Nat}
    (unasked : (pulse s n).high = true ∨ ∀ due slot r, (pulse s n).queue ≠ (due, some slot) :: r) :
    effPulseEdgeOf n s = effPulseEdge n s := by
  delta effPulseEdgeOf
  dsimp only
  obtain high | unasked := unasked
  · exact if_neg (by simp [high])
  · match queue : (pulse s n).queue with
    | [] => exact ite_self _
    | (_, none) :: _ => exact ite_self _
    | (due, some slot) :: r => exact absurd queue (unasked due slot r)

section
variable {a : Armed}

section
variable {n : Nat} (fired : fireCmp (28 + n) s = (some a, t))
include fired

theorem effPulseEdge_of_low (low : (pulse t n).high = false) :
    effPulseEdge n s = armPulse n (drivePulse n (modPulse n (fun _ => { pulse t n with
      high := true, rise := a.fires, edge := some (pulse t n).armed
      queue := if (pulse t n).set.mode = 2 then (pulse t n).queue.drop 1 else (pulse t n).queue }) t)) := by
  delta effPulseEdge
  rw [fired]
  dsimp only
  rw [if_neg (by simp [low])]

/-- A falling edge that no settings wait for. -/
theorem effPulseEdge_of_high (high : (pulse t n).high = true) (free : (pulse t n).held = none) :
    effPulseEdge n s = armPulse n (drivePulse n (modPulse n (fun _ => { pulse t n with
      high := false, fall := some a.fires }) t)) := by
  delta effPulseEdge
  rw [fired]
  dsimp only
  rw [if_pos high, free]
  rfl

end

section
variable {g : Nat} (serves : genOut s g = some o) (fired : fireCmp (52 + g) s = (some a, t))
include serves fired

theorem effFrameOutputEdge_of_low (low : (clkOut t o).high = false) :
    effFrameOutputEdge g s = armAt (52 + g) (a.fires + nsU (clkOut t o).width)
      (emit (.pin (.clk o) true) (modOut o (fun c => { c with high := true, edge := some c.armed }) t)) := by
  delta effFrameOutputEdge
  rw [serves]
  dsimp only
  rw [fired]
  exact if_neg (by simp [low])

theorem effFrameOutputEdge_of_high (high : (clkOut t o).high = true) :
    effFrameOutputEdge g s =
      frameFell o a.fires (emit (.pin (.clk o) false) (modOut o (fun c => { c with high := false }) t)) := by
  delta effFrameOutputEdge
  rw [serves]
  dsimp only
  rw [fired]
  exact if_pos high

end

end

/-! ### Spare alignment lines (R177) -/

/-- DLL_SWAPPED of a granted swap of an output on its own line puts it on its group's spare. -/
theorem effDllSwapped_of_granted (known : o < 16) (granted : govGranted s (.lineSwap o) = true)
    (own : (clkOut s o).onSpare = false)
    (completed : t = completeWith 0x0F02 (unitKey bCSYN (0x10 + o)) bCSYN 0x06 [w32 o, w32 (o / 8)] stOk
      (modClk (fun c => { c with dllBusy := setBit c.dllBusy (o / 8) })
        (modOut o (fun x => { x with onSpare := true }) (govEnd (.lineSwap o) s)))) :
    effDllSwapped o s = rotSwapped bCSYN (0x10 + o)
      (substituted none bCSYN (0x10 + o) (0x20 + o / 8) (swapCause t bCSYN (0x10 + o)) t) := by
  delta effDllSwapped
  rw [if_neg (by simp [known.not_ge, granted])]
  simp only [own, Bool.not_false, if_true, ← completed]

/-! ### Oscillators (R160) -/

section
variable (active : oscActive s 0 = true)
  (gone : t = modClk (fun c => { c with oscOkA := false }) { s with tic := { s.tic with mons := s.tic.mons.del 12 } })
include active gone

/-- The loss of the oscillator in service moves the loops to the other. -/
theorem oscGone_of_inService (inService : s.clk.osc = 0) (other : oscActive (raise bCSYN 0 t) 1 = true) :
    oscGone 0 s = oscSwitch 1 (raise bCSYN 0 t) := by
  subst gone
  exact (if_neg (by simp [active])).trans ((if_neg (not_not_intro inService)).trans (if_pos other))

theorem oscGone_of_spare (spare : s.clk.osc = 1) : oscGone 0 s = t := by
  subst gone
  exact (if_neg (by simp [active])).trans (if_pos (by simp [spare]))

end

theorem effOscLost_of_bothActive (both : oscActive s (1 - s.clk.osc) = true) :
    effOscLost s = oscGone (Config.freeNat s.free % 2) { s with free := s.free + 1 } := if_pos both

theorem effOscLost_of_oneActive (alone : oscActive s (1 - s.clk.osc) = false) :
    effOscLost s = oscGone s.clk.osc s := if_neg (by simp [alone])

/-- OSC_RETURN of oscillator A, which OSC_PREF names, while B serves. -/
theorem effOscReturn_of_preferred (other : s.clk.osc = 1) (lost : oscActive s 0 = false)
    (measured : t = modClk (fun c => { c with oscDiff := Config.freeInt s.free })
      { modClk (fun c => { c with oscOkA := true }) s with free := s.free + 1 })
    (preferred : parN s bCSYN 0xF0 Par.ckOscPref = 0) : effOscReturn 0 s = oscSwitch 0 t := by
  subst measured
  exact (if_neg (by simp [lost])).trans ((if_neg (by simp [other])).trans (if_pos (.inr preferred)))

/-! ### OUT_PHASE_STEP (R173) -/

theorem bodyOutPhaseStep_of_beyond (beyond : 10 ^ 12 < |d|) : bodyOutPhaseStep o d s = refuse stOutOfRange s :=
  if_pos (.inl beyond)

section
variable (known : o < 16) (within : |d| ≤ 10 ^ 12)
include known within

theorem outPhaseStep_inRange : ¬ (10 ^ 12 < |d| ∨ ¬ (o < 16 ∨ (0x20 ≤ o ∧ o < 0x38))) :=
  not_or.mpr ⟨within.not_gt, not_not_intro (.inl known)⟩

theorem bodyOutPhaseStep_of_dark (dark : rTimePll s = false) : bodyOutPhaseStep o d s = refuse stNotReady s :=
  (if_neg (outPhaseStep_inRange known within)).trans ((if_pos known).trans (if_pos (by simp [dark])))

/-- A step of an aligned CLOCK output adds to its pending count and ends its lost mark. -/
theorem bodyOutPhaseStep_of_clock (light : rTimePll s = true) (clock : (clkOut s o).mode = 1)
    (aligned : (clkOut s o).align ≠ 15) :
    bodyOutPhaseStep o d s = okWith (w64i ((clkOut s o).pending + d))
      (reviewAlign (modOut o (fun c => { c with pending := c.pending + d, lost := false }) s)) := by
  have added : addPending o d s = modOut o (fun c => { c with pending := c.pending + d }) s :=
    if_pos ⟨clock, aligned⟩
  have reviewed : setAlignLost o false (addPending o d s) =
      reviewAlign (modOut o (fun c => { c with pending := c.pending + d, lost := false }) s) := by
    rw [added, ← modOut_modOut o (fun c => { c with pending := c.pending + d }) (fun c => { c with lost := false })]
    exact congrArg reviewAlign (if_pos known)
  delta bodyOutPhaseStep
  rw [if_neg (outPhaseStep_inRange known within), if_pos known, if_neg (by simp [light]), if_neg (by simp [clock])]
  dsimp only
  rw [reviewed, added, clkOut_modOut_same, if_pos clock]

end

end

end Sys2Proof.Machine

namespace Sys2Proof

open Machine

/-- Settles O35, row by row: each leaves, or answers, what its effect comes to in the case at hand. -/
theorem outputRows : Obligations.OutputRows := by
  intro h o n g d s
  refine ⟨fun runs below => ⟨fun above => ?steps, fun last => ?stepsLast⟩,
    fun clock due x now per period v rise => ?restarts,
    fun least most => ⟨fun within known clock => ?alignsClock, fun within pulseOut => ?alignsPulse,
      fun beyond => ?losesAlignment⟩,
    fun a t fired => ⟨fun unasked low => ?pulseRises, fun high stillHigh free => ?pulseFalls⟩,
    fun serves a t fired => ⟨fun low => ?frameRises, fun high => ?frameFalls⟩,
    fun known granted own t completed => ?lineSwapped,
    fun active t gone => ⟨fun inService u raised other => ?serviceLost, fun spare => ?spareLost⟩,
    fun both => ?eitherLost, fun alone => ?onlyLost,
    fun other _ lost t measured preferred => ?oscReturns,
    fun taken known within => ⟨fun light clock aligned => ?phaseStepped, fun dark => ?phaseStepDark⟩,
    fun taken beyond => ?phaseStepTooFar⟩
  case steps => exact leaves_of rfl (effOutStep_of_above runs below above)
  case stepsLast => exact leaves_of rfl (effOutStep_of_last runs below last)
  case restarts =>
    subst period rise
    exact leaves_of rfl (effOutRestarted_of_due clock due now)
  case alignsClock => exact leaves_of rfl ((effOutAlignEdge_of_within least most within).trans (if_pos ⟨known, clock⟩))
  case alignsPulse => exact leaves_of rfl ((effOutAlignEdge_of_within least most within).trans (if_neg (by omega)))
  case losesAlignment => exact leaves_of rfl (effOutAlignEdge_of_beyond least most beyond)
  case pulseRises =>
    exact leaves_of rfl ((effPulseEdgeOf_of_noEvent (.inr unasked)).trans (effPulseEdge_of_low fired low))
  case pulseFalls =>
    exact leaves_of rfl ((effPulseEdgeOf_of_noEvent (.inl high)).trans (effPulseEdge_of_high fired stillHigh free))
  case frameRises => exact leaves_of rfl (effFrameOutputEdge_of_low serves fired low)
  case frameFalls => exact leaves_of rfl (effFrameOutputEdge_of_high serves fired high)
  case lineSwapped => exact leaves_of rfl (effDllSwapped_of_granted known granted own completed)
  case serviceLost =>
    subst raised
    exact oscGone_of_inService active gone inService other
  case spareLost => exact oscGone_of_spare active gone spare
  case eitherLost => exact leaves_of rfl (effOscLost_of_bothActive both)
  case onlyLost => exact leaves_of rfl (effOscLost_of_oneActive alone)
  case oscReturns => exact leaves_of rfl (effOscReturn_of_preferred other lost measured preferred)
  case phaseStepped =>
    exact answers_okWith taken (by decide) rfl (bodyOutPhaseStep_of_clock known within light clock aligned)
  case phaseStepDark => exact answers_refuse taken (by decide) rfl (bodyOutPhaseStep_of_dark known within dark)
  case phaseStepTooFar => exact answers_refuse taken (by decide) rfl (bodyOutPhaseStep_of_beyond beyond)

end Sys2Proof
end

section
/-! SUPPORT. TIC_ARM and TIC_READ (R186, R188, R194). -/

namespace Sys2Proof.Machine

section
variable {h : CmdHdr} {a : TicArgs} {c n : Nat} {s : State}

theorem bodyTicArm_of_notReady (unready : rTic s = false) : bodyTicArm h a s = refuse stNotReady s :=
  if_pos (by simp [unready])

section
variable (ready : rTic s = true)
include ready

/-- STOP ends every measurement that shares a channel with the mask. -/
theorem bodyTicArm_of_stop (stop : a.stop = true) (named : 0 < a.channels) (known : a.channels < 2 ^ 25) :
    bodyTicArm h a s =
      ok ((s.tic.meas.filter (fun m => measMask m.args &&& a.channels != 0)).foldl (fun s m => measEnds m 1 s) s) :=
  (if_neg (by simp [ready])).trans ((if_pos stop).trans (if_neg (by omega)))

section
variable (start : a.stop = false)
include start

theorem bodyTicArm_of_badArgs (bad : ticArgsOk a = false) : bodyTicArm h a s = refuse stOutOfRange s :=
  (if_neg (by simp [ready])).trans ((if_neg (by simp [start])).trans (if_pos (by simp [bad])))

variable (fits : ticArgsOk a = true) {cs : List Nat}
  (named : cs = (List.range 25).filter (fun c => (measMask a).testBit c))
include fits named

theorem bodyTicArm_of_busy (busy : cs.any (fun c => (measOf s c).isSome || encHolds s c) = true) :
    bodyTicArm h a s = refuse stBusy s := by
  subst named
  exact (if_neg (by simp [ready])).trans
    ((if_neg (by simp [start])).trans ((if_neg (by simp [fits])).trans (if_pos busy)))

/-- A measurement on free channels opens after 16 pairs on each of their interpolators, calibrated anew (R186). -/
theorem bodyTicArm_of_free {t : State} (free : cs.any (fun c => (measOf s c).isSome || encHolds s c) = false)
    (anew : t = cs.foldl (fun s c => modCh c (fun x => { x with gate := [] }) (calAnew (servingUnit s c) s)) s) :
    bodyTicArm h a s = accepted 0x0B01 a.channels h { t with tic := { t.tic with
      meas := t.tic.meas ++ [⟨h, a, cs.map (fun c => (servingUnit t c, 16)), 0, 0, none, a.channels⟩] } } := by
  subst named anew
  exact (if_neg (by simp [ready])).trans
    ((if_neg (by simp [start])).trans ((if_neg (by simp [fits])).trans (if_neg (ne_true_of_eq_false free))))

end

end

theorem bodyTicRead_of_outOfRange (beyond : 25 ≤ c ∨ 256 < n) : bodyTicRead h c n s = refuse stOutOfRange s :=
  if_pos (by omega)

section
variable (known : c < 25) (least : 1 ≤ n) (most : n ≤ 256)
include known least most

theorem bodyTicRead_of_notReady (unready : rTic s = false) : bodyTicRead h c n s = refuse stNotReady s :=
  (if_neg (by omega)).trans (if_pos (by simp [unready]))

variable (ready : rTic s = true)
include ready

/-- A FIFO that the host reads by register is not read by commands. -/
theorem bodyTicRead_of_register (register : parN s bTIC c Par.tcFifoReader = 1) :
    bodyTicRead h c n s = refuse stBusy s :=
  (if_neg (by omega)).trans ((if_neg (by simp [ready])).trans (if_pos register))

/-- The oldest records, as many as asked for, held and fitting the reply, leave the FIFO. -/
theorem bodyTicRead_of_command {k : Nat} (command : parN s bTIC c Par.tcFifoReader ≠ 1)
    (count : k = min n (min (ticCh s c).fifo.length (roomFor h 4))) :
    bodyTicRead h c n s = okWith (w32 k :: ((ticCh s c).fifo.take k).flatten)
      (modCh c (fun x => { x with fifo := x.fifo.drop k }) s) := by
  subst count
  exact (if_neg (by omega)).trans ((if_neg (by simp [ready])).trans (if_neg command))

end

end

end Sys2Proof.Machine

namespace Sys2Proof

open Machine

/-- Settles O17, command by command: each answers what its body answers in the case at hand. -/
theorem ticCommands : Obligations.TicCommands := by
  intro h a c n s
  refine ⟨fun ready => ⟨fun taken =>
      ⟨fun start fits cs named => ⟨fun free t anew => ?armed, fun busy => ?busy⟩,
        fun start bad => ?badArgs, fun stop named known => ?stopped⟩,
    fun taken known least most => ⟨fun command k count => ?read, fun register => ?registerReads⟩,
    fun taken beyond => ?readOutOfRange⟩,
    fun unready => ⟨fun taken => ?armNotReady, fun taken known least most => ?readNotReady⟩⟩
  case armed => exact answers_accepted taken (by decide) rfl (bodyTicArm_of_free ready start fits named free anew)
  case busy => exact answers_refuse taken (by decide) rfl (bodyTicArm_of_busy ready start fits named busy)
  case badArgs => exact answers_refuse taken (by decide) rfl (bodyTicArm_of_badArgs ready start bad)
  case stopped => exact answers_of taken (by decide) rfl (bodyTicArm_of_stop ready stop named known)
  case read => exact answers_okWith taken (by decide) rfl (bodyTicRead_of_command known least most ready command count)
  case registerReads =>
    exact answers_refuse taken (by decide) rfl (bodyTicRead_of_register known least most ready register)
  case readOutOfRange => exact answers_refuse taken (by decide) rfl (bodyTicRead_of_outOfRange beyond)
  case armNotReady => exact answers_refuse taken (by decide) rfl (bodyTicArm_of_notReady unready)
  case readNotReady =>
    exact answers_refuse taken (by decide) rfl (bodyTicRead_of_notReady known least most unready)

end Sys2Proof
end

section
/-! SUPPORT. The rows of TIC: edges, calibration pairs, encoders, monitor marks, measurements and swaps (R183 to R186,
R188, R190, R191, R195, R196, R198, R199). -/

namespace Sys2Proof.Machine

section
variable {c : Nat} {l : Latch} {s : State}

/-! ### Edges (R183, R184) -/

/-- Channel `c` with one more edge counted and its prescaler at `ph`. -/
def countEdge (c ph : Nat) (s : State) : State :=
  modCh c (fun x => { x with count := (x.count + 1) % 2 ^ 32, phase := ph }) s

section
variable {ph : Nat} (phase : ph = (ticCh s c).phase + 1)
include phase

/-- An edge that the prescaler passes over is only counted. -/
theorem takeEdge_of_prescaled (below : ph < max 1 (parN s bTIC c Par.tcChPrescale)) :
    takeEdge c l s = (.passed, countEdge c ph s) := by
  subst phase
  delta takeEdge
  simp only [below.not_ge, decide_false, Bool.not_false, if_true, Bool.false_eq_true, if_false]
  rfl

variable {k : Nat} {t : Int} {u : State} (serves : k = servingUnit s c) (enter : t = enters s k l)
  (offered : max 1 (parN s bTIC c Par.tcChPrescale) ≤ ph) (counted : u = countEdge c 0 s)
include serves enter offered counted

/-- An offered edge in dead time is only counted. -/
theorem takeEdge_of_deadTime (dead : inDeadTime s k t = true) : takeEdge c l s = (.dead, u) := by
  subst counted enter serves phase
  delta takeEdge
  simp only [offered, dead, decide_true, Bool.not_true, if_true, Bool.false_eq_true, if_false]
  rfl

/-- Any other offered edge is stamped, begins the next dead time and serves the comparison of a swap. -/
theorem takeEdge_of_idle {v : State} (idle : inDeadTime s k t = false)
    (compared : v = comparePair c k l (modInterp k (fun x => { x with last := some t }) u)) :
    takeEdge c l s = (.stamped (stampOf s c k l), v) := by
  subst compared counted enter serves phase
  delta takeEdge
  simp only [offered, idle, decide_true, Bool.not_true, if_true, Bool.false_eq_true, if_false]
  rfl

end

section
variable {falling : Bool}

theorem effTicEdge_of_unselected (off : rTic s = false ∨ 25 ≤ c ∨
    (parN s bTIC c Par.tcChEdge = 0 ∧ falling = true) ∨ (parN s bTIC c Par.tcChEdge = 1 ∧ falling = false)) :
    effTicEdge c falling l s = s := if_pos (by simpa [or_assoc] using off)

section
variable {v : State} (ready : rTic s = true) (known : c < 25)
  (notRising : ¬ (parN s bTIC c Par.tcChEdge = 0 ∧ falling = true))
  (notFalling : ¬ (parN s bTIC c Par.tcChEdge = 1 ∧ falling = false))
include ready known notRising notFalling

theorem ticEdge_selected : (!rTic s || 25 ≤ c || (parN s bTIC c Par.tcChEdge == 0 && falling) ||
    (parN s bTIC c Par.tcChEdge == 1 && !falling)) ≠ true := by
  simp [ready, known, notRising, notFalling]

theorem effTicEdge_of_passed (passed : takeEdge c l s = (.passed, v)) : effTicEdge c falling l s = v := by
  delta effTicEdge
  rw [if_neg (ticEdge_selected ready known notRising notFalling), passed]

theorem effTicEdge_of_dead (dead : takeEdge c l s = (.dead, v)) : effTicEdge c falling l s = v := by
  delta effTicEdge
  rw [if_neg (ticEdge_selected ready known notRising notFalling), dead]

variable {stamp : Nat} (stamped : takeEdge c l s = (.stamped stamp, v))
include stamped

theorem effTicEdge_of_unowned (unowned : measOf v c = none) : effTicEdge c falling l s = v := by
  delta effTicEdge
  rw [if_neg (ticEdge_selected ready known notRising notFalling), stamped]
  dsimp only
  rw [unowned]

variable {m : Meas} (owner : measOf v c = some m)
include owner

/-- A measurement that still waits for calibration pairs takes no edge (R186). -/
theorem effTicEdge_of_calibrating (waits : m.cal ≠ []) : effTicEdge c falling l s = v := by
  delta effTicEdge
  rw [if_neg (ticEdge_selected ready known notRising notFalling), stamped]
  dsimp only
  rw [owner]
  exact if_pos (by simpa using waits)

/-- A stamped edge goes to the open measurement of its channel, by mode. -/
theorem effTicEdge_of_open {at_ : Int} (opened : m.cal = []) (due : at_ = dueOf v stamp) :
    effTicEdge c falling l s =
      if m.args.mode = 0 then
        measCount m
          (pushRec c 0 falling (interp v (servingUnit v c)).stale (wrapN 48 at_) (ticCh v c).count 0 false c v)
      else if m.args.mode = 1 then (if c = 24 then startEdge m at_ v else stopEdge c m at_ falling v)
      else gateEdge c at_ v := by
  subst due
  delta effTicEdge
  rw [if_neg (ticEdge_selected ready known notRising notFalling), stamped]
  dsimp only
  rw [owner]
  exact if_neg (by simp [opened])

end

end

/-! ### Calibration pairs (R185, R186, R199) -/

section
variable {i : Nat} {c1 c2 : Latch}

theorem effCalPair_of_notReady (unready : rTic s = false) : effCalPair i c1 c2 s = s := if_pos (by simp [unready])

section
variable {t u : State} (ready : rTic s = true) (known : i < 31)
  (marked : t = if inDeadTime s i (bareTime s) then s
    else modInterp i (fun x => { x with last := some (bareTime s) }) s)
  (ran : u = pairRan i (comparePair (pinServed t i) i c2 (comparePair (pinServed t i) i c1 t)))
  {p1 d : Int} (from1 : p1 = tapPos u i c1.code) (apart : d = tapPos u i c2.code - p1)
include ready known marked ran from1 apart

/-- A pair that lies too close or too far apart raises fault 1. -/
theorem effCalPair_of_bad (bad : d < 400 * 65536 ∨ 700 * 65536 < d) : effCalPair i c1 c2 s = raise bTIC 1 u := by
  subst apart from1 ran marked
  exact (if_neg (by simp [ready, known])).trans (if_pos bad)

/-- A good pair is filtered into scale and offset, taken whole at first; with no unit stale any more CAL_STALE ends. -/
theorem effCalPair_of_good {first : Bool} {sc o : Int} {v : State}
    (anew : first = ((interp t i).first || (swapOn t i).any (fun w => w.cal == 16)))
    (least : 400 * 65536 ≤ d) (most : d ≤ 700 * 65536)
    (scale : sc = tickPs * 65536 / d) (offset : o = tickPs - sc * p1 / 65536)
    (filtered : v = modInterp i (fun x => { x with
      scale := if first then sc else x.scale + (sc - x.scale) / 16
      offset := if first then o else x.offset + (o - x.offset) / 16
      first := false
      stale := false
      calAt := bareTime s }) u) :
    effCalPair i c1 c2 s = if v.tic.interps.any (fun e => e.2.stale) then v else endCause bTIC 2 v := by
  subst filtered offset scale anew apart from1 ran marked
  exact (if_neg (by simp [ready, known])).trans (if_neg (by omega))

end

end

/-- CAL_STALE of a channel that runs marks its unit once 10 intervals have passed since its last pair. -/
theorem effCalStale_of_running {k : Nat} {t : State} (ready : rTic s = true) (known : c < 25)
    (runs : measOf s c ≠ none ∨ encHolds s c = true) (serves : k = servingUnit s c)
    (passed : t = passTo ((interp s k).calAt + s.guh.stepSum +
      (655360000 * parN s bTIC c Par.tcCalInterval : Nat)) s) :
    effCalStale c s = beginCause bTIC 2 (modInterp k (fun x => { x with stale := true }) t) := by
  subst passed serves
  exact if_neg (by simpa [ready, known, imp_iff_not_or] using runs)

theorem effCalStale_of_notReady (unready : rTic s = false) : effCalStale c s = s := if_pos (by simp [unready])

theorem effCalStale_of_unused (free : measOf s c = none) (held : encHolds s c = false) : effCalStale c s = s :=
  if_pos (by simp [free, held])

/-! ### Encoders (R195, R196) -/

theorem effEncoderEdge_of_notReady {e : Nat} {a b : PinLevel} (unready : rTic s = false) :
    effEncoderEdge e a b l s = s := if_pos (by simp [unready])

section
variable {e : Nat} {a b : PinLevel} {x : Enc} {a' b' : Bool} (was : x = encOf s e)
  (newA : a' = acceptedLevel s e x.a a) (newB : b' = acceptedLevel s e x.b b)
include was newA newB

theorem effEncoderEdge_of_still (sameA : x.a = a') (sameB : x.b = b') : effEncoderEdge e a b l s = s := by
  subst newA newB was
  exact if_pos (by simp [← sameA, ← sameB])

variable (ready : rTic s = true) (known : e < 8) (on : x.on = true)
include ready known on

/-- Levels that both change are a quadrature error. -/
theorem effEncoderEdge_of_both (movedA : x.a ≠ a') (movedB : x.b ≠ b') :
    effEncoderEdge e a b l s = raise bTIC 3 (modEnc e (fun x => { x with
      a := a', b := b', quadErr := (x.quadErr + 1) % 2 ^ 32, quadDue := true }) s) := by
  subst newA newB was
  exact (if_neg (by simp [ready, known, on, movedA])).trans (if_pos (by simp [movedA, movedB]))

/-- One changed level is a count, and its edge is taken. -/
theorem effEncoderEdge_of_one (one : x.a ≠ a' ↔ x.b = b') {down : Bool}
    (turn : down = (countsUp x.a x.b a' b' == (parN s bTIC (0x40 + e) Par.tcEncDir == 1))) :
    effEncoderEdge e a b l s =
      encTaken e (3 * e + b2n (x.b != b')) (!(if x.b != b' then b' else a')) false l
        (modEnc e (fun x => { x with
          a := a', b := b', down := down, pos := encStep x.pos down
          zLast := if x.down = down then x.zLast else none }) s) := by
  have notStill : ¬ (x.a = a' ∧ x.b = b') := fun ⟨sameA, sameB⟩ => one.mpr sameB sameA
  have notBoth : ¬ (x.a ≠ a' ∧ x.b ≠ b') := fun ⟨movedA, movedB⟩ => movedB (one.mp movedA)
  subst turn newA newB was
  exact (if_neg (by simpa [ready, known, on] using notStill)).trans (if_neg (by simpa using notBoth))

end

section
variable {e : Nat} {falling : Bool}

theorem effEncZ_of_notReady (unready : rTic s = false) : effEncZ e falling l s = s := if_pos (by simp [unready])

variable {t : State} (ready : rTic s = true) (known : e < 8) (on : (encOf s e).on = true)
  (taken : t = encTaken e (3 * e + 2) falling true l s)
include ready known on taken

theorem effEncZ_of_falling (falls : falling = true) : effEncZ e falling l s = t := by
  subst taken
  exact (if_neg (by simp [ready, known, on])).trans (if_pos falls)

variable (rises : falling = false)
include rises

theorem effEncZ_of_unmoded (unmoded : parN s bTIC (0x40 + e) Par.tcEncZMode = 0) :
    effEncZ e falling l s = modEnc e (fun x => { x with zLast := none }) t := by
  subst taken
  exact (if_neg (by simp [ready, known, on])).trans ((if_neg (by simp [rises])).trans (if_pos unmoded))

/-- A rising Z edge is checked, and in mode 2 the first one sets the position, which is reported. -/
theorem effEncZ_of_moded (moded : parN s bTIC (0x40 + e) Par.tcEncZMode ≠ 0) {u v : State} {set : Bool} {pos : Int}
    (checked : u = zCheck e t) (sets : set = (parN s bTIC (0x40 + e) Par.tcEncZMode == 2 && !(encOf u e).zSet))
    (position : pos = if set then par u bTIC (0x40 + e) Par.tcEncZPosition else (encOf u e).pos)
    (placed : v = modEnc e (fun x => { x with pos := pos, zSet := x.zSet || set, zLast := some pos }) u) :
    effEncZ e falling l s = if set then report bTIC 0x06 [w32 e, w32 (wrapN 32 pos)] v else v := by
  subst placed position sets checked taken
  exact (if_neg (by simp [ready, known, on])).trans ((if_neg (by simp [rises])).trans (if_neg moded))

end

/-! ### Monitor sources (R198) -/

section
variable {src edges : Nat}

theorem effMonitorMark_of_inert (inert : rTic s = false ∨ monitorOk s src = false ∨ edges = 0) :
    effMonitorMark src edges l s = s := if_pos (by simpa [or_assoc] using inert)

variable {m : Mon} {near : Bool} (ready : rTic s = true) (listed : monitorOk s src = true) (moved : edges ≠ 0)
  (source : m = mon s src)
  (close : near = m.marks.head?.any
    (fun q => decide (10 * (dueOf s l.tick - s.guh.stepSum - q.2) < 9 * (perSecU : Int))))
include ready listed moved source close

/-- A PPS input ignores an edge too soon after its last mark (R140). -/
theorem effMonitorMark_of_near (pps : ppsSource s src = true) (soon : near = true) :
    effMonitorMark src edges l s = s := by
  subst close source
  exact (if_neg (by simp [ready, listed, moved])).trans (if_pos (Bool.and_eq_true_iff.mpr ⟨pps, soon⟩))

variable (counts : ppsSource s src = false ∨ near = false) {t : State}
  (counted : t = modMon src (fun x => { x with count := m.count + edges }) s)
include counts counted

theorem effMonitorMark_of_noMark (freq : ppsSource s src = false) (unowed : m.owed = false)
    (same : wholeMs t src (m.count + edges) = wholeMs t src m.count) : effMonitorMark src edges l s = t := by
  subst counted close source
  exact (if_neg (by simp [ready, listed, moved])).trans
    ((if_neg (by simp [freq])).trans (if_pos (by simp [freq, unowed, same])))

variable (marks : ppsSource s src = true ∨ m.owed = true ∨
  wholeMs t src (m.count + edges) ≠ wholeMs t src m.count)
include marks

/-- A mark that finds every monitor interpolator busy is owed. -/
theorem effMonitorMark_of_busy (busy : freeMonitor t l = none) :
    effMonitorMark src edges l s = modMon src (fun x => { x with owed := true }) t := by
  subst counted close source
  exact (if_neg (by simp [ready, listed, moved])).trans
    ((if_neg (ne_true_of_eq_false (Bool.and_eq_false_iff.mpr counts))).trans
      ((if_neg (by simpa [or_iff_not_imp_left] using marks)).trans (by rw [busy])))

theorem effMonitorMark_of_free {k : Nat} (free : freeMonitor t l = some k) :
    effMonitorMark src edges l s = markStamped src k l t := by
  subst counted close source
  exact (if_neg (by simp [ready, listed, moved])).trans
    ((if_neg (ne_true_of_eq_false (Bool.and_eq_false_iff.mpr counts))).trans
      ((if_neg (by simpa [or_iff_not_imp_left] using marks)).trans (by rw [free])))

end

/-! ### Measurements (R190, R191) -/

section
variable {m : Meas}

theorem effIntervalTimeout_of_open {o : OpenStart} (first : s.tic.meas.find? (fun m => m.start.isSome) = some m)
    (opened : m.start = some o) :
    effIntervalTimeout s = closeStart m o (o.stamp + m.args.timeout) true s := by
  delta effIntervalTimeout
  rw [first]
  dsimp only
  rw [opened]

theorem effIntervalTimeout_of_none (closed : s.tic.meas.find? (fun m => m.start.isSome) = none) :
    effIntervalTimeout s = s := by
  delta effIntervalTimeout
  rw [closed]

/-- FREQ_DONE of a channel in a measurement. -/
theorem effFreqDone_of_owned (owner : measOf s c = some m) :
    effFreqDone c s = if m.args.mode = 2 ∧ m.live.testBit c then gateDone c m s else s := by
  delta effFreqDone
  rw [owner]

theorem effFreqDone_of_unowned (unowned : measOf s c = none) : effFreqDone c s = s := by
  delta effFreqDone
  rw [unowned]

end

/-! ### Interpolator swaps (R199) -/

theorem effInterpSwapped_of_none (still : s.tic.swap = none) : effInterpSwapped s = s := by
  delta effInterpSwapped
  rw [still]

theorem effInterpMismatch_of_none (still : s.tic.swap = none) : effInterpMismatch s = s := if_neg (by simp [still])

section
variable {w : TicSwap} (swaps : s.tic.swap = some w)
include swaps

theorem effInterpSwapped_of_waiting (waits : govGranted s (.interpSwap w.unit) = false ∨ w.passed = false) :
    effInterpSwapped s = s := by
  delta effInterpSwapped
  rw [swaps]
  exact if_pos (by simpa using waits)

/-- A swap that has passed under its grant exchanges the units, or brings the displaced one back, and completes. -/
theorem effInterpSwapped_of_passed (granted : govGranted s (.interpSwap w.unit) = true) (passed : w.passed = true)
    {u x out : Nat} {back : Bool} {v : State} (unit : u = w.unit) (spare : x = w.spare) (leaves : out = servingUnit s u)
    (returns : back = (servingUnit s u == x))
    (completed : v = completeWith 0x0F02 (unitKey bTIC u) bTIC 0x04 [w32 u, w32 (if back then u else x)] stOk
      (modTic (fun t => { t with
        x0 := if x = 29 then (if back then 0xFF else u) else t.x0
        x1 := if x = 29 then t.x1 else (if back then 0xFF else u)
        swap := none
        meas := t.meas.map (fun m => { m with cal := m.cal.filter (fun e => e.1 ≠ out) }) })
        (govEnd (.interpSwap u) s))) :
    effInterpSwapped s = rotSwapped bTIC u (if back then substituted none bTIC x u (swapCause v bTIC u) v
      else substituted none bTIC u x (swapCause v bTIC u) v) := by
  subst completed returns leaves spare unit
  delta effInterpSwapped
  rw [swaps]
  exact if_neg (by simp [granted, passed])

theorem effInterpMismatch_of_unpassed (fails : w.passed = false) (seen : 2 ^ 20 ≤ w.seen) :
    effInterpMismatch s = interpFails (raise bTIC 5 s) := if_pos (by simpa [swaps, fails] using seen)

theorem effInterpMismatch_of_undecided (undecided : w.passed = true ∨ w.seen < 2 ^ 20) : effInterpMismatch s = s :=
  if_neg (by simpa [swaps, imp_iff_not_or] using undecided)

/-- A stamp of both units under the swap's grant is one more pair of its comparison. -/
theorem comparePair_of_swap {k y : Nat} (both : l.other = some y) (serves : k = servingUnit s w.unit) (ran : w.cal = 0)
    (granted : govGranted s (.interpSwap w.unit) = true) {d : Int}
    (diff : d = signed48 (stampOf s c (comesIn s w) { l with code := y }) (stampOf s c k l)) :
    comparePair c k l s = modTic (fun t => { t with swap := some (w.compare d) }) s := by
  subst diff serves
  delta comparePair
  rw [swaps, both]
  exact if_pos (by simp [ran, granted])

end

section
variable {d : Int} (w : TicSwap)

/-- A pair more than 25 ps apart starts the row anew. -/
theorem TicSwap.compare_of_far (far : 25 * 65536 < |d| * 1000) :
    w.compare d = { w with seen := w.seen + 1, diffs := [] } := by
  delta TicSwap.compare
  dsimp only
  rw [if_neg far.not_ge]
  simp

theorem TicSwap.compare_of_near (near : |d| * 1000 ≤ 25 * 65536) {ds : List Int} {q : Bool}
    (row : ds = (d :: w.diffs).take 4096)
    (pass : q = (w.passed || (ds.length == 4096 && decide (|ds.foldl (· + ·) 0| * 1000 ≤ 4096 * 65536)))) :
    w.compare d = { w with seen := w.seen + 1, diffs := ds, passed := q } := by
  subst pass row
  simp only [TicSwap.compare, if_pos near]

end

end

end Sys2Proof.Machine

namespace Sys2Proof

open Machine

/-- Settles O44, row by row: each leaves what its effect comes to in the case at hand. -/
theorem ticRows : Obligations.TicRows := by
  intro c e i src edges a b l c1 c2 falling s
  refine ⟨fun ready =>
      ⟨fun known notRising notFalling k t ph serves enter phase => ⟨fun below => ?prescaled,
          fun offered u counted => ⟨fun dead => ?dead, fun idle v at_ compared due =>
            have stamped := takeEdge_of_idle phase serves enter offered counted idle compared
            ⟨fun unowned => ?unowned, fun m owner => ⟨fun waits => ?calibrating, fun opened =>
              ⟨fun stamps => ?stamps, fun interval start => ?starts, fun interval stop => ?stops,
                fun gates => ?gates⟩⟩⟩⟩⟩,
        fun off => ?unselected,
        fun known now t u first now_eq marked ran anew p1 d from1 apart => ⟨fun bad => ?badPair,
          fun least most sc o scale offset v filtered => ⟨fun stale => ?stillStale, fun fresh => ?noneStale⟩⟩,
        fun known runs k t serves passed => ?stale, fun free held => ?unused,
        fun known on x a' b' was newA newB => ⟨fun sameA sameB => ?levelsStill, fun movedA movedB => ?levelsBoth,
          fun one down turn => ?levelsOne⟩,
        fun known on t taken => ⟨fun falls => ?zFalls, fun rises unmoded => ?zUnmoded,
          fun rises moded u set pos v checked sets position placed =>
            ⟨fun places => ?zPlaces, fun keeps => ?zKeeps⟩⟩,
        fun listed moved m near source close => ⟨fun pps soon => ?near, fun counts t counted =>
          ⟨fun freq unowed same => ?noMark, fun marks => ⟨fun busy => ?owed, fun k free => ?marked⟩⟩⟩,
        fun inert => ?inert⟩,
    fun unready => ⟨?edgeNotReady, ?pairNotReady, ?staleNotReady, ?encoderNotReady, ?zNotReady, ?markNotReady⟩,
    fun m o first opened => ?timesOut, fun closed => ?noneOpen,
    fun m owner => ⟨fun gates live => ?gateDone, fun other => ?noGate⟩, fun unowned => ?freqUnowned,
    fun w swaps => ⟨fun granted passed u x out back unit spare leaves returns v completed => ?swapped,
      fun waits => ?swapWaits, fun fails seen => ?mismatch, fun undecided => ?undecided⟩,
    fun w k y swaps both serves ran granted d diff => ⟨fun far => ?pairFar, fun near ds row q pass => ?pairNear⟩,
    fun still => ⟨?noSwap, ?noComparison⟩⟩
  case prescaled =>
    exact leaves_of rfl (effTicEdge_of_passed ready known notRising notFalling (takeEdge_of_prescaled phase below))
  case dead =>
    exact leaves_of rfl (effTicEdge_of_dead ready known notRising notFalling
      (takeEdge_of_deadTime phase serves enter offered counted dead))
  case unowned => exact leaves_of rfl (effTicEdge_of_unowned ready known notRising notFalling stamped unowned)
  case calibrating =>
    exact leaves_of rfl (effTicEdge_of_calibrating ready known notRising notFalling stamped owner waits)
  case stamps =>
    exact leaves_of rfl ((effTicEdge_of_open ready known notRising notFalling stamped owner opened due).trans
      (if_pos stamps))
  case starts =>
    exact leaves_of rfl ((effTicEdge_of_open ready known notRising notFalling stamped owner opened due).trans
      ((if_neg (by omega)).trans ((if_pos interval).trans (if_pos start))))
  case stops =>
    exact leaves_of rfl ((effTicEdge_of_open ready known notRising notFalling stamped owner opened due).trans
      ((if_neg (by omega)).trans ((if_pos interval).trans (if_neg stop))))
  case gates =>
    exact leaves_of rfl ((effTicEdge_of_open ready known notRising notFalling stamped owner opened due).trans
      ((if_neg (by omega)).trans (if_neg (by omega))))
  case unselected => exact leaves_of rfl (effTicEdge_of_unselected (.inr off))
  case badPair =>
    subst now_eq
    exact leaves_of rfl (effCalPair_of_bad ready known marked ran from1 apart bad)
  case stillStale =>
    subst now_eq
    exact leaves_of rfl ((effCalPair_of_good ready known marked ran from1 apart anew least most scale offset
      filtered).trans (if_pos stale))
  case noneStale =>
    subst now_eq
    exact leaves_of rfl ((effCalPair_of_good ready known marked ran from1 apart anew least most scale offset
      filtered).trans (if_neg (ne_true_of_eq_false fresh)))
  case stale => exact leaves_of rfl (effCalStale_of_running ready known runs serves passed)
  case unused => exact leaves_of rfl (effCalStale_of_unused free held)
  case levelsStill => exact leaves_of rfl (effEncoderEdge_of_still was newA newB sameA sameB)
  case levelsBoth =>
    exact leaves_of rfl (effEncoderEdge_of_both was newA newB ready known (was ▸ on) movedA movedB)
  case levelsOne => exact leaves_of rfl (effEncoderEdge_of_one was newA newB ready known (was ▸ on) one turn)
  case zFalls => exact leaves_of rfl (effEncZ_of_falling ready known on taken falls)
  case zUnmoded => exact leaves_of rfl (effEncZ_of_unmoded ready known on taken rises unmoded)
  case zPlaces =>
    exact leaves_of rfl ((effEncZ_of_moded ready known on taken rises moded checked sets position placed).trans
      (if_pos places))
  case zKeeps =>
    exact leaves_of rfl ((effEncZ_of_moded ready known on taken rises moded checked sets position placed).trans
      (if_neg (ne_true_of_eq_false keeps)))
  case near => exact leaves_of rfl (effMonitorMark_of_near ready listed moved source close pps soon)
  case noMark =>
    exact leaves_of rfl (effMonitorMark_of_noMark ready listed moved source close counts counted freq unowed same)
  case owed =>
    exact leaves_of rfl (effMonitorMark_of_busy ready listed moved source close counts counted marks busy)
  case marked =>
    exact leaves_of rfl (effMonitorMark_of_free ready listed moved source close counts counted marks free)
  case inert => exact leaves_of rfl (effMonitorMark_of_inert (.inr inert))
  case edgeNotReady => exact leaves_of rfl (effTicEdge_of_unselected (.inl unready))
  case pairNotReady => exact leaves_of rfl (effCalPair_of_notReady unready)
  case staleNotReady => exact leaves_of rfl (effCalStale_of_notReady unready)
  case encoderNotReady => exact leaves_of rfl (effEncoderEdge_of_notReady unready)
  case zNotReady => exact leaves_of rfl (effEncZ_of_notReady unready)
  case markNotReady => exact leaves_of rfl (effMonitorMark_of_inert (.inl unready))
  case timesOut => exact leaves_of rfl (effIntervalTimeout_of_open first opened)
  case noneOpen => exact leaves_of rfl (effIntervalTimeout_of_none closed)
  case gateDone => exact leaves_of rfl ((effFreqDone_of_owned owner).trans (if_pos ⟨gates, live⟩))
  case noGate => exact leaves_of rfl ((effFreqDone_of_owned owner).trans (if_neg (fun ⟨gates, _⟩ => other gates)))
  case freqUnowned => exact leaves_of rfl (effFreqDone_of_unowned unowned)
  case swapped =>
    exact leaves_of rfl (effInterpSwapped_of_passed swaps granted passed unit spare leaves returns completed)
  case swapWaits => exact leaves_of rfl (effInterpSwapped_of_waiting swaps waits)
  case mismatch => exact leaves_of rfl (effInterpMismatch_of_unpassed swaps fails seen)
  case undecided => exact leaves_of rfl (effInterpMismatch_of_undecided swaps undecided)
  case pairFar =>
    exact (comparePair_of_swap swaps both serves ran granted diff).trans (by rw [w.compare_of_far far])
  case pairNear =>
    exact (comparePair_of_swap swaps both serves ran granted diff).trans (by rw [w.compare_of_near near row pass])
  case noSwap => exact leaves_of rfl (effInterpSwapped_of_none still)
  case noComparison => exact leaves_of rfl (effInterpMismatch_of_none still)

end Sys2Proof
end
